-- ==== Sys2Proof/Word.lean ====
section
/-! DEFINITION. The word types of the part and its small index types. -/

namespace Sys2Proof

/-- A byte on the wire, in a frame or in a record. -/
abbrev Byte := BitVec 8

/-- A position number: cycle x 1024 + step, modulo 2^42 (00 "Steps and the line position", R36). -/
abbrev Pos := BitVec 42

/-- A step of the line cycle, 0 to 1023. -/
abbrev LineStep := BitVec 10

/-- The tag of an entry or a held open (R37). -/
abbrev Tag := BitVec 16

/-- A host port: 0 is HP0, 1 is HP1, 2 is HP2 (00 "Numbering"). -/
abbrev Port := Fin 3

/-- A channel, 0 to 11 (00 "Numbering"). -/
abbrev Chan := Fin 12

/-- An interlock group by its place: 0 to 3 stand for the groups 1 to 4. -/
abbrev GroupId := Fin 4

/-- A capture input, 0 to 3. -/
abbrev CapInput := Fin 4

end Sys2Proof
end

