-- ==== Sys2Proof/Syntax.lean ====
section
/-! DEFINITION. The commands: one constructor of `Instr` per row of spec/opcode_table.json, with the row's operands.
Request operands are the payload fields of 11.3 to 11.7 at their width on the wire, so that every payload that a host
can send, well or badly formed, is an operand. -/

namespace Sys2Proof

/-- The two references (00 "Numbering"). -/
inductive RefId
  | a
  | b
deriving DecidableEq, Repr

/-- The direction of a qualified capture edge (R141). -/
inductive EdgeDir
  | rising
  | falling
deriving DecidableEq, Repr

/-- The levels of the four strap pins (R187), high as true. -/
structure Straps where
  addr0 : Bool
  addr1 : Bool
  baud0 : Bool
  baud1 : Bool
deriving DecidableEq, Repr

/-- A byte as HP0 receives it: its data bits, its parity bit and its stop bit, high as true (R176). -/
structure RxByte where
  data : Byte
  parityBit : Bool
  stopBit : Bool
deriving DecidableEq, Repr

/-- What comes on RXD, and the counts from its first start bit, which falls at the present count, to its last stop bit
(R176, R178; log 28). -/
structure OnWire (α : Type) where
  data : α
  counts : Nat
deriving DecidableEq, Repr

/-- The payload of SET DEVICE, 15 bytes (11.5). -/
structure SetDeviceArgs where
  mode : Byte
  offsetA : BitVec 16
  offsetB : BitVec 16
  limit : Byte
  shed : Byte
  gap1 : BitVec 16
  gap2 : BitVec 16
  gap3 : BitVec 16
  gap4 : BitVec 16
deriving DecidableEq, Repr

/-- The payload of SET CHANNEL, 13 bytes: the channel and the configuration block (11.6). -/
structure SetChannelArgs where
  channel : Byte
  closeLead : BitVec 16
  openLead : BitVec 16
  onDwell : BitVec 16
  offDwell : BitVec 16
  group : Byte
  safe : Byte
  feedback : Byte
  verify : Byte
deriving DecidableEq, Repr

/-- The payload of SCHEDULE, 20 bytes (11.7). `dueCycle` is bytes 5 to 8, `dueStep` bytes 9 and 10. -/
structure ScheduleArgs where
  kind : Byte
  channel : Byte
  label : Byte
  tolerance : Byte
  form : Byte
  dueCycle : BitVec 32
  dueStep : BitVec 16
  input : Byte
  edge : Byte
  delay : BitVec 16
  width : BitVec 16
  repeatFlag : Byte
  interval : Byte
  count : Byte
deriving DecidableEq, Repr

/-- The twenty requests of Table 9-1 with their payloads. -/
inductive Request
  | nop
  | attach (keepalive subs : Byte)
  | detach
  | resetPort
  | readStatus
  | clearNotices (notices : Byte)
  | setDevice (a : SetDeviceArgs)
  | readDevice
  | claim (chans : BitVec 16)
  | release (chans : BitVec 16) (mode : Byte)
  | setChannel (a : SetChannelArgs)
  | readChannel (channel : Byte)
  | clearFault (channel : Byte)
  | schedule (a : ScheduleArgs)
  | cancel (form : Byte) (tag : BitVec 16) (channel : Byte)
  | readSchedule (start : Byte)
  | armCapture (input edge count : Byte)
  | disarmCapture (input : Byte)
  | takeEvents (count : Byte)
  | ackEvents (number : BitVec 16)
deriving DecidableEq, Repr

/-- R66: a new debounced level of FBK, high as `closed`, reached `after` counts after the present count (log 4). -/
structure NewFeedback where
  closed : Bool
  after : Nat
deriving DecidableEq, Repr

/-- The commands. A request row carries the port it is sent to and the SEQ byte of its frame. -/
inductive Instr
  | nop (p : Port) (seq : Byte)
  | attach (p : Port) (seq keepalive subs : Byte)
  | detach (p : Port) (seq : Byte)
  | resetPort (p : Port) (seq : Byte)
  | readStatus (p : Port) (seq : Byte)
  | clearNotices (p : Port) (seq notices : Byte)
  | setDevice (p : Port) (seq : Byte) (a : SetDeviceArgs)
  | readDevice (p : Port) (seq : Byte)
  | claim (p : Port) (seq : Byte) (chans : BitVec 16)
  | release (p : Port) (seq : Byte) (chans : BitVec 16) (mode : Byte)
  | setChannel (p : Port) (seq : Byte) (a : SetChannelArgs)
  | readChannel (p : Port) (seq channel : Byte)
  | clearFault (p : Port) (seq channel : Byte)
  | schedule (p : Port) (seq : Byte) (a : ScheduleArgs)
  | cancel (p : Port) (seq form : Byte) (tag : BitVec 16) (channel : Byte)
  | readSchedule (p : Port) (seq start : Byte)
  | armCapture (p : Port) (seq input edge count : Byte)
  | disarmCapture (p : Port) (seq input : Byte)
  | takeEvents (p : Port) (seq count : Byte)
  | ackEvents (p : Port) (seq : Byte) (number : BitVec 16)
  /-- R1, R2: the accumulator reaches P. -/
  | advance
  /-- R27: a qualified rising edge, `after` counts after the present count (log 4). -/
  | referenceEdge (r : RefId) (after : Nat)
  | monitorSilenceLimitExpiry (r : RefId)
  | holdoverExpired
  /-- R147: a qualified edge of a capture input, `after` counts after the present count (log 4). -/
  | captureEdge (i : CapInput) (d : EdgeDir) (after : Nat)
  | captureHoldOffEnd (i : CapInput)
  /-- R66: the debounced level of FBK changes. -/
  | feedbackChange (c : Chan) (f : NewFeedback)
  | verifyTimerExpiry (c : Chan)
  | supplyEntryToLow
  | supplyLeavingLow
  | keepaliveExpiry (p : Port)
  | pendingOpenExecution (c : Chan)
  | drainComplete (c : Chan)
  | powerOnReset
  | pinReset
  /-- R187, R66, R85: release, with the levels that the part samples at it: straps, FBK0 to FBK11, SUPLOW_N. -/
  | resetRelease (straps : Straps) (fbk : BitVec 12) (suplowN : Bool)
  /-- R177: the bytes after the start byte, LEN to CRC, all received without error. -/
  | hp0RequestFrame (bytes : OnWire (List Byte))
  | hp0StrayByte (b : OnWire RxByte)
  /-- R177: the bytes after the start byte, with their parity and stop bits. -/
  | hp0DamagedFrame (bytes : OnWire (List RxByte))
  | hp0ByteGapTimeout
  | hp0DiscardingQuietEnd
  | hp0TransmissionComplete
  /-- R181: the 7-bit address and the bytes after the address byte. -/
  | hp1WriteTransaction (addr : BitVec 7) (bytes : List Byte)
  /-- R182: the 7-bit address and the number of bytes the master clocks. -/
  | hp1ReadTransaction (addr : BitVec 7) (clocked : Nat)
  /-- R184: the whole bytes after the command byte 0x5A. -/
  | hp2RequestTransaction (bytes : List Byte)
  /-- R185: the number of whole bytes the master clocks after the command byte 0xA5. -/
  | hp2ReadTransaction (clocked : Nat)
  /-- R183: a transaction by its first byte and the whole bytes after it. -/
  | hp2BadCommandByte (first : Byte) (rest : List Byte)
  /-- R183: the whole bytes of a transaction begun less than 1 us after the rise of CS_N. -/
  | hp2CsHighTooShort (bytes : List Byte)
  | responseComposed (p : Port)
  /-- R3: the filter qualifies a level (high as true) without producing a rising edge. -/
  | referenceLevelQualified (r : RefId) (high : Bool)
  /-- R141: the filter qualifies its first level after reset. -/
  | captureFirstQualification (i : CapInput) (high : Bool)
deriving DecidableEq, Repr

end Sys2Proof
end

