-- ==== Sys2Proof/Machine/Wire.lean ====
section
/-! DEFINITION. What stands on the wires: parity, the CRC, the request payloads and the form of a request frame. -/

namespace Sys2Proof.Machine

/-- R176: even parity; the parity bit is 1 when the data bits hold an odd number of 1s. -/
def evenParity (b : Byte) : Bool :=
  [0, 1, 2, 3, 4, 5, 6, 7].foldl (fun acc i => acc ^^ b.getLsbD i) false

/-- R176: a parity error or a stop-bit error. -/
def rxError (b : RxByte) : Bool := (b.parityBit != evenParity b.data) || !b.stopBit

/-- A byte received without error. -/
def rxGood (b : Byte) : RxByte := { data := b, parityBit := evenParity b, stopBit := true }

/-- R176: the eleven bits of a byte on RXD or TXD in their order, high as true: the start bit, low; the data bits, least
significant first; the parity bit; the stop bit. -/
def serialBits (b : RxByte) : List Bool :=
  [false, b.data.getLsbD 0, b.data.getLsbD 1, b.data.getLsbD 2, b.data.getLsbD 3, b.data.getLsbD 4, b.data.getLsbD 5,
    b.data.getLsbD 6, b.data.getLsbD 7, b.parityBit, b.stopBit]

/-- R176: the byte that the receiver reads from eleven bits, each sampled at its middle; none without a low start bit. -/
def readSerial : List Bool → Option RxByte
  | [false, d0, d1, d2, d3, d4, d5, d6, d7, parity, stop] =>
    let data : BitVec 8 :=
      BitVec.ofBool d7 ++ BitVec.ofBool d6 ++ BitVec.ofBool d5 ++ BitVec.ofBool d4 ++ BitVec.ofBool d3 ++ BitVec.ofBool d2
        ++ BitVec.ofBool d1 ++ BitVec.ofBool d0
    some { data := data, parityBit := parity, stopBit := stop }
  | _ => none

/-- R176, R179: the bits that send bytes on TXD, back to back. -/
def sentBits (bytes : List Byte) : List Bool := bytes.flatMap fun b => serialBits (rxGood b)

/-- HP0's start of frame, 0xC3 (R177). -/
def startOfFrame : Byte := 0xC3

/-- R173: one shift of the CRC register, with the generator 0x2F when the bit shifted out was 1. -/
def crcShift (c : Byte) : Byte := if c.msb then (c <<< 1) ^^^ 0x2F else c <<< 1

/-- R173, bytewise form: the byte is exclusive-ORed into the register, then eight shifts. -/
def crcByte (c b : Byte) : Byte :=
  crcShift (crcShift (crcShift (crcShift (crcShift (crcShift (crcShift (crcShift (c ^^^ b))))))))

/-- R173: the CRC over the covered bytes, from 0xFF. -/
def crc (bytes : List Byte) : Byte := bytes.foldl crcByte 0xFF

/-- The two bytes of a 16-bit field, most significant first (00 "Names and numbers"). -/
def bytes16 (x : BitVec 16) : List Byte := [x.extractLsb' 8 8, x.extractLsb' 0 8]

/-- The three bytes of a 24-bit field. -/
def bytes24 (x : BitVec 24) : List Byte := [x.extractLsb' 16 8, x.extractLsb' 8 8, x.extractLsb' 0 8]

/-- The four bytes of a 32-bit field. -/
def bytes32 (x : BitVec 32) : List Byte :=
  [x.extractLsb' 24 8, x.extractLsb' 16 8, x.extractLsb' 8 8, x.extractLsb' 0 8]

/-- Table 9-1: the code of a request. -/
def requestCode : Request → Byte
  | .nop => 0x00
  | .attach _ _ => 0x01
  | .detach => 0x02
  | .resetPort => 0x03
  | .readStatus => 0x04
  | .clearNotices _ => 0x05
  | .setDevice _ => 0x06
  | .readDevice => 0x07
  | .claim _ => 0x10
  | .release _ _ => 0x11
  | .setChannel _ => 0x12
  | .readChannel _ => 0x13
  | .clearFault _ => 0x14
  | .schedule _ => 0x20
  | .cancel _ _ _ => 0x21
  | .readSchedule _ => 0x22
  | .armCapture _ _ _ => 0x30
  | .disarmCapture _ => 0x31
  | .takeEvents _ => 0x40
  | .ackEvents _ => 0x41

/-- 11.3 to 11.7: the payload bytes of a request. -/
def requestPayload : Request → List Byte
  | .nop => []
  | .attach keepalive subs => [keepalive, subs]
  | .detach => []
  | .resetPort => []
  | .readStatus => []
  | .clearNotices n => [n]
  | .setDevice a =>
    [a.mode] ++ bytes16 a.offsetA ++ bytes16 a.offsetB ++ [a.limit, a.shed] ++ bytes16 a.gap1 ++ bytes16 a.gap2
      ++ bytes16 a.gap3 ++ bytes16 a.gap4
  | .readDevice => []
  | .claim chans => bytes16 chans
  | .release chans mode => bytes16 chans ++ [mode]
  | .setChannel a =>
    [a.channel] ++ bytes16 a.closeLead ++ bytes16 a.openLead ++ bytes16 a.onDwell ++ bytes16 a.offDwell
      ++ [a.group, a.safe, a.feedback, a.verify]
  | .readChannel c => [c]
  | .clearFault c => [c]
  | .schedule a =>
    [a.kind, a.channel, a.label, a.tolerance, a.form] ++ bytes32 a.dueCycle ++ bytes16 a.dueStep ++ [a.input, a.edge]
      ++ bytes16 a.delay ++ bytes16 a.width ++ [a.repeatFlag, a.interval, a.count]
  | .cancel form tag channel => [form] ++ bytes16 tag ++ [channel]
  | .readSchedule start => [start]
  | .armCapture input edge count => [input, edge, count]
  | .disarmCapture input => [input]
  | .takeEvents n => [n]
  | .ackEvents s => bytes16 s

/-- R154: the code and length check. A code of Table 9-1 with its one payload length gives the request; every other
code or length gives none (BAD_REQUEST). -/
def parseRequest (code : Byte) (payload : List Byte) : Option Request :=
  match code.toNat, payload with
  | 0x00, [] => some .nop
  | 0x01, [k, u] => some (.attach k u)
  | 0x02, [] => some .detach
  | 0x03, [] => some .resetPort
  | 0x04, [] => some .readStatus
  | 0x05, [n] => some (.clearNotices n)
  | 0x06, [m, a1, a0, b1, b0, l, h, w1, w0, x1, x0, y1, y0, z1, z0] =>
    some (.setDevice { mode := m, offsetA := a1 ++ a0, offsetB := b1 ++ b0, limit := l, shed := h, gap1 := w1 ++ w0,
                       gap2 := x1 ++ x0, gap3 := y1 ++ y0, gap4 := z1 ++ z0 })
  | 0x07, [] => some .readDevice
  | 0x10, [c1, c0] => some (.claim (c1 ++ c0))
  | 0x11, [c1, c0, m] => some (.release (c1 ++ c0) m)
  | 0x12, [c, l1, l0, o1, o0, d1, d0, f1, f0, g, u, m, v] =>
    some (.setChannel { channel := c, closeLead := l1 ++ l0, openLead := o1 ++ o0, onDwell := d1 ++ d0,
                        offDwell := f1 ++ f0, group := g, safe := u, feedback := m, verify := v })
  | 0x13, [c] => some (.readChannel c)
  | 0x14, [c] => some (.clearFault c)
  | 0x20, [k, c, l, t, f, y3, y2, y1, y0, s1, s0, i, e, d1, d0, w1, w0, r, v, n] =>
    some (.schedule { kind := k, channel := c, label := l, tolerance := t, form := f, dueCycle := y3 ++ y2 ++ y1 ++ y0,
                      dueStep := s1 ++ s0, input := i, edge := e, delay := d1 ++ d0, width := w1 ++ w0,
                      repeatFlag := r, interval := v, count := n })
  | 0x21, [f, t1, t0, c] => some (.cancel f (t1 ++ t0) c)
  | 0x22, [s] => some (.readSchedule s)
  | 0x30, [i, e, n] => some (.armCapture i e n)
  | 0x31, [i] => some (.disarmCapture i)
  | 0x40, [n] => some (.takeEvents n)
  | 0x41, [s1, s0] => some (.ackEvents (s1 ++ s0))
  | _, _ => none

/-- 10.2: LEN of a request is 2 to 34. -/
def lenInRange (len : Byte) : Bool := decide (2 ≤ len.toNat ∧ len.toNat ≤ 34)

/-- What the front end makes of a complete request (R174, R154). -/
inductive Received
  /-- The CRC byte does not match (R174). -/
  | checkError
  /-- Unknown code, or a payload of the wrong length (R154). -/
  | badRequest
  /-- A request of Table 9-1. -/
  | good (r : Request)
deriving DecidableEq, Repr

/-- A complete request: the SEQ byte as received, and what the checks made of the rest. -/
structure Frame where
  seq : Byte
  body : Received
deriving DecidableEq, Repr

/-- The frame LEN, SEQ, CODE, payload, CRC of a request (10.2). -/
def requestFrame (seq : Byte) (r : Request) : List Byte :=
  let covered := BitVec.ofNat 8 ((requestPayload r).length + 2) :: seq :: requestCode r :: requestPayload r
  covered ++ [crc covered]

/-- R153 steps 1 and 2 over the bytes of a complete frame, LEN to CRC: the CRC, then the code and length. none where the
bytes are no complete frame (LEN out of range, or not LEN + 2 bytes in all). -/
def checkFrame (bytes : List Byte) : Option Frame :=
  match bytes with
  | len :: seq :: code :: rest =>
    if lenInRange len = true ∧ bytes.length = len.toNat + 2 then
      let body :=
        if crc bytes.dropLast ≠ bytes.getLast?.getD 0 then Received.checkError
        else match parseRequest code rest.dropLast with
          | some r => .good r
          | none => .badRequest
      some { seq := seq, body := body }
    else none
  | _ => none

end Sys2Proof.Machine
end

