-- ==== Sys2Proof/WellFormed.lean ====
section
/-! DEFINITION. Which commands are the event their row names. The payload of a request is any bytes of the right width
(the part itself refuses a bad value, R156), so only the rows that name a form of bytes have a check. `exec` gives every
command a meaning, well formed or not: bytes of another form do what R177 to R185 say such bytes do. -/

namespace Sys2Proof

/-- Whether a command is the event its row names. -/
def Instr.wellFormed : Instr → Bool
  -- R177: a complete request frame
  | .hp0RequestFrame bytes => (Machine.checkFrame bytes.data).isSome
  -- R177: a byte other than an error-free start of frame
  | .hp0StrayByte b => !(b.data.data == Machine.startOfFrame && !Machine.rxError b.data)
  -- R177: a LEN out of range, or an error inside the frame
  | .hp0DamagedFrame bytes =>
    bytes.data.any Machine.rxError || (match bytes.data with | len :: _ => !Machine.lenInRange len.data | [] => false)
  -- R183: neither command byte
  | .hp2BadCommandByte first _ => first != 0x5A && first != 0xA5
  -- R183: at least one whole byte
  | .hp2CsHighTooShort bytes => !bytes.isEmpty
  | _ => true

end Sys2Proof
end

