-- ==== Sys2Proof/Decode.lean ====
section
/-! DEFINITION. The decoder over the rows of spec/opcode_table.json that give bits. -/

namespace Sys2Proof

/-- The command that a word spells by the table's bits. No row of the table gives bits (every row's "fields" is empty and
none has "fixed"), so no word spells a command. The bytes of a request frame are read by `Machine.checkFrame`. -/
def decodeTableWord (_nbits _w : Nat) : Option Instr := none

end Sys2Proof
end

