-- ==== Sys2Proof/Machine/Positions.lean ====
section
/-! DEFINITION. Line positions as position numbers (00 "Steps and the line position"). -/

namespace Sys2Proof.Machine

/-- The cycle of a position. -/
def cycleOf (x : Pos) : BitVec 32 := x.extractLsb' 10 32

/-- The step of a position. -/
def stepOf (x : Pos) : LineStep := x.extractLsb' 0 10

/-- The position number of a cycle and a step. -/
def posOf (cycle : BitVec 32) (step : LineStep) : Pos := cycle ++ step

/-- R43: the signed distance of `x` from `q`: (x - q) modulo 2^42, less 2^42 when that is 2^41 or more. R76's elapsed
steps since a recorded position X are `signedDistance current X`. -/
def signedDistance (x q : Pos) : Int := (x - q).toInt

/-- A number of steps as a distance between position numbers. -/
def steps (n : Nat) : Pos := BitVec.ofNat 42 n

end Sys2Proof.Machine
end

