-- ==== Sys2Proof/Config.lean ====
section
/-! DEFINITION. The free values: what the spec leaves to neither side. -/

namespace Sys2Proof

/-- FREE VALUE (log 7). Where the spec says that of several things coming together "either may be taken first", the
model takes one of the k things waiting: the (n-th free value modulo k)-th, n counting the choices made so far
(`State.draws`). It has no body: nothing can be proved of its values, so a claim holds for every order. -/
opaque Config.freeOrder : Nat → Nat

end Sys2Proof
end

