-- ==== Sys2Proof/Machine/State.lean ====
section
/-! DEFINITION. The state of the part, as plain data, and the state right after device reset. INVENTORY.md lists every
field with its rule. -/

namespace Sys2Proof.Machine

/-- A command never stops the part with a fault: the spec gives every command an effect in every state. -/
inductive Fault
deriving DecidableEq, Repr

/-- Refusals. -/
inductive Refusal
  /-- Raised only by an arm of `exec` whose command has no meaning yet; no arm raises it. Safe. -/
  | notModelled (mnemonic : String)
deriving DecidableEq, Repr

/-! ## Line Timebase -/

/-- The lock states (1.4). -/
inductive LockState
  | stopped
  | locked
  | holdover
  | lost
deriving DecidableEq, Repr

/-- The causes of TIMEBASE records (11.10). -/
inductive TimebaseCause
  | acquired
  | missed
  | holdoverExpired
  | relocked
  | selection
  | switched
deriving DecidableEq, Repr

/-- Acquisition (R6): the start edge's count, and the good intervals of the run, oldest first. The good count is the
run's length and the previous good interval its last member; R7 puts the whole run into the history. -/
structure Acquisition where
  start : Option Nat
  run : List Nat
deriving DecidableEq, Repr

/-- R6: no start edge, no previous good interval, a good count of 0. -/
def Acquisition.none : Acquisition := { start := Option.none, run := [] }

/-- The Line Timebase. -/
structure Ltb where
  lock : LockState
  /-- The line position (R1). -/
  pos : Pos
  /-- The step accumulator (R1). -/
  acc : Nat
  /-- The period estimate P in counts (R4). -/
  period : Nat
  /-- The period history, oldest first (R4). -/
  history : List Nat
  started : Bool
  /-- The holdover limit H (R15). -/
  limit : Nat
  /-- The holdover count h (R15). -/
  holdCount : Nat
  missCount : Nat
  relockCount : Nat
  /-- The stray-edge count (R9). -/
  stray : Nat
  /-- The window record's accepted flag (R9). -/
  accepted : Bool
  /-- The window record's rejected count (R9). -/
  rejected : Nat
  /-- The interval base flag (R12). -/
  baseValid : Bool
  /-- The last accepted edge time (R12). -/
  lastAccepted : Option Nat
  acq : Acquisition
deriving DecidableEq, Repr

/-! ## Reference inputs -/

/-- The run of equal samples at the end of what an input filter has seen: the level sampled and how often in a row. -/
structure SampleRun where
  level : Bool
  count : Nat
deriving DecidableEq, Repr

/-- A reference input filter (R3): the qualified level, none while not yet known, and the run of samples. -/
structure RefFilter where
  level : Option Bool
  run : SampleRun
deriving DecidableEq, Repr

/-- A reference monitor (R22). -/
structure Monitor where
  qualified : Bool
  good : Nat
  lastEdge : Option Nat
  lastInterval : Option Nat
deriving DecidableEq, Repr

/-- The reference modes (R25). -/
inductive RefMode
  | fixedA
  | fixedB
  | auto
deriving DecidableEq, Repr

/-- The Reference Selector (R25) and the working offset O that it loads (R26). -/
structure Selector where
  mode : RefMode
  offsetA : LineStep
  offsetB : LineStep
  selected : RefId
  working : LineStep
deriving DecidableEq, Repr

/-! ## Action Schedule -/

/-- The kinds of an entry (R36) with their channel; a PULSE with its width and whether it is in phase SECOND. -/
inductive Action
  | close (c : Chan)
  | openUp (c : Chan)
  | pulse (c : Chan) (width : Nat) (second : Bool)
  | mark
deriving DecidableEq, Repr

/-- The kinds of an entry as codes (11.10). -/
inductive Kind
  | close
  | openUp
  | pulse
  | mark
deriving DecidableEq, Repr

/-- The tolerances (R47). -/
inductive Tolerance
  | lockOnly
  | holdoverOk
  | any
deriving DecidableEq, Repr

/-- Edge selections of triggers and arms (11.10). -/
inductive EdgeSel
  | rise
  | fall
  | both
deriving DecidableEq, Repr

/-- A repeat: interval in cycles, repeat count (0: until cancelled) and remaining count (R36). -/
structure Repeat where
  interval : Nat
  count : Nat
  remaining : Nat
deriving DecidableEq, Repr

/-- A trigger (R36). -/
structure Trigger where
  input : CapInput
  edge : EdgeSel
  delay : Nat
deriving DecidableEq, Repr

/-- An entry of the schedule (R36), less its due and fire positions. -/
structure Entry where
  tag : Tag
  owner : Port
  action : Action
  label : Byte
  tol : Tolerance
  rep : Option Repeat
  trig : Option Trigger
  lastRun : Bool
  /-- The admission sequence (R38). -/
  adm : BitVec 32
deriving DecidableEq, Repr

/-- A PENDING entry: it has a due and a fire position (R36). -/
structure PendingEntry where
  entry : Entry
  due : Pos
  fire : Pos
deriving DecidableEq, Repr

/-- A DEFERRED entry: it has a due position and no fire position (R36). -/
structure DeferredEntry where
  entry : Entry
  due : Pos
deriving DecidableEq, Repr

/-- The Action Schedule: its three collections and two counters. An entry's condition is the collection it is in. -/
structure Schedule where
  /-- The pending list, in firing order (R39). -/
  pending : List PendingEntry
  /-- The waiting set, in admission order (R40). -/
  waiting : List Entry
  /-- The deferred entries, in the order in which they became DEFERRED (R62). -/
  deferred : List DeferredEntry
  tagCounter : Tag
  admCounter : BitVec 32
deriving DecidableEq, Repr

/-! ## Channel Controller -/

/-- A claim with its owner: a channel has an owner exactly when its claim is HELD or RELEASING (R100). -/
inductive Claim
  | free
  | held (owner : Port)
  | releasing (owner : Port)
deriving DecidableEq, Repr

/-- Fault causes (R73). -/
inductive FaultCause
  | closeUnconfirmed
  | openUnconfirmed
  | uncommanded
deriving DecidableEq, Repr

/-- Channel states; the fault cause is present in FAULT and absent otherwise (R65, R73, R75). -/
inductive ChanState
  | opened
  | closing
  | closed
  | opening
  | fault (cause : FaultCause)
deriving DecidableEq, Repr

/-- A pending open (4.7): a held open with tag and label, or a release open. -/
inductive PendingOpen
  | held (tag : Tag) (label : Byte)
  | release
deriving DecidableEq, Repr

/-- Safe states (Table 4-1). -/
inductive SafeState
  | openIt
  | hold
deriving DecidableEq, Repr

/-- A channel's configuration (Table 4-1). The group is none for 0. -/
structure ChanConfig where
  closeLead : BitVec 10
  openLead : BitVec 10
  onDwell : BitVec 16
  offDwell : BitVec 16
  group : Option GroupId
  safe : SafeState
  /-- Feedback mode PRESENT. -/
  present : Bool
  verify : Byte
deriving DecidableEq, Repr

/-- A channel record (R65, R100). -/
structure Channel where
  claim : Claim
  /-- The release tally (R100). -/
  tally : Nat
  state : ChanState
  /-- The drive is on. -/
  drive : Bool
  /-- The feedback field: closed (R66). -/
  feedback : Bool
  /-- The feedback filter's run of samples (R66). -/
  fbkRun : SampleRun
  changePos : Pos
  /-- The dwell settled flag (R76). -/
  settled : Bool
  /-- The verify timer: none while stopped, else the count at which it runs out (R68). -/
  verifyAt : Option Nat
  pendingOpen : Option PendingOpen
  closures : BitVec 32
  cfg : ChanConfig
  /-- The channel is among the occupants of its group (R89, R90). -/
  occupant : Bool
deriving DecidableEq, Repr

/-- A group record (R89), less what the channel records hold of it: its members (their configured group) and its
occupants (their occupant flags). -/
structure Group where
  vacated : Option Pos
  gap : BitVec 10
deriving DecidableEq, Repr

/-- The supply monitor (R85). -/
structure Supply where
  /-- The supply-low flag. -/
  low : Bool
  run : SampleRun
  /-- The shed setting. -/
  shed : Bool
deriving DecidableEq, Repr

/-! ## Session Unit -/

/-- Causes of a session's end (R127). -/
inductive EndCause
  | deviceReset
  | detached
  | expired
  | portReset
deriving DecidableEq, Repr

/-- A subscription set (R118). -/
structure Subs where
  timebase : Bool
  fault : Bool
deriving DecidableEq, Repr

/-- A notice set (R128). -/
structure Notices where
  supplyLow : Bool
  leftLock : Bool
  refSwitched : Bool
  reset : Bool
deriving DecidableEq, Repr

/-- The reasons of a MISSED record (R55). -/
inductive MissReason
  | timebase
  | supply
  | fault
  | busy
  | dwell
  | interlock
  | gap
deriving DecidableEq, Repr

/-- The causes of a CLAIM_ENDED record (R116). -/
inductive EndedCause
  | graceful
  | forced
deriving DecidableEq, Repr

/-- What a record carries besides its sequence number and position, by its kind (11.9). -/
inductive EventBody
  | done (tag : Tag) (label : Byte) (kind : Kind) (second : Bool) (c : Option Chan) (already deferred : Bool)
      (remaining : Nat)
  | missed (tag : Tag) (label : Byte) (kind : Kind) (second : Bool) (c : Option Chan) (reason : MissReason)
      (remaining : Nat)
  | claimEnded (c : Chan) (cause : EndedCause) (removed : Nat)
  | fault (c : Chan) (cause : FaultCause) (owner : Option Port)
  | timebase (new old : LockState) (cause : TimebaseCause) (ref : RefId) (period : Nat)
  | supply (low : Bool) (shed : List Chan)
  | capture (i : CapInput) (d : EdgeDir) (fraction : Nat) (lock : LockState) (remaining : Nat)
  | loss (count : Nat)
deriving DecidableEq, Repr

/-- An event record in a queue (R130). -/
structure EventRecord where
  seq : BitVec 16
  pos : Pos
  body : EventBody
deriving DecidableEq, Repr

/-- A session record (R118). -/
structure Session where
  attached : Bool
  keepalive : Byte
  /-- The keepalive timer: none while stopped, else the count at which it runs out (R122). -/
  expireAt : Option Nat
  subs : Subs
  notices : Notices
  /-- The event queue, oldest first (R130). -/
  queue : List EventRecord
  nextSeq : BitVec 16
  lost : Nat
  lastEnd : EndCause
  /-- The level of the ATTN pin (R138). -/
  attn : Bool
deriving DecidableEq, Repr

/-! ## Capture Unit -/

/-- A capture input filter (R141): the qualified level, none while not yet known, the run of samples, and the hold-off:
none before the first edge, else the last count that the hold-off of the latest edge covers. The timer runs up to that
count. -/
structure CapFilter where
  level : Option Bool
  run : SampleRun
  holdOff : Option Nat
deriving DecidableEq, Repr

/-- An arm record (R144); a remaining count of 0 is continuous capture. -/
inductive Arm
  | idle
  | armed (sel : EdgeSel) (remaining : Nat)
deriving DecidableEq, Repr

/-! ## Port front ends -/

/-- Status codes (Table 9-2). -/
inductive Status
  | ok
  | checkError
  | badRequest
  | badParameter
  | notAttached
  | notOwner
  | heldByOther
  | releasing
  | notStarted
  | tooSoon
  | tooFar
  | scheduleFull
  | notFound
  | entriesPending
  | claimsHeld
  | sharedInUse
  | driveOn
  | feedbackClosed
  | notFaulted
  | badSequence
  | noResponse
deriving DecidableEq, Repr

/-- A response (R157): the request's SEQ, the status and the payload. -/
structure Response where
  seq : Byte
  status : Status
  payload : List Byte
deriving DecidableEq, Repr

/-- The response buffer (R171). PENDING holds the answer that the owning block composed at the taking (R158), and the
count by which it becomes READY at the latest (R172). -/
inductive Buffer
  | empty
  | pending (r : Response) (latest : Nat)
  | ready (r : Response)
deriving DecidableEq, Repr

/-- What every port front end holds (R171, R175). -/
structure FrontEnd where
  buffer : Buffer
  /-- The held request. -/
  held : Option Frame
  frameErrors : Nat
deriving DecidableEq, Repr

/-- The HP0 receiver (R177): in RECEIVING the bytes after the start byte and the count of the last stop bit (R178); in
DISCARDING the count since which RXD has been high. -/
inductive Receiver
  | idle
  | receiving (got : List Byte) (lastStop : Nat)
  | discarding (quietSince : Nat)
deriving DecidableEq, Repr

/-- The HP0 transmitter while SENDING (R179): the frame being sent, and the count at which it began. -/
structure Sending where
  bytes : List Byte
  since : Nat
deriving DecidableEq, Repr

/-- The transaction state of HP1 and of HP2 (R188): waiting for START, or for CS_N to fall, or a transaction under way. -/
inductive Bus
  | waiting
  | active
deriving DecidableEq, Repr

/-! ## Reset and pins -/

/-- Reset sources (R162). -/
inductive ResetSource
  | powerOn
  | pin
deriving DecidableEq, Repr

/-- Whether the part runs or is held in reset, and then whether a power-on hold is under way (R188). -/
inductive Power
  | running
  | inReset (hold : Bool)
deriving DecidableEq, Repr

/-- The levels of the input pins and of the strap pins, as last seen; high as true, bit n for pin n. -/
structure Pins where
  refA : Bool
  refB : Bool
  cap : BitVec 4
  fbk : BitVec 12
  suplowN : Bool
  resetN : Bool
  rxd : Bool
  straps : Straps
deriving DecidableEq, Repr

/-! ## The whole state -/

/-- The state of the part, with the queue of commands that wait for it. -/
structure State where
  /-- The commands that wait, first in, first out. The model's own. -/
  pending : List Instr
  /-- The count clock's count. The model's own (log 5, 8). -/
  now : Nat
  /-- How many free choices have been made. The model's own (log 7). -/
  draws : Nat
  power : Power
  resetSource : ResetSource
  resetRun : SampleRun
  pins : Pins
  /-- The straps as sampled at reset release (R187). -/
  straps : Straps
  ltb : Ltb
  filterA : RefFilter
  filterB : RefFilter
  monA : Monitor
  monB : Monitor
  sel : Selector
  sched : Schedule
  chans : Vector Channel 12
  groups : Vector Group 4
  supply : Supply
  sessions : Vector Session 3
  capFilters : Vector CapFilter 4
  /-- The arm records, one row per port (R144). -/
  arms : Vector (Vector Arm 4) 3
  fronts : Vector FrontEnd 3
  receiver : Receiver
  /-- The HP0 transmitter: none while IDLE (R179). -/
  sending : Option Sending
  /-- HP1's transaction state (R188). -/
  hp1Bus : Bus
  /-- HP2's transaction state (R188): active while CS_N is low. -/
  hp2Bus : Bus
  /-- The bytes the HP1 target sent in the last transaction. The model's own (log 21). -/
  hp1Out : List Byte
  /-- The number of bytes the HP1 target acknowledged in the last transaction, the address byte included: 0 when the
  transaction was not for it. The model's own (log 21). -/
  hp1Acks : Nat
  /-- The bytes HP2 shifted out in the last transaction. The model's own (log 21). -/
  hp2Out : List Byte
deriving DecidableEq, Repr

/-! ## Device reset -/

/-- Table 1-3. -/
def Ltb.reset : Ltb where
  lock := .stopped
  pos := 0
  acc := 0
  period := 80000
  history := [80000, 80000, 80000, 80000, 80000, 80000, 80000, 80000]
  started := false
  limit := 25
  holdCount := 0
  missCount := 0
  relockCount := 0
  stray := 0
  accepted := false
  rejected := 0
  baseValid := false
  lastAccepted := none
  acq := Acquisition.none

/-- An empty run of samples. -/
def SampleRun.none : SampleRun := { level := false, count := 0 }

/-- R3: the qualified level is not yet known. -/
def RefFilter.reset : RefFilter := { level := none, run := SampleRun.none }

/-- R22. -/
def Monitor.reset : Monitor := { qualified := false, good := 0, lastEdge := none, lastInterval := none }

/-- Table 2-2. -/
def Selector.reset : Selector := { mode := .fixedA, offsetA := 0, offsetB := 0, selected := .a, working := 0 }

/-- Table 3-2. -/
def Schedule.reset : Schedule := { pending := [], waiting := [], deferred := [], tagCounter := 0, admCounter := 0 }

/-- Table 4-4, the configuration. -/
def ChanConfig.reset : ChanConfig where
  closeLead := 0
  openLead := 0
  onDwell := 0
  offDwell := 0
  group := none
  safe := .openIt
  present := false
  verify := 20

/-- Table 4-4 and Table 6-2, with the level of FBK sampled at release (R66). -/
def Channel.reset (fbk : Bool) : Channel where
  claim := .free
  tally := 0
  state := .opened
  drive := false
  feedback := fbk
  fbkRun := { level := fbk, count := 0 }
  changePos := 0
  settled := true
  verifyAt := none
  pendingOpen := none
  closures := 0
  cfg := ChanConfig.reset
  occupant := false

/-- Table 5-2. -/
def Group.reset : Group := { vacated := none, gap := 0 }

/-- R85, with the level of SUPLOW_N sampled at release; the shed setting is clear. -/
def Supply.reset (suplowN : Bool) : Supply :=
  { low := !suplowN, run := { level := suplowN, count := 0 }, shed := false }

/-- Table 7-3. -/
def Session.reset : Session where
  attached := false
  keepalive := 0
  expireAt := none
  subs := { timebase := false, fault := false }
  notices := { supplyLow := false, leftLock := false, refSwitched := false, reset := true }
  queue := []
  nextSeq := 0
  lost := 0
  lastEnd := .deviceReset
  attn := false

/-- Table 8-1. -/
def CapFilter.reset : CapFilter := { level := none, run := SampleRun.none, holdOff := none }

/-- The table of R188. -/
def FrontEnd.reset : FrontEnd := { buffer := .empty, held := none, frameErrors := 0 }

/-- The twelve channel records at release, from the sampled FBK levels (R88). -/
def resetChannels (fbk : BitVec 12) : Vector Channel 12 :=
  #v[Channel.reset (fbk.getLsbD 0), Channel.reset (fbk.getLsbD 1), Channel.reset (fbk.getLsbD 2),
     Channel.reset (fbk.getLsbD 3), Channel.reset (fbk.getLsbD 4), Channel.reset (fbk.getLsbD 5),
     Channel.reset (fbk.getLsbD 6), Channel.reset (fbk.getLsbD 7), Channel.reset (fbk.getLsbD 8),
     Channel.reset (fbk.getLsbD 9), Channel.reset (fbk.getLsbD 10), Channel.reset (fbk.getLsbD 11)]

/-- The machine right after device reset: every block at the values its own chapter gives (R188). The levels at the pins,
the reset source and the model's own fields are named in log 8. -/
def State.reset : State where
  pending := []
  now := 0
  draws := 0
  power := .running
  resetSource := .powerOn
  resetRun := SampleRun.none
  pins :=
    { refA := false, refB := false, cap := 0, fbk := 0, suplowN := true, resetN := true, rxd := true,
      straps := { addr0 := false, addr1 := false, baud0 := false, baud1 := false } }
  straps := { addr0 := false, addr1 := false, baud0 := false, baud1 := false }
  ltb := Ltb.reset
  filterA := RefFilter.reset
  filterB := RefFilter.reset
  monA := Monitor.reset
  monB := Monitor.reset
  sel := Selector.reset
  sched := Schedule.reset
  chans := resetChannels 0
  groups := Vector.replicate 4 Group.reset
  supply := Supply.reset true
  sessions := Vector.replicate 3 Session.reset
  capFilters := Vector.replicate 4 CapFilter.reset
  arms := Vector.replicate 3 (Vector.replicate 4 Arm.idle)
  fronts := Vector.replicate 3 FrontEnd.reset
  receiver := .idle
  sending := none
  hp1Bus := .waiting
  hp2Bus := .waiting
  hp1Out := []
  hp1Acks := 0
  hp2Out := []

end Sys2Proof.Machine
end

