-- ==== Sys2Proof/Machine/Ops.lean ====
section
/-! DEFINITION. The named operations over the state: the records of channels, groups, sessions, inputs and ports by number;
free choices; notices; and the placing of event records (R131, R132). -/

namespace Sys2Proof.Machine

/-! ## Records by number -/

/-- The twelve channels in ascending number. -/
def allChans : List Chan := [0, 1, 2, 3, 4, 5, 6, 7, 8, 9, 10, 11]

/-- The four groups. -/
def allGroups : List GroupId := [0, 1, 2, 3]

/-- The three ports. -/
def allPorts : List Port := [0, 1, 2]

/-- The four capture inputs. -/
def allInputs : List CapInput := [0, 1, 2, 3]

/-- The record of a channel. -/
def State.chan (s : State) (c : Chan) : Channel := s.chans.get c

/-- Writes the record of a channel. -/
def State.setChan (s : State) (c : Chan) (ch : Channel) : State :=
  { s with chans := s.chans.set c.val ch c.isLt }

/-- The record of a group. -/
def State.group (s : State) (g : GroupId) : Group := s.groups.get g

/-- Writes the record of a group. -/
def State.setGroup (s : State) (g : GroupId) (r : Group) : State :=
  { s with groups := s.groups.set g.val r g.isLt }

/-- The session record of a port. -/
def State.session (s : State) (p : Port) : Session := s.sessions.get p

/-- Writes the session record of a port. -/
def State.setSession (s : State) (p : Port) (r : Session) : State :=
  { s with sessions := s.sessions.set p.val r p.isLt }

/-- The front end of a port. -/
def State.front (s : State) (p : Port) : FrontEnd := s.fronts.get p

/-- Writes the front end of a port. -/
def State.setFront (s : State) (p : Port) (r : FrontEnd) : State :=
  { s with fronts := s.fronts.set p.val r p.isLt }

/-- The filter of a capture input. -/
def State.capFilter (s : State) (i : CapInput) : CapFilter := s.capFilters.get i

/-- Writes the filter of a capture input. -/
def State.setCapFilter (s : State) (i : CapInput) (f : CapFilter) : State :=
  { s with capFilters := s.capFilters.set i.val f i.isLt }

/-- A port's arm record for an input (R144). -/
def State.arm (s : State) (p : Port) (i : CapInput) : Arm := (s.arms.get p).get i

/-- Writes a port's arm record for an input. -/
def State.setArm (s : State) (p : Port) (i : CapInput) (a : Arm) : State :=
  { s with arms := s.arms.set p.val ((s.arms.get p).set i.val a i.isLt) p.isLt }

/-- The other reference. -/
def otherRef : RefId → RefId
  | .a => .b
  | .b => .a

/-- The monitor of a reference. -/
def State.monitor (s : State) : RefId → Monitor
  | .a => s.monA
  | .b => s.monB

/-- Writes the monitor of a reference. -/
def State.setMonitor (s : State) (r : RefId) (m : Monitor) : State :=
  match r with
  | .a => { s with monA := m }
  | .b => { s with monB := m }

/-- The filter of a reference input. -/
def State.refFilter (s : State) : RefId → RefFilter
  | .a => s.filterA
  | .b => s.filterB

/-- Writes the filter of a reference input. -/
def State.setRefFilter (s : State) (r : RefId) (f : RefFilter) : State :=
  match r with
  | .a => { s with filterA := f }
  | .b => { s with filterB := f }

/-- The owner of a channel, absent when FREE (R100). -/
def ownerOf : Claim → Option Port
  | .free => none
  | .held p => some p
  | .releasing p => some p

/-- The channel's claim is HELD or RELEASING by the port. -/
def State.holds (s : State) (p : Port) (c : Chan) : Bool := decide (ownerOf (s.chan c).claim = some p)

/-- The channel's claim is RELEASING. -/
def isReleasing : Claim → Bool
  | .releasing _ => true
  | _ => false

/-- A bit of a set written. -/
def putBit {n : Nat} (x : BitVec n) (i : Nat) (b : Bool) : BitVec n :=
  if b then x ||| BitVec.ofNat n (2 ^ i) else x &&& ~~~ BitVec.ofNat n (2 ^ i)

/-- The channel set as its 16 bits on the wire: bit n stands for channel n (11.2). -/
def setOf (l : List Chan) : BitVec 16 := l.foldl (fun acc c => putBit acc c.val true) 0

/-- The channels of a set, in ascending number. -/
def chansOf (x : BitVec 16) : List Chan := allChans.filter fun c => x.getLsbD c.val

/-! ## Free choices (log 7) -/

/-- A free choice of one of `k` things. -/
def State.draw (k : Nat) (s : State) : Nat × State :=
  (Config.freeOrder s.draws % k, { s with draws := s.draws + 1 })

/-- The members of a list in an order that the spec leaves free; `n` bounds the members still to choose. -/
def shuffle {α : Type} : Nat → List α → State → List α × State
  | n + 1, x :: y :: l, s =>
    let (i, s) := s.draw (l.length + 2)
    let (rest, s) := shuffle n ((x :: y :: l).eraseIdx i) s
    ((x :: y :: l)[i]?.toList ++ rest, s)
  | _, l, s => (l, s)

/-- The members of a list in a free order. No choice is made where there is nothing to choose. -/
def State.inFreeOrder {α : Type} (l : List α) (s : State) : List α × State := shuffle l.length l s

/-! ## Sessions: notices and records -/

/-- An update made on the three session records. -/
def State.eachSession (f : Session → Session) (s : State) : State :=
  let s := s.setSession 0 (f (s.session 0))
  let s := s.setSession 1 (f (s.session 1))
  s.setSession 2 (f (s.session 2))

/-- R128: a cause sets its notice on all three ports; a notice already set stays set. -/
def State.setNotice (f : Notices → Notices) (s : State) : State :=
  s.eachSession fun r => { r with notices := f r.notices }

/-- R132: the placing of a record in a port's queue. Below depth 16 it is appended with the port's next sequence, and ATTN
is high (R138); at depth 16 it is discarded and the lost count increments, staying at 255. -/
def placeIn (pos : Pos) (body : EventBody) (r : Session) : Session :=
  if r.queue.length < 16 then
    { r with
      queue := r.queue ++ [{ seq := r.nextSeq, pos := pos, body := body }]
      nextSeq := r.nextSeq + 1
      attn := true }
  else { r with lost := min (r.lost + 1) 255 }

/-- R131, a named port: the port receives the record if it is ATTACHED. -/
def State.handTo (p : Port) (pos : Pos) (body : EventBody) (s : State) : State :=
  if (s.session p).attached then s.setSession p (placeIn pos body (s.session p)) else s

/-- A named port that may be absent. -/
def State.handToOwner (p : Option Port) (pos : Pos) (body : EventBody) (s : State) : State :=
  match p with
  | some p => s.handTo p pos body
  | none => s

/-- R131, the ports of a description: each ATTACHED port whose session record meets it receives a copy of its own. -/
def State.handToEach (meets : Session → Bool) (pos : Pos) (body : EventBody) (s : State) : State :=
  s.eachSession fun r => if r.attached && meets r then placeIn pos body r else r

/-- R131: the subscribers of TIMEBASE. -/
def State.handToTimebase (pos : Pos) (body : EventBody) (s : State) : State :=
  s.handToEach (fun r => r.subs.timebase) pos body

/-- R131: the subscribers of FAULT. -/
def State.handToFault (pos : Pos) (body : EventBody) (s : State) : State :=
  s.handToEach (fun r => r.subs.fault) pos body

/-- R131: every attached port. -/
def State.handToAttached (pos : Pos) (body : EventBody) (s : State) : State :=
  s.handToEach (fun _ => true) pos body

/-- R188, log 18: what reaches the part while it is held in reset has no effect. -/
def State.whileRunning (s : State) (f : State → State) : State :=
  match s.power with
  | .running => f s
  | .inReset _ => s

end Sys2Proof.Machine
end

