-- ==== Sys2Proof/Machine/DeviceReset.lean ====
section
/-! DEFINITION. Device reset (R162, R187, R188): its start and its release. -/

namespace Sys2Proof.Machine

/-- R188: every block at the values its own chapter gives, with the levels sampled at release: of FBK0 to FBK11 (R66), of
SUPLOW_N (R85), of the straps (R187). The queue of commands, the count, the pins and the reset source are kept. -/
def blocksReset (straps : Straps) (fbk : BitVec 12) (suplowN : Bool) (s : State) : State :=
  { s with
    straps := straps
    ltb := Ltb.reset
    filterA := RefFilter.reset
    filterB := RefFilter.reset
    monA := Monitor.reset
    monB := Monitor.reset
    sel := Selector.reset
    sched := Schedule.reset
    chans := resetChannels fbk
    groups := Vector.replicate 4 Group.reset
    supply := Supply.reset suplowN
    sessions := Vector.replicate 3 Session.reset
    capFilters := Vector.replicate 4 CapFilter.reset
    arms := Vector.replicate 3 (Vector.replicate 4 Arm.idle)
    fronts := Vector.replicate 3 FrontEnd.reset
    receiver := .idle
    sending := none
    hp1Bus := .waiting
    hp2Bus := .waiting
    hp1Out := []
    hp1Acks := 0
    hp2Out := [] }

/-- R188, R162: a device reset begins. A response being sent is cut off. -/
def beginReset (source : ResetSource) (hold : Bool) (s : State) : State :=
  { blocksReset s.pins.straps s.pins.fbk s.pins.suplowN s with
    power := .inReset hold
    resetSource := source
    resetRun := SampleRun.none }

/-- R188: the supply rises: the part holds itself in reset, whatever it was doing. -/
def powerOn (s : State) : State := beginReset .powerOn true s

/-- R188: RESET_N has been low for 40 counts. In a reset that is under way its source stays as it is (R162). -/
def resetPinLow (s : State) : State :=
  let s := { s with pins := { s.pins with resetN := false } }
  match s.power with
  | .running => beginReset .pin false s
  | .inReset _ => s

/-- R187, R188: reset release, with the levels of the pins as they are then. -/
def releaseReset (s : State) : State :=
  { blocksReset s.pins.straps s.pins.fbk s.pins.suplowN s with power := .running, resetRun := SampleRun.none }

/-- R187, R188: reset release with the levels that are sampled at it. A part that runs is not released. -/
def releaseResetAt (straps : Straps) (fbk : BitVec 12) (suplowN : Bool) (s : State) : State :=
  match s.power with
  | .running => s
  | .inReset _ =>
    releaseReset
      { s with pins := { s.pins with straps := straps, fbk := fbk, suplowN := suplowN, resetN := true } }

end Sys2Proof.Machine
end

