-- ==== Sys2Proof/Machine/Channels.lean ====
section
/-! DEFINITION. Channels and interlock groups (04, 05): dwell, occupancy, the acceptance of commands, override opens and
the entry to FAULT. What follows a change of state (R81) is Work.lean's. -/

namespace Sys2Proof.Machine

/-! ## Occupancy (R90, R91) -/

/-- R90: a member with this record occupies its group. -/
def occupies (ch : Channel) : Bool :=
  match ch.state with
  | .opened => false
  | .closing => true
  | .closed => true
  | .opening => true
  | .fault cause => ch.feedback || decide (cause = .openUnconfirmed)

/-- The channel is among the occupants of the group. -/
def isOccupant (s : State) (g : GroupId) (c : Chan) : Bool :=
  decide ((s.chan c).cfg.group = some g) && (s.chan c).occupant

/-- The occupants of the group (R89). -/
def occupants (s : State) (g : GroupId) : List Chan := allChans.filter (isOccupant s g)

/-- The group is occupied. -/
def groupOccupied (s : State) (g : GroupId) : Bool := allChans.any (isOccupant s g)

/-- R91: the group is vacated at the line position. -/
def vacate (g : GroupId) (s : State) : State := s.setGroup g { s.group g with vacated := some s.ltb.pos }

/-- R90, R91: the occupants of the channel's group are brought up to date for this channel. -/
def updateOccupancy (c : Chan) (s : State) : State :=
  let ch := s.chan c
  match ch.cfg.group with
  | none => s
  | some g =>
    let s := s.setChan c { ch with occupant := occupies ch }
    if ch.occupant && !occupies ch && !groupOccupied s g then vacate g s else s

/-! ## Dwell (R76) -/

/-- R76: a minimum dwell is met: at once while the dwell settled flag is set, else when the elapsed steps since the change
position are at least the dwell. -/
def dwellMet (s : State) (ch : Channel) (dwell : BitVec 16) : Bool :=
  ch.settled || decide ((dwell.toNat : Int) ≤ signedDistance s.ltb.pos ch.changePos)

/-- R76: the dwell settled flag of one channel at an advance or forward snap. -/
def settleChannel (pos : Pos) (ch : Channel) : Channel :=
  if 66048 ≤ signedDistance pos ch.changePos then { ch with settled := true } else ch

/-- R76: the dwell settled flags at an advance or forward snap. -/
def settleDwell (s : State) : State :=
  allChans.foldl (fun s c => s.setChan c (settleChannel s.ltb.pos (s.chan c))) s

/-- R91: a vacated position 2048 or more elapsed steps behind is made absent. -/
def dropVacated (pos : Pos) (g : Group) : Group :=
  match g.vacated with
  | some v => if 2048 ≤ signedDistance pos v then { g with vacated := none } else g
  | none => g

/-- R91: the vacated positions at an advance or forward snap. -/
def dropVacatedPositions (s : State) : State :=
  allGroups.foldl (fun s g => s.setGroup g (dropVacated s.ltb.pos (s.group g))) s

/-! ## Drives and timers -/

/-- R67: the drive goes on: the change position, the dwell settled flag and the closure count. -/
def driveOn (pos : Pos) (ch : Channel) : Channel :=
  { ch with drive := true, changePos := pos, settled := false, closures := ch.closures + 1 }

/-- R67: the drive goes off: the change position and the dwell settled flag. -/
def driveOff (pos : Pos) (ch : Channel) : Channel :=
  { ch with drive := false, changePos := pos, settled := false }

/-- R68: the verify timer started at a count with the channel's verify time, 2000 counts per unit. -/
def startVerify (now : Nat) (ch : Channel) : Channel :=
  { ch with verifyAt := some (now + 2000 * ch.cfg.verify.toNat) }

/-- R70, R71, R79: the state after the drive has gone off for an open: OPEN in mode NONE, else OPENING with the verify
timer started, which passes to OPEN at once if the feedback shows open. -/
def enterOpening (now : Nat) (ch : Channel) : Channel :=
  if ch.cfg.present && ch.feedback then startVerify now { ch with state := .opening }
  else { ch with state := .opened, verifyAt := none }

/-! ## Commands (R77, R78, R92, R93) -/

/-- The answer of the Channel Controller to a command (R49). -/
inductive Answer
  | accepted
  | already
  | refused (reason : MissReason)
deriving DecidableEq, Repr

/-- R92, R93: the group's answer to a close of a member that is OPEN; none lets it pass. -/
def groupRefusal (s : State) (c : Chan) : Option MissReason :=
  match (s.chan c).cfg.group with
  | none => none
  | some g =>
    if allChans.any fun d => decide (d ≠ c) && isOccupant s g d then some .interlock
    else
      match (s.group g).vacated with
      | none => none
      | some v => if signedDistance s.ltb.pos v < ((s.group g).gap.toNat : Int) then some .gap else none

/-- R77: the answer to a close. -/
def closeAnswer (s : State) (c : Chan) : Answer :=
  let ch := s.chan c
  match ch.state with
  | .fault _ => .refused .fault
  | .closing => .refused .busy
  | .opening => .refused .busy
  | .closed => .already
  | .opened =>
    if !dwellMet s ch ch.cfg.offDwell then .refused .dwell
    else
      match groupRefusal s c with
      | some reason => .refused reason
      | none => .accepted

/-- R68: the channel's record after an accepted close. -/
def closeChannel (now : Nat) (pos : Pos) (ch : Channel) : Channel :=
  let ch := driveOn pos ch
  if ch.cfg.present then startVerify now { ch with state := .closing } else { ch with state := .closed }

/-- R77, R68, R94: a close command: its answer, and the channel with its group brought up to date when accepted. -/
def closeCommand (c : Chan) (s : State) : Answer × State :=
  match closeAnswer s c with
  | .accepted => (.accepted, updateOccupancy c (s.setChan c (closeChannel s.now s.ltb.pos (s.chan c))))
  | a => (a, s)

/-- R78: the answer to an open. -/
def openAnswer (s : State) (c : Chan) : Answer :=
  let ch := s.chan c
  match ch.state with
  | .fault _ => .refused .fault
  | .closing => .refused .busy
  | .opening => .refused .busy
  | .opened => .already
  | .closed => if dwellMet s ch ch.cfg.onDwell then .accepted else .refused .dwell

/-- R78, R70: an open command: its answer, and the channel with its group brought up to date when accepted. -/
def openCommand (c : Chan) (s : State) : Answer × State :=
  match openAnswer s c with
  | .accepted =>
    (.accepted, updateOccupancy c (s.setChan c (enterOpening s.now (driveOff s.ltb.pos (s.chan c)))))
  | a => (a, s)

/-- R79: the state of the channel is one that an override open changes. -/
def overrideActs (ch : Channel) : Bool :=
  match ch.state with
  | .closed => true
  | .closing => true
  | _ => false

/-- R79: the record of a CLOSED or CLOSING channel after an override open. A CLOSING channel goes to OPENING, and on to
OPEN at once if its feedback shows open. -/
def overrideChannel (now : Nat) (pos : Pos) (ch : Channel) : Channel :=
  let off := driveOff pos ch
  match ch.state with
  | .closing =>
    if off.feedback then startVerify now { off with state := .opening } else { off with state := .opened, verifyAt := none }
  | _ => enterOpening now off

/-- R79: an override open, with the group brought up to date. -/
def overrideOpen (c : Chan) (s : State) : State :=
  if overrideActs (s.chan c) then
    updateOccupancy c (s.setChan c (overrideChannel s.now s.ltb.pos (s.chan c)))
  else s

/-! ## Entry to FAULT (R73) -/

/-- R73 steps 1 to 3: the drive off if it is on, the verify timer stopped, the state and its cause, the pending open
cleared. -/
def faultChannel (pos : Pos) (cause : FaultCause) (ch : Channel) : Channel :=
  let ch := if ch.drive then driveOff pos ch else ch
  { ch with verifyAt := none, state := .fault cause, pendingOpen := none }

/-- R73 step 4: the FAULT record, to the owner of a HELD or RELEASING channel, to the subscribers of FAULT when FREE. -/
def faultRecord (c : Chan) (cause : FaultCause) (s : State) : State :=
  let owner := ownerOf (s.chan c).claim
  let body := EventBody.fault c cause owner
  match owner with
  | some p => s.handTo p s.ltb.pos body
  | none => s.handToFault s.ltb.pos body

end Sys2Proof.Machine
end

