-- ==== Sys2Proof/Machine/Entries.lean ====
section
/-! DEFINITION. The entry store of the Action Schedule (03): fire positions, the collections, tags, places, removal. -/

namespace Sys2Proof.Machine

/-! ## Entries -/

/-- The kind of an entry. -/
def kindOf : Action → Kind
  | .close _ => .close
  | .openUp _ => .openUp
  | .pulse _ _ _ => .pulse
  | .mark => .mark

/-- The channel of an entry, none for MARK. -/
def chanOf : Action → Option Chan
  | .close c => some c
  | .openUp c => some c
  | .pulse c _ _ => some c
  | .mark => none

/-- The entry is a PULSE in phase SECOND. -/
def isSecond : Action → Bool
  | .pulse _ _ second => second
  | _ => false

/-- The pulse width, 0 when the entry is no PULSE. -/
def widthOf : Action → Nat
  | .pulse _ w _ => w
  | _ => 0

/-- The action in phase FIRST. -/
def firstPhase : Action → Action
  | .pulse c w _ => .pulse c w false
  | a => a

/-- The action in phase SECOND. -/
def secondPhase : Action → Action
  | .pulse c w _ => .pulse c w true
  | a => a

/-- The lead of R36 for a kind and phase, 0 for MARK. -/
def leadOf (s : State) : Action → BitVec 10
  | .close c => (s.chan c).cfg.closeLead
  | .openUp c => (s.chan c).cfg.openLead
  | .pulse c _ false => (s.chan c).cfg.closeLead
  | .pulse c _ true => (s.chan c).cfg.openLead
  | .mark => 0

/-- R36: the fire position of an action with this due position. -/
def fireOf (s : State) (a : Action) (due : Pos) : Pos :=
  match a with
  | .pulse _ w true => due + steps w - (leadOf s a).setWidth 42
  | _ => due - (leadOf s a).setWidth 42

/-- The entry names the channel. -/
def Entry.names (c : Chan) (e : Entry) : Bool := decide (chanOf e.action = some c)

/-! ## The store -/

/-- Every entry in the store: PENDING, WAITING, DEFERRED. -/
def allEntries (d : Schedule) : List Entry :=
  d.pending.map (·.entry) ++ d.waiting ++ d.deferred.map (·.entry)

/-- The number of entries of the store that meet a test. -/
def countEntries (f : Entry → Bool) (d : Schedule) : Nat := (allEntries d).countP f

/-- R41: the entries a port holds, in any condition. -/
def ownCount (d : Schedule) (p : Port) : Nat := countEntries (fun e => decide (e.owner = p)) d

/-- R41: the shared places in use. -/
def sharedUsed (d : Schedule) : Nat := (ownCount d 0 - 8) + (ownCount d 1 - 8) + (ownCount d 2 - 8)

/-- R41: the shared places free. -/
def sharedFree (d : Schedule) : Nat := 24 - sharedUsed d

/-- R41: a place is available to the port. -/
def placeAvailable (d : Schedule) (p : Port) : Bool := decide (ownCount d p < 8 ∨ sharedUsed d < 24)

/-- R56: some entry names the channel. -/
def State.namesChannel (s : State) (c : Chan) : Bool := (allEntries s.sched).any (Entry.names c)

/-- The store without the entries that meet a test. -/
def removeEntries (f : Entry → Bool) (d : Schedule) : Schedule :=
  { d with
    pending := d.pending.filter fun x => !f x.entry
    waiting := d.waiting.filter fun e => !f e
    deferred := d.deferred.filter fun x => !f x.entry }

/-- R63: the removal of entries from the store. -/
def State.removeWhere (f : Entry → Bool) (s : State) : State := { s with sched := removeEntries f s.sched }

/-! ## Tags (R37) -/

/-- The tag of a held open. -/
def heldTag : Option PendingOpen → Option Tag
  | some (.held tag _) => some tag
  | _ => none

/-- R37: the tags in use, of entries in any condition and of held opens. -/
def tagsInUse (s : State) : List Tag :=
  (allEntries s.sched).map (·.tag) ++ allChans.filterMap fun c => heldTag (s.chan c).pendingOpen

/-- R37: the next value of the tag counter: from 65,535 to 1. -/
def tagAfter (t : Tag) : Tag := if t = 0xFFFF then 1 else t + 1

/-- R37: the tag the counter lands on, skipping those in use; `n` bounds the values skipped. -/
def landTag (inUse : List Tag) : Nat → Tag → Tag
  | 0, t => tagAfter t
  | n + 1, t => if inUse.contains (tagAfter t) then landTag inUse n (tagAfter t) else tagAfter t

/-- R37: the tag of the next admission. At most as many values are skipped as tags are in use. -/
def nextTag (s : State) : Tag := landTag (tagsInUse s) (tagsInUse s).length s.sched.tagCounter

/-! ## Insertion (R38, R39) -/

/-- R39: the place of an entry in the pending list: behind every entry whose fire position is the same or earlier. -/
def insertByFire (q : Pos) (x : PendingEntry) : List PendingEntry → List PendingEntry
  | [] => [x]
  | y :: l =>
    if signedDistance y.fire q ≤ signedDistance x.fire q then y :: insertByFire q x l else x :: y :: l

/-- R38, R39: an insertion into the pending list with a new admission sequence. -/
def State.insertPending (e : Entry) (due fire : Pos) (s : State) : State :=
  let adm := s.sched.admCounter + 1
  { s with
    sched :=
      { s.sched with
        admCounter := adm
        pending := insertByFire s.ltb.pos { entry := { e with adm := adm }, due := due, fire := fire } s.sched.pending } }

/-- R38, R40: an insertion into the waiting set with a new admission sequence. -/
def State.insertWaiting (e : Entry) (s : State) : State :=
  let adm := s.sched.admCounter + 1
  { s with
    sched := { s.sched with admCounter := adm, waiting := s.sched.waiting ++ [{ e with adm := adm }] } }

/-! ## Repeats (R53, R55) -/

/-- R53: the repeat after the decrement at the end of a firing. -/
def decrement (r : Repeat) : Repeat := { r with remaining := r.remaining - 1 }

/-- R53: firings remain. -/
def firingsRemain (r : Repeat) : Bool := decide (0 < r.remaining ∨ r.count = 0)

/-- R55: the remaining figure of an entry whose repeat stands as after the decrement of its firing. -/
def remainingFigure (lastRun : Bool) : Option Repeat → Nat
  | none => 0
  | some r => if lastRun then 0 else if r.count = 0 then 255 else r.remaining

/-- R55: the remaining figure of an outcome at an issue. -/
def issueFigure (e : Entry) : Nat := remainingFigure e.lastRun (e.rep.map decrement)

/-- R53: the due position of the next firing. -/
def nextDue (r : Repeat) (due : Pos) : Pos := due + steps (r.interval * 1024)

/-! ## Graceful release of a channel (R63) -/

/-- R63: the last-run flag set on an entry that names the channel. -/
def markLastRun (c : Chan) (e : Entry) : Entry := if e.names c then { e with lastRun := true } else e

/-- R63: the graceful release of a channel: its PENDING and DEFERRED entries marked, its WAITING entries removed. -/
def markChannel (c : Chan) (d : Schedule) : Schedule :=
  { d with
    pending := d.pending.map fun x => { x with entry := markLastRun c x.entry }
    waiting := d.waiting.filter fun e => !e.names c
    deferred := d.deferred.map fun x => { x with entry := markLastRun c x.entry } }

/-! ## Triggers (R57) -/

/-- R57, R144: the selection matches an edge of this direction. -/
def selMatches : EdgeSel → EdgeDir → Bool
  | .both, _ => true
  | .rise, .rising => true
  | .fall, .falling => true
  | _, _ => false

/-- R57: the waiting entry's trigger matches the edge. -/
def triggerMatches (i : CapInput) (d : EdgeDir) (e : Entry) : Bool :=
  match e.trig with
  | some t => decide (t.input = i) && selMatches t.edge d
  | none => false

/-- The delay of an entry's trigger. -/
def triggerDelay (e : Entry) : Nat :=
  match e.trig with
  | some t => t.delay
  | none => 0

/-- R57: the entry moves to the pending list, its due position the edge's position plus the delay. -/
def triggerEntry (pos : Pos) (e : Entry) (s : State) : State :=
  let due := pos + steps (triggerDelay e)
  s.insertPending e due (fireOf s e.action due)

/-- R57: the offer of a capture edge to the waiting set, in admission order. -/
def offerTrigger (i : CapInput) (d : EdgeDir) (pos : Pos) (s : State) : State :=
  let matching := s.sched.waiting.filter (triggerMatches i d)
  let s := { s with sched := { s.sched with waiting := s.sched.waiting.filter fun e => !triggerMatches i d e } }
  matching.foldl (fun s e => triggerEntry pos e s) s

end Sys2Proof.Machine
end

