-- ==== Sys2Proof/Machine/Work.lean ====
section
/-! DEFINITION. The work that one handling sets going in the Action Schedule, the Channel Controller and Claims and Release:
the loop of R46, the work after a change of a channel's state (R81), the resolution of held opens (R52), the drain test
(R106). Each is a task; `Task.run` does one and says which come next, in order, and `runTasks` does them all. -/

namespace Sys2Proof.Machine

/-- A piece of work. -/
inductive Task
  /-- R46, R54: the loop of the Schedule begins. -/
  | fire
  /-- R46: the loop of the Schedule looks at the new head. While this waits, a loop is under way. -/
  | fireOn
  /-- R81: the pending open of the channel is examined. -/
  | examine (c : Chan)
  /-- R106: the drain test of the channel. -/
  | drain (c : Chan)
  /-- R81: the work after a change of the channel's state: the occupancy of its group, its pending open, its release. -/
  | changed (c : Chan)
deriving DecidableEq, Repr

/-! ## Claims (R108, R109) -/

/-- R109, R116: the claim becomes FREE and one CLAIM_ENDED record goes to the former owner with the tally, which is then
set to 0. -/
def endClaim (c : Chan) (cause : EndedCause) (s : State) : State :=
  let ch := s.chan c
  let s := s.setChan c { ch with claim := .free, tally := 0 }
  s.handToOwner (ownerOf ch.claim) s.ltb.pos (.claimEnded c cause ch.tally)

/-- R63: every entry naming the channel is removed, and the number is added to the release tally. -/
def removeChannelEntries (c : Chan) (s : State) : State :=
  let ch := s.chan c
  let n := countEntries (Entry.names c) s.sched
  (s.removeWhere (Entry.names c)).setChan c { ch with tally := ch.tally + n }

/-- R108: completion at FAULT. -/
def completeAtFault (c : Chan) (s : State) : State := endClaim c .graceful (removeChannelEntries c s)

/-- R106: the drain test of a RELEASING channel, with the work that a release open placed sets going (R107). -/
def drainTest (c : Chan) (s : State) : State × List Task :=
  let ch := s.chan c
  if !isReleasing ch.claim then (s, [])
  else
    match ch.state with
    | .fault _ => (completeAtFault c s, [])
    | state =>
      if s.namesChannel c || ch.pendingOpen.isSome then (s, [])
      else
        match state, ch.cfg.safe with
        | .opened, _ => (endClaim c .graceful s, [])
        | _, .hold => (endClaim c .graceful s, [])
        | .closed, .openIt => (s.setChan c { ch with pendingOpen := some .release }, [.examine c])
        | _, .openIt => (s, [])

/-! ## The end of a firing (R53) and the resolution of a held open (R52) -/

/-- R56: the report that the last entry naming a channel has left, which leads to the drain test. -/
def lastEntryReport (a : Action) (s : State) : List Task :=
  match chanOf a with
  | some c => if s.namesChannel c then [] else [.drain c]
  | none => []

/-- R53: an entry is reinserted for its next firing, its phase FIRST, its due one interval later. -/
def reinsertNext (e : Entry) (r : Repeat) (due : Pos) (s : State) : State :=
  let a := firstPhase e.action
  s.insertPending { e with action := a, rep := some r } (nextDue r due) (fireOf s a (nextDue r due))

/-- R53: the end of a firing of an entry that has left the pending list: the decrement, then the next firing or the end. -/
def endFiring (e : Entry) (due : Pos) (s : State) : State × List Task :=
  match e.rep.map decrement with
  | some r =>
    if firingsRemain r && !e.lastRun then (reinsertNext e r due s, [])
    else (s, lastEntryReport e.action s)
  | none => (s, lastEntryReport e.action s)

/-- The DEFERRED entry that carries a tag. -/
def deferredOf (tag : Tag) (d : Schedule) : Option DeferredEntry := d.deferred.find? fun x => decide (x.entry.tag = tag)

/-- R55: the remaining figure of a held open's outcome, from the DEFERRED entry that carries its tag. -/
def deferredFigure : Option DeferredEntry → Nat
  | some x => remainingFigure x.entry.lastRun x.entry.rep
  | none => 0

/-- R52, R54: the DEFERRED entry that carries the tag, if there is one, is reinserted for its next firing, or ended if its
last-run flag has been set. A reinsertion outside a loop of R46 runs a loop at once. DESIGN CHOICE (log 33): a GRACEFUL
release taken before the held open's execution has set the flag, so the entry ends with figure 0 (R52, R55, R63); taken behind
it, it marks the reinserted entry, which fires once more. R114 has the same records for both orders. DESIGN CHOICE (log 34):
the loop runs at every reinsertion outside one (R46), where R54 names those whose fire position has been reached. -/
def resolveDeferred (inLoop : Bool) (tag : Tag) (s : State) : State × List Task :=
  match deferredOf tag s.sched with
  | none => (s, [])
  | some x =>
    let s :=
      { s with sched := { s.sched with deferred := s.sched.deferred.filter fun y => decide (y.entry.tag ≠ tag) } }
    match x.entry.rep with
    | some r =>
      if x.entry.lastRun then (s, lastEntryReport x.entry.action s)
      else (reinsertNext x.entry r x.due s, if inLoop then [] else [.fire])
    | none => (s, lastEntryReport x.entry.action s)

/-- R52: the record of a held open's outcome, to the owner of the channel, then its DEFERRED entry. -/
def resolveHeld (inLoop : Bool) (c : Chan) (tag : Tag) (body : Nat → EventBody) (s : State) : State × List Task :=
  let s := s.handToOwner (ownerOf (s.chan c).claim) s.ltb.pos (body (deferredFigure (deferredOf tag s.sched)))
  resolveDeferred inLoop tag s

/-! ## Pending opens (R81) -/

/-- The channel's pending open field becomes absent. -/
def clearPendingOpen (c : Chan) (s : State) : State := s.setChan c { s.chan c with pendingOpen := none }

/-- R81, R52: the execution of a pending open: the field becomes absent, and that of a held open is reported to the
Schedule in the same handling. -/
def executePendingOpen (inLoop : Bool) (c : Chan) (p : PendingOpen) (already : Bool) (s : State) : State × List Task :=
  let s := clearPendingOpen c s
  match p with
  | .held tag label => resolveHeld inLoop c tag (fun n => .done tag label .pulse true (some c) already true n) s
  | .release => (s, [])

/-- R81: the examination of a pending open: it is put to the channel as an open command. When it executes, a change of
state has its further work, and the drain test is made (R106). -/
def examinePendingOpen (inLoop : Bool) (c : Chan) (s : State) : State × List Task :=
  match (s.chan c).pendingOpen with
  | none => (s, [])
  | some p =>
    match openCommand c s with
    | (.accepted, s) =>
      let (s, tasks) := executePendingOpen inLoop c p false s
      (s, tasks ++ [.examine c, .drain c])
    | (.already, s) =>
      let (s, tasks) := executePendingOpen inLoop c p true s
      (s, tasks ++ [.drain c])
    | (.refused _, s) => (s, [])

/-! ## Issue (R46 to R51) -/

/-- R47: the tolerance test against the lock state. -/
def toleranceMet (tol : Tolerance) (lock : LockState) : Bool :=
  match tol with
  | .lockOnly => decide (lock = .locked)
  | .holdoverOk => decide (lock = .locked ∨ lock = .holdover)
  | .any => true

/-- R48: the issue is a CLOSE or a PULSE's FIRST phase. -/
def isClosing : Action → Bool
  | .close _ => true
  | .pulse _ _ second => !second
  | _ => false

/-- R55: the MISSED record of an issue, to the entry's owner. -/
def missedRecord (e : Entry) (reason : MissReason) (s : State) : State :=
  s.handTo e.owner s.ltb.pos
    (.missed e.tag e.label (kindOf e.action) (isSecond e.action) (chanOf e.action) reason (issueFigure e))

/-- R55: the DONE record of an issue, to the entry's owner. -/
def doneRecord (e : Entry) (already : Bool) (s : State) : State :=
  s.handTo e.owner s.ltb.pos
    (.done e.tag e.label (kindOf e.action) (isSecond e.action) (chanOf e.action) already false (issueFigure e))

/-- R47, R48, R49, R53: an issue that gives MISSED. -/
def issueMissed (x : PendingEntry) (reason : MissReason) (s : State) : State × List Task :=
  endFiring x.entry x.due (missedRecord x.entry reason s)

/-- R50: a PULSE whose FIRST phase gave DONE is reinserted as its SECOND phase; every other firing ends. -/
def afterDone (x : PendingEntry) (s : State) : State × List Task :=
  match x.entry.action with
  | .pulse c w false =>
    let a := Action.pulse c w true
    (s.insertPending { x.entry with action := a } x.due (fireOf s a x.due), [])
  | _ => endFiring x.entry x.due s

/-- R49, R50: an issue that gives DONE. -/
def issueDone (x : PendingEntry) (already : Bool) (s : State) : State × List Task :=
  afterDone x (doneRecord x.entry already s)

/-- R51, R52, R53: the hand-off of a SECOND phase as a held open. The entry becomes DEFERRED, or ends. -/
def handOff (x : PendingEntry) (c : Chan) (s : State) : State × List Task :=
  let s := s.setChan c { s.chan c with pendingOpen := some (.held x.entry.tag x.entry.label) }
  match x.entry.rep.map decrement with
  | some r =>
    if firingsRemain r && !x.entry.lastRun then
      ({ s with
          sched :=
            { s.sched with
              deferred := s.sched.deferred ++ [{ entry := { x.entry with rep := some r }, due := x.due }] } }, [])
    else (s, lastEntryReport x.entry.action s)
  | none => (s, lastEntryReport x.entry.action s)

/-- R51: a refusal that hands a SECOND phase over: BUSY or DWELL. -/
def handsOver : MissReason → Bool
  | .busy => true
  | .dwell => true
  | _ => false

/-- R49: the outcome of the Channel Controller's answer. A change of the channel's state has its further work (R81) once
the outcome is recorded and the entry reinserted or ended. -/
def issueAnswered (x : PendingEntry) (c : Chan) (a : Answer) (s : State) : State × List Task :=
  match a with
  | .accepted =>
    let (s, tasks) := issueDone x false s
    (s, tasks ++ [.examine c, .drain c])
  | .already => issueDone x true s
  | .refused reason =>
    if isSecond x.entry.action && handsOver reason && (s.chan c).pendingOpen.isNone then handOff x c s
    else issueMissed x reason s

/-- R46 to R49: the issue of an entry that has left the pending list. -/
def issue (x : PendingEntry) (s : State) : State × List Task :=
  let a := x.entry.action
  if !isSecond a && !toleranceMet x.entry.tol s.ltb.lock then issueMissed x .timebase s
  else if isClosing a && s.supply.low then issueMissed x .supply s
  else
    match chanOf a with
    | none => issueDone x false s
    | some c =>
      let (answer, s) := if isClosing a then closeCommand c s else openCommand c s
      issueAnswered x c answer s

/-- R46: the fire position has been reached: its signed distance from the offered position is 0 or less. -/
def reached (s : State) (x : PendingEntry) : Bool := decide (signedDistance x.fire s.ltb.pos ≤ 0)

/-- R46: the head of the pending list has been reached. -/
def headReached (s : State) : Bool :=
  match s.sched.pending with
  | x :: _ => reached s x
  | [] => false

/-- R46: one turn of the loop: while the head has been reached, it is removed and issued. -/
def fireHead (s : State) : State × List Task :=
  match s.sched.pending with
  | [] => (s, [])
  | x :: l =>
    if reached s x then
      let (s, tasks) := issue x { s with sched := { s.sched with pending := l } }
      (s, tasks ++ [.fireOn])
    else (s, [])

/-! ## Doing the work -/

/-- One task, with the tasks that come next. `inLoop`: a loop of R46 is under way. -/
def Task.run (inLoop : Bool) (t : Task) (s : State) : State × List Task :=
  match t with
  | .fire => fireHead s
  | .fireOn => fireHead s
  | .examine c => examinePendingOpen inLoop c s
  | .drain c => drainTest c s
  | .changed c => (updateOccupancy c s, [.examine c, .drain c])

/-- The tasks in order; `n` bounds their number. -/
def runTasks : Nat → List Task → State → State
  | 0, _, s => s
  | _, [], s => s
  | n + 1, t :: ts, s =>
    let (s, new) := t.run (ts.contains .fireOn) s
    runTasks n (new ++ ts) s

/-- A bound on the tasks of one handling that none reaches (log 12). -/
def workFuel : Nat := 2 ^ 64

/-- Tasks done to their end. -/
def work (tasks : List Task) (s : State) : State := runTasks workFuel tasks s

/-- R73: an entry to FAULT: its steps 1 to 4, then the report of a cleared held open, then the work of R81. DESIGN CHOICE
(log 33): a marked DEFERRED entry of the held open's tag ends at that report (R52), before the completion of R108 removes and
counts the entries left, so a release taken before the fault does not count it; R114 has one tally for both orders. DESIGN
CHOICE (log 34): the loop of R46 that the report's reinsertion begins is run at the report, step 5, before step 6 brings the
occupancy up to date, so a close that it issues meets the occupants of before. -/
def enterFault (c : Chan) (cause : FaultCause) (s : State) : State :=
  let ch := s.chan c
  let s := faultRecord c cause (s.setChan c (faultChannel s.ltb.pos cause ch))
  match ch.pendingOpen with
  | some (.held tag label) =>
    let (s, tasks) := resolveHeld false c tag (fun n => .missed tag label .pulse true (some c) .fault n) s
    work (tasks ++ [.changed c]) s
  | _ => work [.changed c] s

/-- R2, R11: a position reached by an advance or a forward snap is offered to the Action Schedule and the Channel
Controller. Where an entry is to be issued and pending opens are to be examined, their order is free (R81). -/
def offerPosition (s : State) : State :=
  let s := dropVacatedPositions (settleDwell s)
  let opens := allChans.filter fun c => (s.chan c).pendingOpen.isSome
  let tasks := opens.map Task.examine ++ (if headReached s then [.fire] else [])
  let (tasks, s) := s.inFreeOrder tasks
  work tasks s

end Sys2Proof.Machine
end

