-- ==== Sys2Proof/Machine/Capture.lean ====
section
/-! DEFINITION. The Capture Unit (08): stamps, arm records, the distribution of an edge. -/

namespace Sys2Proof.Machine

/-- R142: the fraction of the current step, in 256ths, floored. -/
def stampFraction (l : Ltb) : Nat := 256 * l.acc / l.period

/-- R148: the remaining figure that an ARMED record with this remaining count gives. -/
def armFigure (remaining : Nat) : Nat := if remaining = 0 then 255 else remaining - 1

/-- R147: an ARMED record after an edge that it reports. -/
def armAfter (sel : EdgeSel) (remaining : Nat) : Arm :=
  match remaining with
  | 0 => .armed sel 0
  | 1 => .idle
  | k + 2 => .armed sel (k + 1)

/-- R147: one port's arm record at an edge. -/
def reportEdge (i : CapInput) (d : EdgeDir) (s : State) (p : Port) : State :=
  match s.arm p i with
  | .idle => s
  | .armed sel remaining =>
    if selMatches sel d then
      (s.handTo p s.ltb.pos (.capture i d (stampFraction s.ltb) s.ltb.lock (armFigure remaining))).setArm p i
        (armAfter sel remaining)
    else s

/-- R147, R149: a qualified edge is stamped, reported to the arm records of its input, and offered to the Schedule. -/
def distributeEdge (i : CapInput) (d : EdgeDir) (s : State) : State :=
  offerTrigger i d s.ltb.pos (allPorts.foldl (reportEdge i d) s)

end Sys2Proof.Machine
end

