-- ==== Sys2Proof/Machine/Flags.lean ====
section
/-! DEFINITION. The code tables of 11.10 and the status codes of 11.3, as bytes. -/

namespace Sys2Proof.Machine

/-- A flag byte: 0 clear, 1 set (11.2). -/
def flagByte (b : Bool) : Byte := if b then 1 else 0

/-- A number as a byte. -/
def byteOf (n : Nat) : Byte := BitVec.ofNat 8 n

def lockCode : LockState → Byte
  | .stopped => 0
  | .locked => 1
  | .holdover => 2
  | .lost => 3

def refCode : RefId → Byte
  | .a => 0
  | .b => 1

def modeCode : RefMode → Byte
  | .fixedA => 0
  | .fixedB => 1
  | .auto => 2

def timebaseCauseCode : TimebaseCause → Byte
  | .acquired => 1
  | .missed => 2
  | .holdoverExpired => 3
  | .relocked => 4
  | .selection => 5
  | .switched => 6

def endCauseCode : EndCause → Byte
  | .deviceReset => 0
  | .detached => 1
  | .expired => 2
  | .portReset => 3

def resetSourceCode : ResetSource → Byte
  | .powerOn => 0
  | .pin => 1

def claimCode : Claim → Byte
  | .free => 0
  | .held _ => 1
  | .releasing _ => 2

def chanStateCode : ChanState → Byte
  | .opened => 0
  | .closing => 1
  | .closed => 2
  | .opening => 3
  | .fault _ => 4

def faultCauseCode : FaultCause → Byte
  | .closeUnconfirmed => 1
  | .openUnconfirmed => 2
  | .uncommanded => 3

/-- The fault cause of a channel, 0 when absent. -/
def faultCode : ChanState → Byte
  | .fault cause => faultCauseCode cause
  | _ => 0

def pendingOpenCode : Option PendingOpen → Byte
  | none => 0
  | some (.held _ _) => 1
  | some .release => 2

def safeCode : SafeState → Byte
  | .openIt => 0
  | .hold => 1

def groupCode : Option GroupId → Byte
  | none => 0
  | some g => byteOf (g.val + 1)

def endedCode : EndedCause → Byte
  | .graceful => 1
  | .forced => 2

def kindCode : Kind → BitVec 2
  | .close => 0
  | .openUp => 1
  | .pulse => 2
  | .mark => 3

def toleranceCode : Tolerance → BitVec 2
  | .lockOnly => 0
  | .holdoverOk => 1
  | .any => 2

def edgeSelCode : EdgeSel → BitVec 2
  | .rise => 1
  | .fall => 2
  | .both => 3

def edgeDirCode : EdgeDir → Byte
  | .rising => 1
  | .falling => 2

def missCode : MissReason → Byte
  | .timebase => 1
  | .supply => 2
  | .fault => 3
  | .busy => 4
  | .dwell => 5
  | .interlock => 6
  | .gap => 7

/-- Table 9-2. Code 0x0A is not assigned. -/
def statusCode : Status → Byte
  | .ok => 0x00
  | .checkError => 0x01
  | .badRequest => 0x02
  | .badParameter => 0x03
  | .notAttached => 0x04
  | .notOwner => 0x05
  | .heldByOther => 0x06
  | .releasing => 0x07
  | .notStarted => 0x08
  | .tooSoon => 0x09
  | .tooFar => 0x0B
  | .scheduleFull => 0x0C
  | .notFound => 0x0D
  | .entriesPending => 0x0E
  | .claimsHeld => 0x0F
  | .sharedInUse => 0x10
  | .driveOn => 0x11
  | .feedbackClosed => 0x12
  | .notFaulted => 0x13
  | .badSequence => 0x14
  | .noResponse => 0x15

/-- A notice set as its byte (11.2). -/
def noticesByte (n : Notices) : Byte :=
  putBit (putBit (putBit (putBit 0 0 n.supplyLow) 1 n.leftLock) 2 n.refSwitched) 3 n.reset

end Sys2Proof.Machine
end

