-- ==== Sys2Proof/Machine/Records.lean ====
section
/-! DEFINITION. The byte layouts of positions, event records and response frames (11.1, 11.2, 11.9). -/

namespace Sys2Proof.Machine

/-- A line position: the cycle, then the step (11.2). -/
def posBytes (x : Pos) : List Byte := bytes32 (cycleOf x) ++ bytes16 ((stepOf x).setWidth 16)

/-- A position that may be absent: all six bytes 0xFF (11.2). -/
def optPosBytes : Option Pos → List Byte
  | some x => posBytes x
  | none => [0xFF, 0xFF, 0xFF, 0xFF, 0xFF, 0xFF]

/-- A channel or none as a byte (11.2). -/
def optChanByte : Option Chan → Byte
  | some c => byteOf c.val
  | none => 0xFF

/-- A port or none as a byte (11.6, 11.9). -/
def optPortByte : Option Port → Byte
  | some p => byteOf p.val
  | none => 0xFF

/-- 11.9: byte 12 of a DONE or MISSED record. -/
def actionByte (k : Kind) (second : Bool) : Byte := putBit ((kindCode k).setWidth 8) 7 second

/-- 11.9: the kind code of a record and its bytes 9 to 15. -/
def bodyBytes : EventBody → Byte × List Byte
  | .done tag label k second c already deferred remaining =>
    (1, bytes16 tag ++ [label, actionByte k second, optChanByte c, putBit (putBit 0 0 already) 1 deferred, byteOf remaining])
  | .missed tag label k second c reason remaining =>
    (2, bytes16 tag ++ [label, actionByte k second, optChanByte c, missCode reason, byteOf remaining])
  | .claimEnded c cause removed => (3, [byteOf c.val, endedCode cause, byteOf removed, 0, 0, 0, 0])
  | .fault c cause owner => (4, [byteOf c.val, faultCauseCode cause, optPortByte owner, 0, 0, 0, 0])
  | .timebase new old cause ref period =>
    (5, [lockCode new, lockCode old, timebaseCauseCode cause, refCode ref] ++ bytes24 (BitVec.ofNat 24 period))
  | .supply low shed => (6, flagByte low :: bytes16 (setOf shed) ++ [0, 0, 0, 0])
  | .capture i d fraction lock remaining =>
    (7, [byteOf i.val, edgeDirCode d, byteOf fraction, lockCode lock, byteOf remaining, 0, 0])
  | .loss count => (8, [byteOf count, 0, 0, 0, 0, 0, 0])

/-- 11.9: the 16 bytes of a record. -/
def recordBytes (r : EventRecord) : List Byte :=
  (bodyBytes r.body).1 :: bytes16 r.seq ++ posBytes r.pos ++ (bodyBytes r.body).2

/-- 10.2, R173: the response frame: LEN, SEQ, STATUS, the payload, the CRC. -/
def responseFrame (r : Response) : List Byte :=
  let covered := byteOf (r.payload.length + 2) :: r.seq :: statusCode r.status :: r.payload
  covered ++ [crc covered]

/-- R182: the NO_RESPONSE frame. -/
def noResponse : Response := { seq := 0, status := .noResponse, payload := [] }

end Sys2Proof.Machine
end

