-- ==== Sys2Proof/Machine/Operands.lean ====
section
/-! DEFINITION. The parameter check (R156): the payload fields of the requests read as values. A value out of its range or its
set, or an unused byte that is not 0, reads as none (BAD_PARAMETER). -/

namespace Sys2Proof.Machine

/-! ## Common codings (11.2, R156) -/

/-- A channel, 0 to 11. -/
def chanOfByte (b : Byte) : Option Chan := if h : b.toNat < 12 then some ⟨b.toNat, h⟩ else none

/-- A capture input, 0 to 3. -/
def inputOfByte (b : Byte) : Option CapInput := if h : b.toNat < 4 then some ⟨b.toNat, h⟩ else none

/-- A flag, 0 or 1. -/
def flagOfByte (b : Byte) : Option Bool :=
  match b.toNat with
  | 0 => some false
  | 1 => some true
  | _ => none

/-- A channel set that names a channel and none above 11 (R101, R104). -/
def chanSetOf (x : BitVec 16) : Option (List Chan) := if x ≠ 0 ∧ x.toNat < 4096 then some (chansOf x) else none

/-- A notice set: bits 4 to 7 are unused (R129). -/
def noticesOf (b : Byte) : Option Notices :=
  if b.toNat < 16 then
    some { supplyLow := b.getLsbD 0, leftLock := b.getLsbD 1, refSwitched := b.getLsbD 2, reset := b.getLsbD 3 }
  else none

/-- A subscription set: bits 2 to 7 are unused (R119). -/
def subsOf (b : Byte) : Option Subs :=
  if b.toNat < 4 then some { timebase := b.getLsbD 0, fault := b.getLsbD 1 } else none

/-- A 16-bit field that holds a step or a lead, 0 to 1023. -/
def stepOf16 (x : BitVec 16) : Option LineStep := if x.toNat < 1024 then some (x.setWidth 10) else none

/-- A byte that holds a number from 1 up. -/
def nonzeroByte (b : Byte) : Option Byte := if b = 0 then none else some b

/-! ## Enumerations (11.10) -/

/-- A reference mode. -/
def modeOfByte (b : Byte) : Option RefMode :=
  match b.toNat with
  | 0 => some .fixedA
  | 1 => some .fixedB
  | 2 => some .auto
  | _ => none

/-- The release modes (R104). -/
inductive ReleaseMode
  | graceful
  | forced
deriving DecidableEq, Repr

/-- A release mode. -/
def releaseModeOfByte (b : Byte) : Option ReleaseMode :=
  match b.toNat with
  | 0 => some .graceful
  | 1 => some .forced
  | _ => none

/-- A group, 0 to 4; 0 is no group. -/
def groupOfByte (b : Byte) : Option (Option GroupId) :=
  match b.toNat with
  | 0 => some none
  | 1 => some (some 0)
  | 2 => some (some 1)
  | 3 => some (some 2)
  | 4 => some (some 3)
  | _ => none

/-- A safe state. -/
def safeOfByte (b : Byte) : Option SafeState :=
  match b.toNat with
  | 0 => some .openIt
  | 1 => some .hold
  | _ => none

/-- An action kind. -/
def kindOfByte (b : Byte) : Option Kind :=
  match b.toNat with
  | 0 => some .close
  | 1 => some .openUp
  | 2 => some .pulse
  | 3 => some .mark
  | _ => none

/-- A tolerance. -/
def toleranceOfByte (b : Byte) : Option Tolerance :=
  match b.toNat with
  | 0 => some .lockOnly
  | 1 => some .holdoverOk
  | 2 => some .any
  | _ => none

/-- An edge selection; 0 lies outside its codes (11.10). -/
def edgeSelOfByte (b : Byte) : Option EdgeSel :=
  match b.toNat with
  | 1 => some .rise
  | 2 => some .fall
  | 3 => some .both
  | _ => none

/-! ## SET DEVICE (R163) -/

/-- The device settings. -/
structure DeviceSettings where
  mode : RefMode
  offsetA : LineStep
  offsetB : LineStep
  limit : Nat
  shed : Bool
  gap1 : LineStep
  gap2 : LineStep
  gap3 : LineStep
  gap4 : LineStep
deriving DecidableEq, Repr

/-- R163: the settings of a SET DEVICE payload. -/
def deviceOf (a : SetDeviceArgs) : Option DeviceSettings := do
  let mode ← modeOfByte a.mode
  let offsetA ← stepOf16 a.offsetA
  let offsetB ← stepOf16 a.offsetB
  let limit ← nonzeroByte a.limit
  let shed ← flagOfByte a.shed
  let gap1 ← stepOf16 a.gap1
  let gap2 ← stepOf16 a.gap2
  let gap3 ← stepOf16 a.gap3
  let gap4 ← stepOf16 a.gap4
  some { mode, offsetA, offsetB, limit := limit.toNat, shed, gap1, gap2, gap3, gap4 }

/-! ## SET CHANNEL (R82) -/

/-- R82: the configuration of a SET CHANNEL payload. -/
def configOf (a : SetChannelArgs) : Option ChanConfig := do
  let closeLead ← stepOf16 a.closeLead
  let openLead ← stepOf16 a.openLead
  let group ← groupOfByte a.group
  let safe ← safeOfByte a.safe
  let present ← flagOfByte a.feedback
  let verify ← nonzeroByte a.verify
  some { closeLead, openLead, onDwell := a.onDwell, offDwell := a.offDwell, group, safe, present, verify }

/-! ## SCHEDULE (R42) -/

/-- When an entry is to take effect (3.3). -/
inductive Timing
  | absolute (due : Pos)
  | relative (ahead : BitVec 16) (step : LineStep)
  | triggered (t : Trigger)
deriving DecidableEq, Repr

/-- The parameters of a SCHEDULE that pass the parameter check. -/
structure ScheduleParams where
  /-- The kind with its channel and width, in phase FIRST. -/
  action : Action
  label : Byte
  tol : Tolerance
  timing : Timing
  rep : Option Repeat
deriving DecidableEq, Repr

/-- R42: kind, channel and width. A width is 1 to 4095 steps (log 10). -/
def actionOf (a : ScheduleArgs) : Option Action := do
  match ← kindOfByte a.kind with
  | .close => if a.width = 0 then some (.close (← chanOfByte a.channel)) else none
  | .openUp => if a.width = 0 then some (.openUp (← chanOfByte a.channel)) else none
  | .pulse =>
    if 1 ≤ a.width.toNat ∧ a.width.toNat ≤ 4095 then some (.pulse (← chanOfByte a.channel) a.width.toNat false)
    else none
  | .mark => if a.width = 0 ∧ a.channel = 0xFF then some .mark else none

/-- R42: the trigger of a TRIGGERED request. -/
def triggerOf (a : ScheduleArgs) : Option Trigger := do
  let input ← inputOfByte a.input
  let edge ← edgeSelOfByte a.edge
  if 4 ≤ a.delay.toNat then some { input, edge, delay := a.delay.toNat } else none

/-- R42, 11.7: the timing form with its fields; the fields it does not use must be 0 (R156). -/
def timingOf (a : ScheduleArgs) : Option Timing :=
  match a.form.toNat with
  | 0 =>
    if a.input = 0 ∧ a.edge = 0 ∧ a.delay = 0 then (stepOf16 a.dueStep).map fun x => .absolute (posOf a.dueCycle x)
    else none
  | 1 =>
    if a.input = 0 ∧ a.edge = 0 ∧ a.delay = 0 ∧ a.dueCycle.toNat ≤ 65535 then
      (stepOf16 a.dueStep).map fun x => .relative (a.dueCycle.setWidth 16) x
    else none
  | 2 => if a.dueCycle = 0 ∧ a.dueStep = 0 then (triggerOf a).map .triggered else none
  | _ => none

/-- R42, 11.7: the repeat. Without one, its bytes are unused and must be 0. -/
def repeatOf (a : ScheduleArgs) : Option (Option Repeat) := do
  if ← flagOfByte a.repeatFlag then
    let interval ← nonzeroByte a.interval
    some (some { interval := interval.toNat, count := a.count.toNat, remaining := a.count.toNat })
  else if a.interval = 0 ∧ a.count = 0 then some none
  else none

/-- R42: a PULSE is at least as wide as its channel's minimum on dwell. -/
def widthMeetsDwell (s : State) (a : Action) : Bool :=
  match a with
  | .pulse c w _ => decide ((s.chan c).cfg.onDwell.toNat ≤ w)
  | _ => true

/-- R42: the parameter check of SCHEDULE. -/
def scheduleParams (s : State) (a : ScheduleArgs) : Option ScheduleParams := do
  let action ← actionOf a
  let tol ← toleranceOfByte a.tolerance
  let timing ← timingOf a
  let rep ← repeatOf a
  if widthMeetsDwell s action then some { action, label := a.label, tol, timing, rep } else none

/-! ## CANCEL (R59) -/

/-- The forms of CANCEL. -/
inductive CancelForm
  | tag (t : Tag)
  | channel (c : Chan)
  | all
deriving DecidableEq, Repr

/-- R59, 11.4: the form with its field; the field it does not use must be 0 (log 11). -/
def cancelOf (form : Byte) (tag : BitVec 16) (channel : Byte) : Option CancelForm :=
  match form.toNat with
  | 0 => if tag ≠ 0 ∧ channel = 0 then some (.tag tag) else none
  | 1 => if tag = 0 then (chanOfByte channel).map .channel else none
  | 2 => if tag = 0 ∧ channel = 0 then some .all else none
  | _ => none

end Sys2Proof.Machine
end

