-- ==== Sys2Proof/Machine/Claims.lean ====
section
/-! DEFINITION. Claims and release (06). -/

namespace Sys2Proof.Machine

/-! ## Override opens with their work -/

/-- R79, R81: an override open with the work of the change of state that it makes. -/
def overrideWork (c : Chan) (s : State) : State :=
  if overrideActs (s.chan c) then work [.changed c] (overrideOpen c s) else s

/-! ## CLAIM (R101) -/

/-- R101: the refusal of a CLAIM of the set, if there is one. -/
def claimRefusal (p : Port) (set : List Chan) (s : State) : Option Status :=
  if set.any fun c => (ownerOf (s.chan c).claim).isSome && !s.holds p c then some .heldByOther
  else if set.any fun c => isReleasing (s.chan c).claim then some .releasing
  else none

/-- The channels of a set that are FREE. -/
def freeChans (set : List Chan) (s : State) : List Chan := set.filter fun c => decide ((s.chan c).claim = .free)

/-- The channels that a port holds, HELD or RELEASING. -/
def heldChans (p : Port) (s : State) : List Chan := allChans.filter (s.holds p)

/-- R101: a FREE channel becomes HELD with tally 0; another stays as it is. -/
def claimChan (p : Port) (s : State) (c : Chan) : State :=
  if (s.chan c).claim = .free then s.setChan c { s.chan c with claim := .held p, tally := 0 } else s

/-- R101: every FREE channel of the set becomes HELD. -/
def claimChans (p : Port) (set : List Chan) (s : State) : State := set.foldl (claimChan p) s

/-! ## Graceful release (R105) -/

/-- R105: the graceful release of a channel. One already RELEASING is left as it is. -/
def gracefulRelease (c : Chan) (s : State) : State :=
  let ch := s.chan c
  match ch.claim with
  | .held p =>
    let removed := s.sched.waiting.countP (Entry.names c)
    let s := s.setChan c { ch with claim := .releasing p, tally := removed }
    work [.drain c] { s with sched := markChannel c s.sched }
  | _ => s

/-! ## Forced release (R110, R115) -/

/-- R110 steps 2 to 4: the pending open cleared, the claim FREE, the override open when the safe state is OPEN. -/
def freeByForce (c : Chan) (s : State) : State :=
  let ch := s.chan c
  let s := s.setChan c { ch with pendingOpen := none, claim := .free }
  match ch.cfg.safe with
  | .openIt => overrideWork c s
  | .hold => s

/-- R110: the forced release of a channel. -/
def forcedRelease (c : Chan) (s : State) : State :=
  let owner := ownerOf (s.chan c).claim
  let s := freeByForce c (removeChannelEntries c s)
  let s := s.handToOwner owner s.ltb.pos (.claimEnded c .forced (s.chan c).tally)
  s.setChan c { s.chan c with tally := 0 }

/-- R104: the release of the channels of a set, in ascending number. -/
def releaseChans (mode : ReleaseMode) (set : List Chan) (s : State) : State :=
  set.foldl (fun s c => match mode with | .graceful => gracefulRelease c s | .forced => forcedRelease c s) s

/-- R115: the release of one channel at the session end of its owner: steps 2 to 4 of R110, the tally 0, no record. -/
def endHold (p : Port) (s : State) (c : Chan) : State :=
  if s.holds p c then
    let s := freeByForce c s
    s.setChan c { s.chan c with tally := 0 }
  else s

/-- R115: the release of every channel of the port, in ascending number. -/
def releaseForSessionEnd (p : Port) (s : State) : State := allChans.foldl (endHold p) s

end Sys2Proof.Machine
end

