-- ==== Sys2Proof/Machine/Sessions.lean ====
section
/-! DEFINITION. Sessions, notices and event queues (07). -/

namespace Sys2Proof.Machine

/-! ## Keepalive (R122) -/

/-- R119, R122: the count at which a window started at `now` runs out; none for setting 0. -/
def windowEnd (now : Nat) (keepalive : Byte) : Option Nat :=
  if keepalive = 0 then none else some (now + 400000 * keepalive.toNat)

/-- R122: the restart at a request taken from the port while it is ATTACHED. -/
def restartKeepalive (p : Port) (s : State) : State :=
  let r := s.session p
  if r.attached then s.setSession p { r with expireAt := windowEnd s.now r.keepalive } else s

/-! ## Attaching (R120, R121) -/

/-- The frame error count of the port set to 0 (R175). -/
def clearFrameErrors (p : Port) (s : State) : State := s.setFront p { s.front p with frameErrors := 0 }

/-- R120: an ATTACH on a DETACHED port. -/
def openSession (p : Port) (keepalive : Byte) (subs : Subs) (s : State) : State :=
  clearFrameErrors p
    (s.setSession p
      { s.session p with
        attached := true
        keepalive := keepalive
        subs := subs
        expireAt := windowEnd s.now keepalive
        nextSeq := 0
        lost := 0 })

/-- R121: an ATTACH on an ATTACHED port. -/
def renewSession (p : Port) (keepalive : Byte) (subs : Subs) (s : State) : State :=
  s.setSession p
    { s.session p with keepalive := keepalive, subs := subs, expireAt := windowEnd s.now keepalive }

/-! ## Session end (R126) -/

/-- R151: the four arm records of the port become IDLE. -/
def disarmPort (p : Port) (s : State) : State := allInputs.foldl (fun s i => s.setArm p i .idle) s

/-- R126 steps 4 and 5. -/
def endedSession (cause : EndCause) (r : Session) : Session :=
  { r with
    queue := []
    lost := 0
    attn := false
    attached := false
    expireAt := none
    keepalive := 0
    subs := { timebase := false, fault := false }
    lastEnd := cause }

/-- R126: a session end. -/
def sessionEnd (p : Port) (cause : EndCause) (s : State) : State :=
  let s := s.removeWhere fun e => decide (e.owner = p)
  let s := disarmPort p (releaseForSessionEnd p s)
  s.setSession p (endedSession cause (s.session p))

/-- R122: the keepalive timer runs out. -/
def keepaliveExpiry (p : Port) (s : State) : State :=
  match (s.session p).expireAt with
  | some _ => sessionEnd p .expired s
  | none => s

/-! ## Notices (R129) -/

/-- R129: the notices named by the request removed. -/
def clearNotices (n : Notices) (m : Notices) : Notices where
  supplyLow := m.supplyLow && !n.supplyLow
  leftLock := m.leftLock && !n.leftLock
  refSwitched := m.refSwitched && !n.refSwitched
  reset := m.reset && !n.reset

/-! ## The event queue (R135, R136) -/

/-- R135: what stays of a queue when the records up to the one numbered `n` leave it; none when no record carries it. -/
def afterAck (n : BitVec 16) : List EventRecord → Option (List EventRecord)
  | [] => none
  | r :: l => if r.seq = n then some l else afterAck n l

/-- R136: the LOSS record when the lost count is above 0. -/
def appendLoss (pos : Pos) (r : Session) : Session :=
  if 0 < r.lost then { placeIn pos (.loss r.lost) r with lost := 0 } else r

/-- R135, R138: ATTN follows the depth. -/
def setAttn (r : Session) : Session := { r with attn := !r.queue.isEmpty }

/-- R135: the session record after an ACK EVENTS that leaves `rest` of its queue. -/
def ackSession (pos : Pos) (rest : List EventRecord) (r : Session) : Session :=
  setAttn (appendLoss pos { r with queue := rest })

end Sys2Proof.Machine
end

