-- ==== Sys2Proof/Machine/Timebase.lean ====
section
/-! DEFINITION. The Line Timebase, the reference monitors and the Reference Selector (01, 02). Functions here change the
timebase and hand over its records and notices; the offer of a new position to the other blocks is Work.lean's. -/

namespace Sys2Proof.Machine

/-! ## Intervals and the history -/

/-- R6, R23: an interval is good if it lies between 57,143 and 100,000 counts and differs from the previous good one, when
there is one, by at most one thirty-second of it. -/
def goodInterval (i : Nat) (previous : Option Nat) : Bool :=
  decide (57143 ≤ i ∧ i ≤ 100000) &&
    match previous with
    | none => true
    | some q => decide (32 * (max i q - min i q) ≤ q)

/-- R4: the floor of the mean of the 8 intervals. -/
def meanOf (history : List Nat) : Nat := history.sum / 8

/-- R6: an edge at count `t` in acquisition. -/
def acquisitionEdge (t : Nat) (a : Acquisition) : Acquisition :=
  match a.start with
  | none => { a with start := some t }
  | some t0 =>
    if goodInterval (t - t0) a.run.getLast? then { start := some t, run := a.run ++ [t - t0] }
    else { start := some t, run := [] }

/-! ## Working offset, records, lock states -/

/-- The stored offset of a reference (R25). -/
def storedOffset (v : Selector) : RefId → LineStep
  | .a => v.offsetA
  | .b => v.offsetB

/-- R26: the working offset is loaded from the stored offset of the selected reference. -/
def loadOffset (s : State) : State := { s with sel := { s.sel with working := storedOffset s.sel s.sel.selected } }

/-- R13, R29, R32: the window record cleared. -/
def clearWindow (l : Ltb) : Ltb := { l with accepted := false, rejected := 0 }

/-- R19: the TIMEBASE record of a change, to the subscribers of TIMEBASE. -/
def timebaseRecord (new old : LockState) (cause : TimebaseCause) (s : State) : State :=
  s.handToTimebase s.ltb.pos (.timebase new old cause s.sel.selected s.ltb.period)

/-- R19, R20: a change of lock state with its record, and the TIMEBASE_LEFT_LOCK notice on a change out of LOCKED. -/
def changeLock (new : LockState) (cause : TimebaseCause) (s : State) : State :=
  let old := s.ltb.lock
  let s := timebaseRecord new old cause { s with ltb := { s.ltb with lock := new } }
  if old = .locked then s.setNotice fun n => { n with leftLock := true } else s

/-- R6: acquisition begins afresh. -/
def restartAcquisition (s : State) : State := { s with ltb := { s.ltb with acq := Acquisition.none } }

/-! ## The selector -/

/-- R29, R30: an AUTO switch to the other reference, its effect by lock state, its SWITCHED record and its notice. -/
def autoSwitch (s : State) : State :=
  let s := loadOffset { s with sel := { s.sel with selected := otherRef s.sel.selected } }
  let s :=
    match s.ltb.lock with
    | .holdover => { s with ltb := { clearWindow s.ltb with baseValid := false, relockCount := 0 } }
    | .lost => restartAcquisition s
    | .stopped => restartAcquisition s
    | .locked => s
  let s := timebaseRecord s.ltb.lock s.ltb.lock .switched s
  s.setNotice fun n => { n with refSwitched := true }

/-- R28, first case: at entry to HOLDOVER with cause MISSED. -/
def missedSwitchDue (s : State) : Bool :=
  decide (s.sel.mode = .auto) && (s.monitor (otherRef s.sel.selected)).qualified

/-- R28, the standing condition. -/
def standingCondition (s : State) : Bool :=
  decide (s.sel.mode = .auto) && decide (s.ltb.lock ≠ .locked) && !(s.monitor s.sel.selected).qualified &&
    (s.monitor (otherRef s.sel.selected)).qualified

/-- R28: the standing condition is tested, and the switch made when it holds. -/
def testStanding (s : State) : State := if standingCondition s then autoSwitch s else s

/-! ## Entries to lock states -/

/-- R14, R15: entry to HOLDOVER, with the holdover count and the relock count at 0. -/
def enterHoldover (cause : TimebaseCause) (s : State) : State :=
  changeLock .holdover cause { s with ltb := { s.ltb with holdCount := 0, relockCount := 0 } }

/-- R17, R26: entry to LOST, with acquisition restarted and the working offset loaded; then the test of R28. -/
def enterLost (s : State) : State :=
  testStanding (changeLock .lost .holdoverExpired (loadOffset (restartAcquisition s)))

/-! ## Cycle boundaries in HOLDOVER (R15) -/

/-- R15: a forward crossing of a cycle boundary. -/
def crossForward (s : State) : State :=
  if s.ltb.lock = .holdover then
    let s := { s with ltb := { s.ltb with holdCount := s.ltb.holdCount + 1 } }
    if s.ltb.limit ≤ s.ltb.holdCount then enterLost s else s
  else s

/-- R15: a backward crossing of a cycle boundary. -/
def crossBackward (s : State) : State :=
  if s.ltb.lock = .holdover then { s with ltb := { s.ltb with holdCount := s.ltb.holdCount - 1 } } else s

/-! ## Window evaluation -/

/-- R13: the window is good when it has an accepted edge and fewer than 4 rejected ones. -/
def windowGood (l : Ltb) : Bool := l.accepted && decide (l.rejected < 4)

/-- R13, R26: what every evaluation does to the interval base flag, the window record and the working offset. -/
def closeWindow (s : State) : State :=
  loadOffset { s with ltb := { clearWindow s.ltb with baseValid := windowGood s.ltb } }

/-- R13, R14, R16: the window evaluation. -/
def evaluateWindow (s : State) : State :=
  let good := windowGood s.ltb
  match s.ltb.lock with
  | .locked =>
    let s := closeWindow s
    if good then { s with ltb := { s.ltb with missCount := 0 } }
    else
      let s := { s with ltb := { s.ltb with missCount := s.ltb.missCount + 1 } }
      if 2 ≤ s.ltb.missCount then
        let s := enterHoldover .missed s
        if missedSwitchDue s then autoSwitch s else s
      else s
  | .holdover =>
    let s := closeWindow s
    if good then
      let s := { s with ltb := { s.ltb with relockCount := s.ltb.relockCount + 1 } }
      if 2 ≤ s.ltb.relockCount then changeLock .locked .relocked { s with ltb := { s.ltb with missCount := 0 } } else s
    else { s with ltb := { s.ltb with relockCount := 0 } }
  | _ => s

/-! ## The advance -/

/-- R13: the evaluation point O + 32. -/
def evaluationPoint (v : Selector) : LineStep := v.working + 32

/-- R2: the timebase's own work for the step that an advance has reached: the window evaluation if it is the evaluation
point; then the cycle-boundary work if the advance crossed a boundary. -/
def timebaseWork (s : State) : State :=
  let step := stepOf s.ltb.pos
  let s := if step = evaluationPoint s.sel then evaluateWindow s else s
  if step = 0 then crossForward s else s

/-! ## Edges of the selected reference -/

/-- R7 steps 1, 2 and the window record, counts and base of R7 and R8: the lock from acquisition at count `t`. -/
def lockFromAcquisition (t : Nat) (pos : Pos) (s : State) : State :=
  { s with
    ltb :=
      { s.ltb with
        history := s.ltb.acq.run
        period := meanOf s.ltb.acq.run
        stray := 0
        pos := pos
        acc := 0
        started := true
        accepted := true
        rejected := 0
        missCount := 0
        relockCount := 0
        baseValid := false
        lastAccepted := some t } }

/-- R8: the nearest position whose step is O: at most 512 steps forward or 511 steps backward. -/
def nearestPosition (o : LineStep) (pos : Pos) : Pos :=
  let d := o - stepOf pos
  if d.toNat ≤ 512 then pos + d.setWidth 42 else pos - (stepOf pos - o).setWidth 42

/-- A move goes forward. -/
def movesForward (new old : Pos) : Bool := decide (0 < signedDistance new old)

/-- R6, R7, R8: an edge at count `t` in STOPPED or LOST. The answer says whether a forward move is to be offered. -/
def acquire (t : Nat) (s : State) : State × Bool :=
  let s := { s with ltb := { s.ltb with acq := acquisitionEdge t s.ltb.acq } }
  if s.ltb.acq.run.length < 8 then (s, false)
  else
    match s.ltb.lock with
    | .stopped => (changeLock .locked .acquired (lockFromAcquisition t (posOf 0 s.sel.working) s), false)
    | _ =>
      let new := nearestPosition s.sel.working s.ltb.pos
      (changeLock .locked .acquired (lockFromAcquisition t new s), movesForward new s.ltb.pos)

/-- R9: the step lies in the acceptance window, the 64 steps from O - 32 to O + 31. -/
def inWindow (o step : LineStep) : Bool := decide ((step - (o - 32)).toNat < 64)

/-- R12: the period update at an accepted edge at count `t`. -/
def periodUpdate (t : Nat) (l : Ltb) : Ltb :=
  let l :=
    match l.baseValid, l.lastAccepted with
    | true, some t0 =>
      if 57143 ≤ t - t0 ∧ t - t0 ≤ 100000 then
        { l with history := l.history.drop 1 ++ [t - t0], period := meanOf (l.history.drop 1 ++ [t - t0]) }
      else l
    | _, _ => l
  { l with lastAccepted := some t }

/-- R10: the position whose step is O, at the deviation of the edge, -32 to +31 steps, from the present one. -/
def snapTarget (o : LineStep) (pos : Pos) : Pos := pos - (stepOf pos - o).signExtend 42

/-- R9, R10, R12, R15: an accepted edge at count `t`: the accepted flag, the period update, the snap, and the
cycle-boundary work of a crossing. The answer says whether a forward snap is to be offered. -/
def acceptEdge (t : Nat) (s : State) : State × Bool :=
  let old := s.ltb.pos
  let new := snapTarget s.sel.working old
  let s := { s with ltb := { periodUpdate t s.ltb with accepted := true, pos := new, acc := 0 } }
  let forward := movesForward new old
  let s :=
    if cycleOf new = cycleOf old then s
    else if forward then crossForward s
    else crossBackward s
  (s, forward)

/-- R9: a rejected edge. -/
def rejectEdge (s : State) : State :=
  { s with ltb := { s.ltb with rejected := s.ltb.rejected + 1, stray := min (s.ltb.stray + 1) 65535 } }

/-- R18: what the timebase makes of an edge of the selected reference at count `t`. -/
def timebaseEdge (t : Nat) (s : State) : State × Bool :=
  match s.ltb.lock with
  | .stopped => acquire t s
  | .lost => acquire t s
  | _ =>
    if inWindow s.sel.working (stepOf s.ltb.pos) && !s.ltb.accepted then acceptEdge t s
    else (rejectEdge s, false)

/-! ## Monitors -/

/-- R23: a qualified rising edge at count `t`. -/
def monitorEdge (t : Nat) (m : Monitor) : Monitor :=
  match m.lastEdge with
  | none => { m with lastEdge := some t }
  | some t0 =>
    if goodInterval (t - t0) m.lastInterval then
      { qualified := m.qualified || decide (8 ≤ m.good + 1)
        good := min (m.good + 1) 8
        lastEdge := some t
        lastInterval := some (t - t0) }
    else { qualified := false, good := 0, lastEdge := some t, lastInterval := none }

/-- R24: the silence limit: the floor of 1.5 times the last interval, or 150,000 counts. -/
def silenceLimit (m : Monitor) : Nat :=
  match m.lastInterval with
  | some i => 3 * i / 2
  | none => 150000

/-- R24: the silence limit expires: the record is cleared. -/
def silenceExpiry (m : Monitor) : Monitor :=
  match m.lastEdge with
  | some _ => Monitor.reset
  | none => m

/-! ## SET DEVICE on the selector -/

/-- R31: the reference that the new mode selects. -/
def selectionOf (mode : RefMode) (selected : RefId) : RefId :=
  match mode with
  | .fixedA => .a
  | .fixedB => .b
  | .auto => selected

/-- R32: a change of the selected reference by SET DEVICE. -/
def changeSelection (r : RefId) (s : State) : State :=
  let s := loadOffset { s with sel := { s.sel with selected := r } }
  let s := { s with ltb := { clearWindow s.ltb with baseValid := false } }
  match s.ltb.lock with
  | .locked => enterHoldover .selection { s with ltb := { s.ltb with missCount := 0 } }
  | .holdover => { s with ltb := { s.ltb with relockCount := 0 } }
  | .lost => restartAcquisition s
  | .stopped => restartAcquisition s

/-- R31 to R34: the mode and the stored offsets written. -/
def setSelector (mode : RefMode) (oa ob : LineStep) (s : State) : State :=
  let old := s.sel.mode
  let s := { s with sel := { s.sel with mode := mode, offsetA := oa, offsetB := ob } }
  let r := selectionOf mode s.sel.selected
  let s :=
    if r ≠ s.sel.selected then changeSelection r s
    else if s.ltb.lock = .stopped ∨ s.ltb.lock = .lost then loadOffset s
    else s
  if mode = .auto ∧ old ≠ .auto then testStanding s else s

end Sys2Proof.Machine
end

