-- ==== Sys2Proof/Machine/Requests.lean ====
section
/-! DEFINITION. The twenty requests (09): the session check, the parameter check, the owning block's checks in their order, the
effects, and the payload of the OK response. -/

namespace Sys2Proof.Machine

/-- What the taking of a request gives: the status and payload of its response, and the state after its effects. -/
structure Reply where
  status : Status
  payload : List Byte
  state : State
deriving DecidableEq, Repr

/-- R157: a refusal has an empty payload and changes nothing. -/
def refuse (status : Status) (s : State) : Reply := { status := status, payload := [], state := s }

/-- Status OK with its payload, which is composed from the state after the effects (R158). -/
def accept (payload : List Byte) (s : State) : Reply := { status := .ok, payload := payload, state := s }

/-! ## Session requests (R119 to R129, R160) -/

/-- The session state's code. -/
def sessionCode (attached : Bool) : Byte := flagByte attached

/-- 11.4: the payload of ATTACH; `before` is the session state before the request. -/
def attachPayload (before : Bool) (r : Session) : List Byte :=
  [sessionCode before, endCauseCode r.lastEnd, noticesByte r.notices] ++ bytes16 r.nextSeq

/-- R119, R120, R121: ATTACH. -/
def serveAttach (p : Port) (keepalive subs : Byte) (s : State) : Reply :=
  match subsOf subs with
  | none => refuse .badParameter s
  | some u =>
    let before := (s.session p).attached
    let s := if before then renewSession p keepalive u s else openSession p keepalive u s
    accept (attachPayload before (s.session p)) s

/-- R124: DETACH of an ATTACHED port. -/
def serveDetach (p : Port) (s : State) : Reply :=
  if allChans.any (s.holds p) then refuse .claimsHeld s else accept [] (sessionEnd p .detached s)

/-- R125: RESET PORT. -/
def serveResetPort (p : Port) (s : State) : Reply :=
  let s := if (s.session p).attached then sessionEnd p .portReset s else s
  let s := clearFrameErrors p s
  accept [sessionCode (s.session p).attached, endCauseCode (s.session p).lastEnd] s

/-- R129: CLEAR NOTICES. -/
def serveClearNotices (p : Port) (notices : Byte) (s : State) : Reply :=
  match noticesOf notices with
  | none => refuse .badParameter s
  | some n =>
    let r := { s.session p with notices := clearNotices n (s.session p).notices }
    accept [noticesByte r.notices] (s.setSession p r)

/-! ## READ STATUS (R161) -/

/-- 11.5: the payload of READ STATUS. -/
def statusPayload (p : Port) (s : State) : List Byte :=
  let r := s.session p
  [lockCode s.ltb.lock, refCode s.sel.selected, flagByte s.monA.qualified, flagByte s.monB.qualified]
    ++ posBytes s.ltb.pos ++ bytes24 (BitVec.ofNat 24 s.ltb.period) ++ [byteOf s.ltb.holdCount]
    ++ bytes16 (BitVec.ofNat 16 s.ltb.stray)
    ++ [flagByte s.ltb.started, flagByte s.supply.low, resetSourceCode s.resetSource, sessionCode r.attached,
        endCauseCode r.lastEnd, noticesByte r.notices, byteOf r.queue.length, byteOf r.lost,
        byteOf (s.front p).frameErrors, byteOf (ownCount s.sched p), byteOf (sharedFree s.sched)]

/-! ## Device settings (R163 to R166) -/

/-- A 10-bit number in its 16-bit field. -/
def bytes10 (x : BitVec 10) : List Byte := bytes16 (x.setWidth 16)

/-- 11.5: the payload of SET DEVICE and READ DEVICE. -/
def devicePayload (s : State) : List Byte :=
  [modeCode s.sel.mode] ++ bytes10 s.sel.offsetA ++ bytes10 s.sel.offsetB
    ++ [byteOf s.ltb.limit, flagByte s.supply.shed]
    ++ bytes10 (s.group 0).gap ++ bytes10 (s.group 1).gap ++ bytes10 (s.group 2).gap ++ bytes10 (s.group 3).gap
    ++ [refCode s.sel.selected, lockCode s.ltb.lock]

/-- R164: the shared-use guard stops the request: another port holds a channel. -/
def sharedInUse (p : Port) (s : State) : Bool :=
  allChans.any fun c => (ownerOf (s.chan c).claim).isSome && !s.holds p c

/-- A break gap written (R97). -/
def setGap (g : GroupId) (gap : LineStep) (s : State) : State := s.setGroup g { s.group g with gap := gap }

/-- R165: the settings written, in its order. -/
def setDevice (d : DeviceSettings) (s : State) : State :=
  let s := { s with ltb := { s.ltb with limit := d.limit } }
  let s := { s with supply := { s.supply with shed := d.shed } }
  let s := setGap 3 d.gap4 (setGap 2 d.gap3 (setGap 1 d.gap2 (setGap 0 d.gap1 s)))
  setSelector d.mode d.offsetA d.offsetB s

/-- R163 to R165: SET DEVICE. -/
def serveSetDevice (p : Port) (a : SetDeviceArgs) (s : State) : Reply :=
  match deviceOf a with
  | none => refuse .badParameter s
  | some d =>
    if sharedInUse p s then refuse .sharedInUse s
    else
      let s := setDevice d s
      accept (devicePayload s) s

/-! ## Channel requests (R167) -/

/-- 11.4: the payload of CLAIM. -/
def claimPayload (p : Port) (newly : List Chan) (s : State) : List Byte :=
  bytes16 (setOf newly) ++ bytes16 (setOf (heldChans p s))

/-- R101: CLAIM. -/
def serveClaim (p : Port) (chans : BitVec 16) (s : State) : Reply :=
  match chanSetOf chans with
  | none => refuse .badParameter s
  | some set =>
    match claimRefusal p set s with
    | some status => refuse status s
    | none =>
      let newly := freeChans set s
      let s := claimChans p set s
      accept (claimPayload p newly s) s

/-- 11.4: the payload of RELEASE: of the set, the channels that became FREE and those left RELEASING. -/
def releasePayload (set : List Chan) (s : State) : List Byte :=
  bytes16 (setOf (freeChans set s)) ++ bytes16 (setOf (set.filter fun c => isReleasing (s.chan c).claim))

/-- R104: RELEASE. -/
def serveRelease (p : Port) (chans : BitVec 16) (mode : Byte) (s : State) : Reply :=
  match chanSetOf chans, releaseModeOfByte mode with
  | some set, some m =>
    if set.all (s.holds p) then
      let s := releaseChans m set s
      accept (releasePayload set s) s
    else refuse .notOwner s
  | _, _ => refuse .badParameter s

/-- R96: the move of a channel to another group: it leaves the old one, then joins the new one. -/
def moveGroup (c : Chan) (new : Option GroupId) (s : State) : State :=
  let ch := s.chan c
  if new = ch.cfg.group then s
  else
    let left := { ch with cfg := { ch.cfg with group := none }, occupant := false }
    let s := s.setChan c left
    let s :=
      match ch.cfg.group with
      | some g => if ch.occupant && !groupOccupied s g then vacate g s else s
      | none => s
    s.setChan c { left with cfg := { left.cfg with group := new }, occupant := new.isSome && occupies left }

/-- R83, Table 4-3: a change of feedback mode; `was` is the old mode. -/
def changeFeedbackMode (c : Chan) (was : Bool) (s : State) : State :=
  let ch := s.chan c
  match was, ch.cfg.present, ch.state with
  | false, true, .opened => if ch.feedback then enterFault c .uncommanded s else s
  | false, true, .closed => if ch.feedback then s else enterFault c .uncommanded s
  | true, false, .closing => work [.changed c] (s.setChan c { ch with state := .closed, verifyAt := none })
  | true, false, .opening => work [.changed c] (s.setChan c { ch with state := .opened, verifyAt := none })
  | _, _, _ => s

/-- R83: an accepted SET CHANNEL. DESIGN CHOICE (log 31): where it changes both the group and the feedback mode, the move
of R96 is made first and the transition of Table 4-3 in the new group; the spec makes both at once and gives no order. -/
def configure (c : Chan) (cfg : ChanConfig) (s : State) : State :=
  let was := (s.chan c).cfg.present
  let s := moveGroup c cfg.group s
  changeFeedbackMode c was (s.setChan c { s.chan c with cfg := cfg })

/-- R82: the refusal of SET CHANNEL by the Channel Controller, if there is one. -/
def configRefusal (p : Port) (c : Chan) (cfg : ChanConfig) (s : State) : Option Status :=
  let ch := s.chan c
  if !s.holds p c then some .notOwner
  else if isReleasing ch.claim then some .releasing
  else if s.namesChannel c || ch.pendingOpen.isSome then some .entriesPending
  else if cfg.group ≠ ch.cfg.group ∧ ch.drive = true then some .driveOn
  else none

/-- R82: SET CHANNEL. -/
def serveSetChannel (p : Port) (a : SetChannelArgs) (s : State) : Reply :=
  match chanOfByte a.channel, configOf a with
  | some c, some cfg =>
    match configRefusal p c cfg s with
    | some status => refuse status s
    | none => accept [] (configure c cfg s)
  | _, _ => refuse .badParameter s

/-- 11.6: the configuration block. -/
def configBytes (g : ChanConfig) : List Byte :=
  bytes10 g.closeLead ++ bytes10 g.openLead ++ bytes16 g.onDwell ++ bytes16 g.offDwell
    ++ [groupCode g.group, safeCode g.safe, flagByte g.present, g.verify]

/-- 11.6: the tag and label of a held open, 0 unless the pending open is HELD. -/
def heldBytes : Option PendingOpen → List Byte
  | some (.held tag label) => bytes16 tag ++ [label]
  | _ => [0, 0, 0]

/-- 11.6: the payload of READ CHANNEL. -/
def channelPayload (c : Chan) (s : State) : List Byte :=
  let ch := s.chan c
  [byteOf c.val, claimCode ch.claim, optPortByte (ownerOf ch.claim), chanStateCode ch.state, flagByte ch.drive,
    flagByte ch.feedback]
    ++ posBytes ch.changePos ++ [pendingOpenCode ch.pendingOpen] ++ heldBytes ch.pendingOpen ++ [faultCode ch.state]
    ++ bytes32 ch.closures ++ configBytes ch.cfg ++ [flagByte (s.namesChannel c)]

/-- R84: READ CHANNEL. -/
def serveReadChannel (channel : Byte) (s : State) : Reply :=
  match chanOfByte channel with
  | some c => accept (channelPayload c s) s
  | none => refuse .badParameter s

/-- The channel is in FAULT. -/
def inFault : ChanState → Bool
  | .fault _ => true
  | _ => false

/-- R75: the refusal of CLEAR FAULT, if there is one. -/
def clearFaultRefusal (p : Port) (c : Chan) (s : State) : Option Status :=
  let ch := s.chan c
  if !s.holds p c then some .notOwner
  else if !inFault ch.state then some .notFaulted
  else if ch.cfg.present && ch.feedback then some .feedbackClosed
  else none

/-- R75: CLEAR FAULT. -/
def serveClearFault (p : Port) (channel : Byte) (s : State) : Reply :=
  match chanOfByte channel with
  | none => refuse .badParameter s
  | some c =>
    match clearFaultRefusal p c s with
    | some status => refuse status s
    | none => accept [] (work [.changed c] (s.setChan c { s.chan c with state := .opened }))

/-! ## SCHEDULE (R42 to R45) -/

/-- R44 step 3: the tests on the channel of an action. -/
def channelRefusal (p : Port) (a : Action) (s : State) : Option Status :=
  match chanOf a with
  | none => none
  | some c =>
    if !s.holds p c then some .notOwner
    else if isReleasing (s.chan c).claim then some .releasing
    else none

/-- R43: the due position of an untriggered request. -/
def dueOf (timing : Timing) (pos : Pos) : Option Pos :=
  match timing with
  | .absolute due => some due
  | .relative ahead step => some (posOf (cycleOf pos + ahead.setWidth 32) step)
  | .triggered _ => none

/-- R44: the second phase of a PULSE comes after its first: width + close lead > open lead. -/
def phasesInOrder (a : Action) (s : State) : Bool :=
  match a with
  | .pulse c w _ => decide ((s.chan c).cfg.openLead.toNat < w + (s.chan c).cfg.closeLead.toNat)
  | _ => true

/-- R44 steps 5 and 6: the tests on the timing. -/
def timingRefusal (q : ScheduleParams) (s : State) : Option Status :=
  match q.timing with
  | .triggered t =>
    if t.delay < (leadOf s q.action).toNat + 4 then some .tooSoon
    else if !phasesInOrder q.action s then some .badParameter
    else none
  | timing =>
    match dueOf timing s.ltb.pos with
    | none => none
    | some due =>
      if signedDistance (fireOf s q.action due) s.ltb.pos < 4 then some .tooSoon
      else if 67107840 < signedDistance due s.ltb.pos then some .tooFar
      else if !phasesInOrder q.action s then some .badParameter
      else none

/-- R44 step 7: a repeated PULSE ends before its next firing begins. -/
def repeatFits (q : ScheduleParams) : Bool :=
  match q.action, q.rep with
  | .pulse _ w _, some r => decide (w < r.interval * 1024)
  | _, _ => true

/-- R44 steps 3 to 8: the refusal of a SCHEDULE, if there is one. -/
def scheduleRefusal (p : Port) (q : ScheduleParams) (s : State) : Option Status :=
  match channelRefusal p q.action s with
  | some status => some status
  | none =>
    if !s.ltb.started then some .notStarted
    else
      match timingRefusal q s with
      | some status => some status
      | none =>
        if !repeatFits q then some .badParameter
        else if !placeAvailable s.sched p then some .scheduleFull
        else none

/-- The trigger of a timing form. -/
def timingTrigger : Timing → Option Trigger
  | .triggered t => some t
  | _ => none

/-- R45 step 1: the new record. Its admission sequence is given at the insertion. -/
def newEntry (p : Port) (tag : Tag) (q : ScheduleParams) : Entry where
  tag := tag
  owner := p
  action := q.action
  label := q.label
  tol := q.tol
  rep := q.rep
  trig := timingTrigger q.timing
  lastRun := false
  adm := 0

/-- R45: an entry is admitted. -/
def admitEntry (p : Port) (q : ScheduleParams) (s : State) : Reply :=
  let tag := nextTag s
  let e := newEntry p tag q
  let s := { s with sched := { s.sched with tagCounter := tag } }
  match dueOf q.timing s.ltb.pos with
  | some due =>
    let fire := fireOf s q.action due
    accept (bytes16 tag ++ optPosBytes (some due) ++ optPosBytes (some fire)) (s.insertPending e due fire)
  | none => accept (bytes16 tag ++ optPosBytes none ++ optPosBytes none) (s.insertWaiting e)

/-- R42 to R45: SCHEDULE. -/
def serveSchedule (p : Port) (a : ScheduleArgs) (s : State) : Reply :=
  match scheduleParams s a with
  | none => refuse .badParameter s
  | some q =>
    match scheduleRefusal p q s with
    | some status => refuse status s
    | none => admitEntry p q s

/-! ## CANCEL (R59, R60) -/

/-- R59: the entries that a CANCEL of the port removes. -/
def cancelled (p : Port) (f : CancelForm) (e : Entry) : Bool :=
  decide (e.owner = p) &&
    match f with
    | .tag t => decide (e.tag = t)
    | .channel c => e.names c
    | .all => true

/-- R59: the TAG form finds nothing. -/
def cancelNotFound (p : Port) (f : CancelForm) (d : Schedule) : Bool :=
  match f with
  | .tag _ => !(allEntries d).any (cancelled p f)
  | _ => false

/-- R60: an entry removed was a PULSE in phase SECOND. A DEFERRED one does not count. -/
def leftClosed (p : Port) (f : CancelForm) (d : Schedule) : Bool :=
  d.pending.any fun x => cancelled p f x.entry && isSecond x.entry.action

/-- R56: the RELEASING channels whose last entry leaves the store with this CANCEL. -/
def drainedBy (p : Port) (f : CancelForm) (s : State) : List Chan :=
  allChans.filter fun c =>
    isReleasing (s.chan c).claim && s.namesChannel c && !(s.removeWhere (cancelled p f)).namesChannel c

/-- R59, R60, R106: an accepted CANCEL. The drain tests that it leads to come in a free order (log 25). -/
def cancelEntries (p : Port) (f : CancelForm) (s : State) : Reply :=
  let count := countEntries (cancelled p f) s.sched
  let flag := leftClosed p f s.sched
  let (drained, s) := s.inFreeOrder (drainedBy p f s)
  accept [byteOf count, flagByte flag] (work (drained.map Task.drain) (s.removeWhere (cancelled p f)))

/-- R59: CANCEL. -/
def serveCancel (p : Port) (form : Byte) (tag : BitVec 16) (channel : Byte) (s : State) : Reply :=
  match cancelOf form tag channel with
  | none => refuse .badParameter s
  | some f => if cancelNotFound p f s.sched then refuse .notFound s else cancelEntries p f s

/-! ## READ SCHEDULE (R62) -/

/-- An entry of the port's list with its condition. -/
inductive Listed
  | pending (x : PendingEntry)
  | waiting (e : Entry)
  | deferred (x : DeferredEntry)
deriving DecidableEq, Repr

/-- The entry of a listed one. -/
def Listed.entry : Listed → Entry
  | .pending x => x.entry
  | .waiting e => e
  | .deferred x => x.entry

/-- 11.10: the condition's code. -/
def Listed.conditionCode : Listed → BitVec 2
  | .pending _ => 0
  | .waiting _ => 1
  | .deferred _ => 2

/-- R62: the port's entries, numbered from 0. -/
def listedOf (p : Port) (d : Schedule) : List Listed :=
  (d.pending.map Listed.pending ++ d.waiting.map Listed.waiting ++ d.deferred.map Listed.deferred).filter
    fun x => decide (x.entry.owner = p)

/-- 11.8: byte 3 of a summary. -/
def summaryFlags (x : Listed) : Byte :=
  kindCode (kindOf x.entry.action) ++ BitVec.ofBool (isSecond x.entry.action) ++ x.conditionCode
    ++ toleranceCode x.entry.tol ++ BitVec.ofBool x.entry.lastRun

/-- 11.8: the trigger input and edge selection, 0 without a trigger. -/
def triggerBits : Option Trigger → BitVec 4
  | some t => BitVec.ofNat 2 t.input.val ++ edgeSelCode t.edge
  | none => 0

/-- 11.8: the channel in four bits, 15 for MARK. -/
def chanBits (a : Action) : BitVec 4 :=
  match chanOf a with
  | some c => BitVec.ofNat 4 c.val
  | none => 15

/-- 11.8: byte 4 of a summary. -/
def summaryWhere (e : Entry) : Byte := chanBits e.action ++ triggerBits e.trig

/-- 11.8: interval, count and remaining count, 0 without a repeat. -/
def repeatBytes : Option Repeat → List Byte
  | some r => [byteOf r.interval, byteOf r.count, byteOf r.remaining]
  | none => [0, 0, 0]

/-- 11.8: the timing field. -/
def timingField (s : State) : Listed → BitVec 40
  | .pending x =>
    (cycleOf x.due).setWidth 17 ++ stepOf x.due ++ leadOf s x.entry.action ++ (0 : BitVec 3)
  | .deferred x => (cycleOf x.due).setWidth 17 ++ stepOf x.due ++ (0 : BitVec 13)
  | .waiting e => BitVec.ofNat 16 (triggerDelay e) ++ (0 : BitVec 24)

/-- The five bytes of the timing field. -/
def bytes40 (x : BitVec 40) : List Byte :=
  [x.extractLsb' 32 8, x.extractLsb' 24 8, x.extractLsb' 16 8, x.extractLsb' 8 8, x.extractLsb' 0 8]

/-- 11.8: the 15 bytes of a summary. -/
def summaryBytes (s : State) (x : Listed) : List Byte :=
  let e := x.entry
  bytes16 e.tag ++ [e.label, summaryFlags x, summaryWhere e] ++ repeatBytes e.rep
    ++ bytes16 (BitVec.ofNat 16 (widthOf e.action)) ++ bytes40 (timingField s x)

/-- 11.8: the four slots; those beyond the summaries returned are 0. -/
def slotBytes (s : State) : Nat → List Listed → List Byte
  | 0, _ => []
  | n + 1, [] => List.replicate 15 0 ++ slotBytes s n []
  | n + 1, x :: l => summaryBytes s x ++ slotBytes s n l

/-- 11.8: the payload of READ SCHEDULE. -/
def schedulePayload (p : Port) (start : Nat) (s : State) : List Byte :=
  let l := listedOf p s.sched
  byteOf l.length :: bytes24 ((cycleOf s.ltb.pos).extractLsb' 8 24) ++ slotBytes s 4 (l.drop start)

/-- R62: READ SCHEDULE. -/
def serveReadSchedule (p : Port) (start : Byte) (s : State) : Reply :=
  if start.toNat ≤ 47 then accept (schedulePayload p start.toNat s) s else refuse .badParameter s

/-! ## Capture and event requests (R134 to R136, R145, R146, R169) -/

/-- 11.4: an arm record in the responses to ARM CAPTURE and DISARM CAPTURE. -/
def armPayload : Arm → List Byte
  | .idle => [0, 0, 0]
  | .armed sel remaining => [1, (edgeSelCode sel).setWidth 8, byteOf remaining]

/-- R145: ARM CAPTURE. -/
def serveArmCapture (p : Port) (input edge count : Byte) (s : State) : Reply :=
  match inputOfByte input, edgeSelOfByte edge with
  | some i, some sel => accept (armPayload (s.arm p i)) (s.setArm p i (.armed sel count.toNat))
  | _, _ => refuse .badParameter s

/-- R146: DISARM CAPTURE. -/
def serveDisarmCapture (p : Port) (input : Byte) (s : State) : Reply :=
  match inputOfByte input with
  | some i => accept (armPayload (s.arm p i)) (s.setArm p i .idle)
  | none => refuse .badParameter s

/-- R134: TAKE EVENTS. -/
def serveTakeEvents (p : Port) (count : Byte) (s : State) : Reply :=
  if 1 ≤ count.toNat ∧ count.toNat ≤ 4 then
    accept (((s.session p).queue.take count.toNat).flatMap recordBytes) s
  else refuse .badParameter s

/-- R135: ACK EVENTS. -/
def serveAckEvents (p : Port) (number : BitVec 16) (s : State) : Reply :=
  let r := s.session p
  match afterAck number r.queue with
  | none => refuse .badSequence s
  | some rest =>
    let r' := ackSession s.ltb.pos rest r
    accept [byteOf (r.queue.length - rest.length), byteOf r'.queue.length] (s.setSession p r')

/-! ## The taking of a request -/

/-- Table 9-1, R155: the request is allowed while DETACHED. -/
def allowedDetached : Request → Bool
  | .nop => true
  | .attach _ _ => true
  | .resetPort => true
  | .readStatus => true
  | .clearNotices _ => true
  | .readDevice => true
  | _ => false

/-- The request at its owning block, past the session check. -/
def act (p : Port) (r : Request) (s : State) : Reply :=
  match r with
  | .nop => accept [] s
  | .attach keepalive subs => serveAttach p keepalive subs s
  | .detach => serveDetach p s
  | .resetPort => serveResetPort p s
  | .readStatus => accept (statusPayload p s) s
  | .clearNotices notices => serveClearNotices p notices s
  | .setDevice a => serveSetDevice p a s
  | .readDevice => accept (devicePayload s) s
  | .claim chans => serveClaim p chans s
  | .release chans mode => serveRelease p chans mode s
  | .setChannel a => serveSetChannel p a s
  | .readChannel c => serveReadChannel c s
  | .clearFault c => serveClearFault p c s
  | .schedule a => serveSchedule p a s
  | .cancel form tag channel => serveCancel p form tag channel s
  | .readSchedule start => serveReadSchedule p start s
  | .armCapture input edge count => serveArmCapture p input edge count s
  | .disarmCapture input => serveDisarmCapture p input s
  | .takeEvents count => serveTakeEvents p count s
  | .ackEvents number => serveAckEvents p number s

/-- R155: the session check, then the request at its owning block. -/
def serve (p : Port) (r : Request) (s : State) : Reply :=
  if (s.session p).attached || allowedDetached r then act p r s else refuse .notAttached s

/-- R152, R153: a complete request of a port is taken: the reply to what the frame check and the code and length check made
of it. The keepalive timer is restarted first, but at CHECK_ERROR (R122). -/
def replyTo (p : Port) (b : Received) (s : State) : Reply :=
  match b with
  | .checkError => refuse .checkError s
  | .badRequest => refuse .badRequest (restartKeepalive p s)
  | .good r => serve p r (restartKeepalive p s)

end Sys2Proof.Machine
end

