-- ==== Sys2Proof/Machine/Ports.lean ====
section
/-! DEFINITION. The port front ends (10): the response buffer, HP0, HP1, HP2, and the output pins. -/

namespace Sys2Proof.Machine

/-! ## Frame errors and the response buffer -/

/-- R175: one frame error of the port. -/
def frameError (p : Port) (s : State) : State :=
  s.setFront p { s.front p with frameErrors := min ((s.front p).frameErrors + 1) 255 }

/-- R172: a response is composed at most 200 us, 800 counts, after the request was taken. -/
def composeCounts : Nat := 800

/-- R157: the response to a request that carried `seq`. -/
def responseOf (seq : Byte) (r : Reply) : Response := { seq := seq, status := r.status, payload := r.payload }

/-- R120: the response is that of an ATTACH that opened a session. Table 11-2 gives no other request 5 bytes. -/
def opensSession (r : Response) : Bool :=
  match r.status, r.payload with
  | .ok, [before, _, _, _, _] => decide (before = 0)
  | _, _ => false

/-- R120, R119: the response with the next sequence that it shows. -/
def withNextSeq (next : BitVec 16) (r : Response) : Response := { r with payload := r.payload.take 3 ++ bytes16 next }

/-- R120: a PENDING response as it stands now. While the count of its taking lasts, a response that opens a session shows
the port's next sequence with the records placed at that moment after the ATTACH (log 32). -/
def responseNow (p : Port) (r : Response) (latest : Nat) (s : State) : Response :=
  if latest = s.now + composeCounts ∧ opensSession r = true then withNextSeq (s.session p).nextSeq r else r

/-- R120: the moment ends; the port's PENDING response stays as it stands. -/
def closeMoment (s : State) (p : Port) : State :=
  match (s.front p).buffer with
  | .pending r latest => s.setFront p { s.front p with buffer := .pending (responseNow p r latest s) latest }
  | _ => s

/-- R171: the port's buffer becomes PENDING with a response. -/
def setPending (p : Port) (r : Response) (s : State) : State :=
  s.setFront p { s.front p with buffer := .pending r (s.now + composeCounts) }

/-- R152, R171: a complete request is taken: its effects are made, and the buffer becomes PENDING. A response that was in
the buffer is lost. -/
def takeRequest (p : Port) (f : Frame) (s : State) : State :=
  let r := replyTo p f.body s
  setPending p (responseOf f.seq r) r.state

/-- R171: the request is held, replacing any held request. -/
def holdRequest (p : Port) (f : Frame) (s : State) : State := s.setFront p { s.front p with held := some f }

/-- R174, R175: a CRC mismatch counts as a frame error (log 9). -/
def countMismatch (p : Port) (b : Received) (s : State) : State :=
  match b with
  | .checkError => frameError p s
  | _ => s

/-- R171: a complete request is received. -/
def submit (p : Port) (f : Frame) (s : State) : State :=
  let s := countMismatch p f.body s
  match (s.front p).buffer with
  | .pending _ _ => holdRequest p f s
  | _ => takeRequest p f s

/-- R179: HP0's transmitter begins to send a READY response when it is IDLE; the buffer becomes EMPTY. -/
def beginSending (s : State) : State :=
  match s.sending, (s.front 0).buffer with
  | none, .ready r =>
    { s.setFront 0 { s.front 0 with buffer := .empty } with
      sending := some { bytes := startOfFrame :: responseFrame r, since := s.now } }
  | _, _ => s

/-- R171: a response becomes READY; on HP0 its transmission begins if it can. -/
def becomeReady (p : Port) (r : Response) (s : State) : State :=
  let s := s.setFront p { s.front p with buffer := .ready r }
  if p = 0 then beginSending s else s

/-- R171: the response of a PENDING buffer is composed: it becomes READY, or it is discarded and the held request is
taken. -/
def composed (p : Port) (s : State) : State :=
  match (s.front p).buffer with
  | .pending r latest =>
    match (s.front p).held with
    | some f => takeRequest p f (s.setFront p { s.front p with held := none })
    | none => becomeReady p (responseNow p r latest s) s
  | _ => s

/-- R171: a response has been read: the buffer becomes EMPTY. -/
def emptyBuffer (p : Port) (s : State) : State := s.setFront p { s.front p with buffer := .empty }

/-! ## HP0 (R176 to R179) -/

/-- R176: the bit rate of HP0, in bit/s, that the straps BAUD1 and BAUD0 set. It times what the part sends (log 20). -/
def hp0BitRate (t : Straps) : Nat :=
  match t.baud1, t.baud0 with
  | false, false => 19200
  | false, true => 57600
  | true, false => 230400
  | true, true => 921600

/-- R177: the frame being received is discarded: one frame error, and the receiver enters DISCARDING. -/
def discardFrame (s : State) : State := { frameError 0 s with receiver := .discarding s.now }

/-- R177: a byte received without error in RECEIVING, `got` being the frame's bytes with it. -/
def receiveInFrame (got : List Byte) (s : State) : State :=
  match got with
  | [] => s
  | len :: _ =>
    if !lenInRange len then discardFrame s
    else if got.length < len.toNat + 2 then { s with receiver := .receiving got s.now }
    else
      let s := { s with receiver := .idle }
      match checkFrame got with
      | some f => submit 0 f s
      | none => s

/-- The level of RXD as last seen. -/
def setRxd (high : Bool) (s : State) : State := { s with pins := { s.pins with rxd := high } }

/-- R177: a byte received on RXD, by the state of the receiver. -/
def takeByte (b : RxByte) (s : State) : State :=
  match s.receiver with
  | .idle =>
    if b.data = startOfFrame ∧ rxError b = false then { s with receiver := .receiving [] s.now } else frameError 0 s
  | .receiving got _ => if rxError b then discardFrame s else receiveInFrame (got ++ [b.data]) s
  | .discarding _ => { s with receiver := .discarding s.now }

/-- R176, R177: a byte received on RXD, which is left at the level of its stop bit. -/
def receiveByte (s : State) (b : RxByte) : State := takeByte b (setRxd b.stopBit s)

/-- Bytes received one after another. -/
def receiveBytes (bytes : List RxByte) (s : State) : State := bytes.foldl receiveByte s

/-- R178: a gap of more than 8000 counts in RECEIVING. -/
def byteGapTimeout (s : State) : State :=
  match s.receiver with
  | .receiving _ _ => { frameError 0 s with receiver := .idle }
  | _ => s

/-- R177: RXD has stayed high for more than 2 ms in DISCARDING. -/
def quietEnd (s : State) : State :=
  match s.receiver with
  | .discarding _ => { setRxd true s with receiver := .idle }
  | _ => s

/-- R176: the whole bit times that have passed since a transmission began, each at its nominal length (log 20). The count
clock runs at 4.000 MHz. -/
def bitsPassed (s : State) (x : Sending) : Nat := (s.now - x.since) * hp0BitRate s.straps / 4000000

/-- R179: the stop bit of the last byte has been sent. -/
def allSent (s : State) (x : Sending) : Bool := decide ((sentBits x.bytes).length ≤ bitsPassed s x)

/-- R179: the stop bit of a response's last byte has been sent; a READY response follows at once. -/
def transmissionComplete (s : State) : State :=
  match s.sending with
  | some _ => beginSending { s with sending := none }
  | none => s

/-! ## HP1 (R180 to R182) -/

/-- R180: the target's address. -/
def hp1Address (t : Straps) : BitVec 7 :=
  0x28 + BitVec.ofNat 7 ((if t.addr1 then 2 else 0) + (if t.addr0 then 1 else 0))

/-- R180: START and the target's address: a transaction of HP1 begins. -/
def hp1Begin (s : State) : State := { s with hp1Bus := .active, hp1Out := [], hp1Acks := 1 }

/-- R180: the transaction ends at STOP or a repeated START, with what HP1 put on the wire in it: the bytes sent and the
number of bytes acknowledged (log 21). -/
def hp1Wire (out : List Byte) (acks : Nat) (s : State) : State :=
  { s with hp1Bus := .waiting, hp1Out := out, hp1Acks := acks }

/-- R181: a write transaction to the target's address, `bytes` after the address byte. The address byte is acknowledged,
and the frame's bytes up to the (LEN + 2)th when LEN is in range. DESIGN CHOICE (log 27): a write of no byte is a probe and
no frame error whether STOP or a repeated START ends it; R180 names STOP alone, and R181 has no LEN there to count by. -/
def hp1Write (bytes : List Byte) (s : State) : State :=
  match bytes with
  | [] => hp1Wire [] 1 s
  | len :: _ =>
    if !lenInRange len then hp1Wire [] 1 (frameError 1 s)
    else
      let s := hp1Wire [] (1 + min bytes.length (len.toNat + 2)) s
      match checkFrame bytes with
      | some f => submit 1 f s
      | none => frameError 1 s

/-- R182, R185: the bytes of a frame as the master clocks `n`, 0xFF beyond its end. -/
def clockedBytes (frame : List Byte) (n : Nat) : List Byte := (frame ++ List.replicate n 0xFF).take n

/-- R182, R185: a read of the buffer by port `p`, `n` bytes clocked: the bytes sent, and the buffer EMPTY when a READY
response was clocked out whole. -/
def readBuffer (p : Port) (n : Nat) (s : State) : List Byte × State :=
  match (s.front p).buffer with
  | .ready r =>
    let frame := responseFrame r
    (clockedBytes frame n, if frame.length ≤ n then emptyBuffer p s else s)
  | _ => (clockedBytes (responseFrame noResponse) n, s)

/-- R182: a read transaction of the target's address. While the buffer is PENDING SCL is stretched until the response, or
then that of the held request, is composed, however many bytes are then clocked (log 22). A read that ends before the last
byte leaves the response READY. -/
def hp1Read (clocked : Nat) (s : State) : State :=
  let (out, s) := readBuffer 1 clocked (composed 1 (composed 1 s))
  hp1Wire out 1 s

/-! ## HP2 (R183 to R186) -/

/-- R183: CS_N falls: a transaction of HP2 begins. -/
def hp2Begin (s : State) : State := { s with hp2Bus := .active, hp2Out := [] }

/-- R183: CS_N rises, with what HP2 shifted out in the transaction (log 21). -/
def hp2Wire (out : List Byte) (s : State) : State := { s with hp2Bus := .waiting, hp2Out := out }

/-- R183: a transaction that is a frame error: it is ignored, SDO carrying 0x00. -/
def hp2Ignored (length : Nat) (s : State) : State := hp2Wire (List.replicate length 0) (frameError 2 s)

/-- R184: a request transaction, `bytes` after the command byte. Anything but a whole frame is discarded (log 23). -/
def hp2Request (bytes : List Byte) (s : State) : State :=
  match checkFrame bytes with
  | some f => submit 2 f (hp2Wire (List.replicate (bytes.length + 1) 0) s)
  | none => hp2Ignored (bytes.length + 1) s

/-- R185: a read transaction, `n` bytes clocked after the command byte. -/
def hp2Read (n : Nat) (s : State) : State :=
  let (out, s) := readBuffer 2 n s
  hp2Wire (0 :: out) s

/-- R183: a transaction by its first byte and the whole bytes after it. -/
def hp2Transaction (first : Byte) (rest : List Byte) (s : State) : State :=
  if first = 0x5A then hp2Request rest s
  else if first = 0xA5 then hp2Read rest.length s
  else hp2Ignored (rest.length + 1) s

/-- R183: a transaction begun less than 1 us after the rise of CS_N; without a whole byte it is ignored and no error. -/
def hp2TooSoon (bytes : List Byte) (s : State) : State :=
  if bytes.isEmpty then hp2Wire [] s else hp2Ignored bytes.length s

/-! ## Output pins (R138, R176, R182, R183, R186, R188) -/

/-- The level of DRVn. -/
def drvPin (s : State) (c : Chan) : Bool :=
  match s.power with
  | .running => (s.chan c).drive
  | .inReset _ => false

/-- The level of ATTNn; none while it is high-impedance, as ATTN0 and ATTN1 are in reset. -/
def attnPin (s : State) (p : Port) : Option Bool :=
  match s.power with
  | .running => some (s.session p).attn
  | .inReset _ => if p = 2 then some false else none

/-- The level of RDY; none while it is high-impedance. -/
def rdyPin (s : State) : Option Bool :=
  match s.power, (s.front 2).buffer with
  | .running, .ready _ => some true
  | .running, _ => some false
  | .inReset _, _ => none

/-- The level of TXD: high in reset and while nothing is sent, else the bit being sent (R176, R188). -/
def txdPin (s : State) : Bool :=
  match s.power, s.sending with
  | .running, some x => (sentBits x.bytes)[bitsPassed s x]?.getD true
  | _, _ => true

/-- The level of SDO; none while it is high-impedance: in reset and while CS_N is high (R183, R187). In a transaction it
carries the last bit shifted out, most significant first, and 0 before the first (R183). -/
def sdoPin (s : State) : Option Bool :=
  match s.power, s.hp2Bus with
  | .running, .active => some ((s.hp2Out.getLast?.getD 0).getLsbD 0)
  | _, _ => none

/-- HP1 has SDA released: in reset, and outside its own transactions (R180, R188). -/
def sdaReleased (s : State) : Bool :=
  match s.power, s.hp1Bus with
  | .running, .active => false
  | _, _ => true

/-- HP1 has SCL released: always but while a transaction finds its response PENDING (R180, R182, R188). -/
def sclReleased (s : State) : Bool :=
  match s.power, s.hp1Bus, (s.front 1).buffer with
  | .running, .active, .pending _ _ => false
  | _, _, _ => true

end Sys2Proof.Machine
end

