-- ==== Sys2Proof/Machine/Events.lean ====
section
/-! DEFINITION. The events of the line, the inputs, the channels and the supply, once they have come: their handling, less
the filters and timers that make them come (Clock.lean). -/

namespace Sys2Proof.Machine

/-! ## The line -/

/-- R27 steps 2 and 3: the edge's monitor, then the selector's test. -/
def monitorAndTest (r : RefId) (s : State) : State :=
  testStanding (s.setMonitor r (monitorEdge s.now (s.monitor r)))

/-- R3, R27, R11: a qualified rising edge of a reference at the present count: the timebase's handling if it is the selected
one, with the offer of a forward move, and the edge's monitor. `between` is what its count brings between a forward move
and the offer of it (R46, R95); an edge that moves nothing forward has it behind itself. -/
def referenceEdge (between : State → State) (r : RefId) (s : State) : State :=
  if s.sel.selected = r then
    let (s, forward) := timebaseEdge s.now s
    if forward then monitorAndTest r (offerPosition (between s)) else between (monitorAndTest r s)
  else between (monitorAndTest r s)

/-- R24, R28: the silence limit of a running monitor expires. -/
def silenceLimitExpiry (r : RefId) (s : State) : State :=
  match (s.monitor r).lastEdge with
  | some _ => testStanding (s.setMonitor r (silenceExpiry (s.monitor r)))
  | none => s

/-! ## Channels -/

/-- A confirmed change: the verify timer stops and the state becomes the one reached (R69, R71), with the work of R81. -/
def confirm (c : Chan) (state : ChanState) (s : State) : State :=
  work [.changed c] (s.setChan c { s.chan c with state := state, verifyAt := none })

/-- R69, R71, R72, R74: what a channel makes of its new feedback. -/
def feedbackActs (c : Chan) (closed : Bool) (s : State) : State :=
  let ch := s.chan c
  match ch.state with
  | .closing => if closed then confirm c .closed s else s
  | .opening => if closed then s else confirm c .opened s
  | .opened => if ch.cfg.present && closed then enterFault c .uncommanded s else s
  | .closed => if ch.cfg.present && !closed then enterFault c .uncommanded s else s
  | .fault _ => updateOccupancy c s

/-- R66: a feedback change; nothing when the debounced level is that level already. -/
def feedbackChange (c : Chan) (closed : Bool) (s : State) : State :=
  if (s.chan c).feedback = closed then s
  else feedbackActs c closed (s.setChan c { s.chan c with feedback := closed })

/-- R69, R71: a running verify timer expires. -/
def verifyExpiry (c : Chan) (s : State) : State :=
  match (s.chan c).verifyAt, (s.chan c).state with
  | some _, .closing => enterFault c .closeUnconfirmed s
  | some _, .opening => enterFault c .openUnconfirmed s
  | _, _ => s

/-- R81: a pending open is examined. -/
def examineNow (c : Chan) (s : State) : State := work [.examine c] s

/-- R106: the drain test ends the claim of the channel. -/
def drainEnds (c : Chan) (s : State) : Bool :=
  let ch := s.chan c
  isReleasing ch.claim &&
    (inFault ch.state ||
      (!s.namesChannel c && ch.pendingOpen.isNone && (decide (ch.state = .opened) || decide (ch.cfg.safe = .hold))))

/-- R106, R109: a drain that has ended completes the release (log 16). -/
def drainCompletion (c : Chan) (s : State) : State := if drainEnds c s then work [.drain c] s else s

/-! ## Supply (R86, R87) -/

/-- R86: the shed set. -/
def shedSet (s : State) : List Chan :=
  if s.supply.shed then
    allChans.filter fun c => decide ((s.chan c).cfg.safe = .openIt) && (s.chan c).drive
  else []

/-- R86 step 4, R87: a SUPPLY record, to every attached port. -/
def supplyRecord (low : Bool) (shed : List Chan) (s : State) : State :=
  s.handToAttached s.ltb.pos (.supply low shed)

/-- R86: an entry to low. -/
def supplyEntry (s : State) : State :=
  if s.supply.low then s
  else
    let s := { s with supply := { s.supply with low := true } }
    let s := s.setNotice fun n => { n with supplyLow := true }
    let shed := shedSet s
    supplyRecord true shed (shed.foldl (fun s c => overrideWork c s) s)

/-- R87: a leaving of low. -/
def supplyLeaving (s : State) : State :=
  if s.supply.low then supplyRecord false [] { s with supply := { s.supply with low := false } } else s

end Sys2Proof.Machine
end

