-- ==== Sys2Proof/Machine/Clock.lean ====
section
/-! DEFINITION. The count clock: the accumulator (R1), the input filters, the timers, and one count of an idle part (log 1).
The events that come at one count are taken in a free order (log 7). -/

namespace Sys2Proof.Machine

/-! ## The accumulator (R1) -/

/-- The accumulator reaches P at the next count. -/
def advances (l : Ltb) : Bool := decide (l.lock ≠ .stopped ∧ l.period ≤ l.acc + 1024)

/-- R1: one count of the accumulator. When it reaches P, P is subtracted and the position moves forward by one step. It
stays at 0 in STOPPED. -/
def countLtb (l : Ltb) : Ltb :=
  if l.lock = .stopped then l
  else if advances l then { l with acc := l.acc + 1024 - l.period, pos := l.pos + 1 }
  else { l with acc := l.acc + 1024 }

/-- The counts to the next advance, from 1 up. -/
def countsToAdvance (l : Ltb) : Nat := max 1 ((l.period - l.acc + 1023) / 1024)

/-! ## Samples and filters -/

/-- One more sample of a level; the run is counted up to the `full` samples that qualify it. -/
def sample (full : Nat) (level : Bool) (r : SampleRun) : SampleRun :=
  if r.level = level then { r with count := min (r.count + 1) full } else { level := level, count := min 1 full }

/-- A run of `full` samples that end at a level. -/
def fullRun (full : Nat) (level : Bool) : SampleRun := { level := level, count := full }

/-- R3, R141: 8 samples. -/
def edgeSamples : Nat := 8

/-- R66: 4000 samples. -/
def feedbackSamples : Nat := 4000

/-- R85: 400 samples. -/
def supplySamples : Nat := 400

/-- R188: 40 low samples. -/
def resetSamples : Nat := 40

/-- R188: 8 high samples. -/
def releaseSamples : Nat := 8

/-- R141: the counts that the hold-off covers after an edge. -/
def holdOffCounts : Nat := 80

/-- The level of a reference pin. -/
def refLevel (s : State) : RefId → Bool
  | .a => s.pins.refA
  | .b => s.pins.refB

/-- R3: one sample of a reference input. -/
def sampleRef (r : RefId) (s : State) : State :=
  let f := s.refFilter r
  s.setRefFilter r { f with run := sample edgeSamples (refLevel s r) f.run }

/-- R141: of the last `n` counts, the present one among them, those that lie after the hold-off. -/
def clearOfHoldOff (n now : Nat) (f : CapFilter) : Nat :=
  match f.holdOff with
  | none => n
  | some last => min n (now - last)

/-- R141: one sample of a capture input. During the hold-off the run is held at 0; at its end the filter resumes. -/
def sampleCap (i : CapInput) (s : State) : State :=
  let f := s.capFilter i
  s.setCapFilter i
    { f with
      run :=
        if clearOfHoldOff 1 s.now f = 0 then SampleRun.none else sample edgeSamples (s.pins.cap.getLsbD i.val) f.run }

/-- R66: one sample of a feedback input. -/
def sampleFbk (c : Chan) (s : State) : State :=
  let ch := s.chan c
  s.setChan c { ch with fbkRun := sample feedbackSamples (s.pins.fbk.getLsbD c.val) ch.fbkRun }

/-- R85: one sample of SUPLOW_N. -/
def sampleSupply (s : State) : State :=
  { s with supply := { s.supply with run := sample supplySamples s.pins.suplowN s.supply.run } }

/-- R188: one sample of RESET_N. -/
def sampleReset (s : State) : State :=
  { s with resetRun := sample resetSamples s.pins.resetN s.resetRun }

/-- R177: in DISCARDING a low on RXD, of a byte under way among them, begins the quiet afresh. -/
def sampleRxd (s : State) : State :=
  match s.receiver with
  | .discarding _ => if s.pins.rxd then s else { s with receiver := .discarding s.now }
  | _ => s

/-- One sample of every input but RESET_N. -/
def sampleInputs (s : State) : State :=
  let s := sampleRef .b (sampleRef .a s)
  let s := allInputs.foldl (fun s i => sampleCap i s) s
  let s := allChans.foldl (fun s c => sampleFbk c s) s
  sampleRxd (sampleSupply s)

/-! ## Qualified levels and edges -/

/-- R3: a reference input's filter qualifies a level. A change from low to high is the rising edge; every other
qualification produces no edge. `between` is what its count brings between a forward move and its offer. -/
def refQualified (between : State → State) (r : RefId) (high : Bool) (s : State) : State :=
  let old := (s.refFilter r).level
  let s := s.setRefFilter r { s.refFilter r with level := some high }
  if high = true ∧ old = some false then referenceEdge between r s else between s

/-- R141: an edge starts the hold-off, which covers the 80 counts that follow. -/
def startHoldOff (i : CapInput) (s : State) : State :=
  s.setCapFilter i { s.capFilter i with run := SampleRun.none, holdOff := some (s.now + holdOffCounts) }

/-- The direction of a change to a level. -/
def directionOf (high : Bool) : EdgeDir := if high then .rising else .falling

/-- R141: a capture input's filter qualifies a level: the first one produces no edge, a change is an edge, which starts the
hold-off and is distributed. -/
def capQualified (i : CapInput) (high : Bool) (s : State) : State :=
  let old := (s.capFilter i).level
  let s := s.setCapFilter i { s.capFilter i with level := some high }
  match old with
  | none => s
  | some was => if was = high then s else distributeEdge i (directionOf high) (startHoldOff i s)

/-! ## Levels shown at the pins

`n` is the number of samples, the present count's the last, that the input has shown the level on at least. -/

/-- The run of an input that has shown a level on the last `n` samples at least, counted up to `full`. -/
def shownFor (full n : Nat) (level : Bool) (r : SampleRun) : SampleRun :=
  { level := level, count := min full (if r.level = level then max n r.count else n) }

/-- A reference pin at a level. -/
def showRef (r : RefId) (high : Bool) (n : Nat) (s : State) : State :=
  let pins := match r with
    | .a => { s.pins with refA := high }
    | .b => { s.pins with refB := high }
  { s with pins := pins }.setRefFilter r
    { s.refFilter r with run := shownFor edgeSamples n high (s.refFilter r).run }

/-- A capture pin at a level. The samples that the hold-off covers do not count (R141). -/
def showCap (i : CapInput) (high : Bool) (n : Nat) (s : State) : State :=
  let f := s.capFilter i
  { s with pins := { s.pins with cap := putBit s.pins.cap i.val high } }.setCapFilter i
    { f with run := shownFor (clearOfHoldOff edgeSamples s.now f) n high f.run }

/-- A feedback pin at a level. -/
def showFbk (c : Chan) (closed : Bool) (n : Nat) (s : State) : State :=
  { s with pins := { s.pins with fbk := putBit s.pins.fbk c.val closed } }.setChan c
    { s.chan c with fbkRun := shownFor feedbackSamples n closed (s.chan c).fbkRun }

/-- SUPLOW_N at a level. -/
def showSupply (high : Bool) (n : Nat) (s : State) : State :=
  { s with
    pins := { s.pins with suplowN := high }
    supply := { s.supply with run := shownFor supplySamples n high s.supply.run } }

/-! ## What comes at a count -/

/-- What can come at a count by itself, but for an advance. -/
inductive Due
  | refLevel (r : RefId) (high : Bool)
  | capLevel (i : CapInput) (high : Bool)
  | fbkLevel (c : Chan) (closed : Bool)
  | supplyLevel (high : Bool)
  | silence (r : RefId)
  | verify (c : Chan)
  | keepalive (p : Port)
  | byteGap
  | quiet
  /-- R172: the response is composed at the latest now. -/
  | compose (p : Port)
  /-- R179: a response has been sent. -/
  | sent
deriving DecidableEq, Repr

/-- A run has qualified the level. -/
def runFull (full : Nat) (level : Bool) (r : SampleRun) : Bool := decide (r = fullRun full level)

/-- A timer that runs out at `deadline` has run out. -/
def timerOut (now : Nat) (deadline : Option Nat) : Bool :=
  match deadline with
  | some t => decide (t ≤ now)
  | none => false

/-- R24: the silence limit has expired. -/
def silenceOut (now : Nat) (m : Monitor) : Bool :=
  match m.lastEdge with
  | some t => decide (t + silenceLimit m ≤ now)
  | none => false

/-- The thing comes at this count, as the state stands. The gap of R178 ends at the start bit, from which on RXD is low until
the byte has been received (log 28). -/
def isDue (s : State) : Due → Bool
  | .refLevel r high =>
    runFull edgeSamples high (s.refFilter r).run && decide ((s.refFilter r).level ≠ some high)
  | .capLevel i high =>
    runFull edgeSamples high (s.capFilter i).run && decide ((s.capFilter i).level ≠ some high)
  | .fbkLevel c closed => runFull feedbackSamples closed (s.chan c).fbkRun && decide ((s.chan c).feedback ≠ closed)
  | .supplyLevel high => runFull supplySamples high s.supply.run && decide (s.supply.low = high)
  | .silence r => silenceOut s.now (s.monitor r)
  | .verify c => timerOut s.now (s.chan c).verifyAt
  | .keepalive p => timerOut s.now (s.session p).expireAt
  | .byteGap =>
    match s.receiver with
    | .receiving _ last => s.pins.rxd && decide (last + 8000 < s.now)
    | _ => false
  | .quiet =>
    match s.receiver with
    | .discarding since => decide (since + 8000 < s.now)
    | _ => false
  | .compose p =>
    match (s.front p).buffer with
    | .pending _ latest => decide (latest ≤ s.now)
    | _ => false
  | .sent => s.sending.any (allSent s)

/-- Everything that can come at a count, but for an advance. -/
def allDue : List Due :=
  [.supplyLevel true, .supplyLevel false, .byteGap, .quiet, .sent]
    ++ [RefId.a, RefId.b].flatMap (fun r => [.refLevel r true, .refLevel r false, .silence r])
    ++ allInputs.flatMap (fun i => [.capLevel i true, .capLevel i false])
    ++ allChans.flatMap (fun c => [.fbkLevel c true, .fbkLevel c false, .verify c])
    ++ allPorts.flatMap (fun p => [.keepalive p, .compose p])

/-- What comes at this count, but for an advance. -/
def dueNow (s : State) : List Due := allDue.filter (isDue s)

/-- The handling of a thing that has come. -/
def handle (d : Due) (s : State) : State :=
  match d with
  | .refLevel r high => refQualified id r high s
  | .capLevel i high => capQualified i high s
  | .fbkLevel c closed => feedbackChange c closed s
  | .supplyLevel high => if high then supplyLeaving s else supplyEntry s
  | .silence r => silenceLimitExpiry r s
  | .verify c => verifyExpiry c s
  | .keepalive p => keepaliveExpiry p s
  | .byteGap => byteGapTimeout s
  | .quiet => quietEnd s
  | .compose p => composed p s
  | .sent => transmissionComplete s

/-- A thing is handled if what was taken before it at this count has not undone it. -/
def handleDue (s : State) (d : Due) : State := if isDue s d then handle d s else s

/-- A level that is qualified without an edge (R3, R141). -/
def withoutEdge (s : State) : Due → Bool
  | .refLevel r high => !(high && decide ((s.refFilter r).level = some false))
  | .capLevel i _ => (s.capFilter i).level.isNone
  | _ => false

/-- The levels that this count qualifies without an edge. Each changes its own filter alone, so they are taken first. -/
def qualifyLevels (s : State) : State := ((dueNow s).filter (withoutEdge s)).foldl handleDue s

/-! ## The order of what comes at a count (log 7) -/

/-- The things taken before a certain work, in a free order: those that a free order of them all and the work puts there. -/
def chosenBefore (l : List Due) (s : State) : List Due × State :=
  let (l, s) := s.inFreeOrder (none :: l.map some)
  ((l.takeWhile Option.isSome).reduceOption, s)

/-- What is left of a list without some of its members. -/
def without (l taken : List Due) : List Due := l.filter fun d => !taken.contains d

/-- The held request that a thing which comes would take (R171), if it takes one. -/
def requestTaken (s : State) : Due → Option Request
  | .compose p =>
    match (s.front p).held with
    | some { seq := _, body := .good r } => some r
    | _ => none
  | _ => none

/-- R32: the taking of a SET DEVICE, which can change the lock state. -/
def takesSetDevice (s : State) (d : Due) : Bool :=
  match requestTaken s d with
  | some (.setDevice _) => true
  | _ => false

/-- What may be taken before the timebase's own work for an advance of its count: an edge of a capture input (R143), a
silence limit, and a SET DEVICE (R152). Everything else finds the lock state that the work has left (R2). -/
def mayPrecedeWork (s : State) : Due → Bool
  | .capLevel _ _ => true
  | .silence _ => true
  | d => takesSetDevice s d

/-- What may be taken between a work of the timebase and the offer of the position: not what can change the lock state or
the position that the loop of R46 meets (R2, R11): an edge of a reference and a SET DEVICE. -/
def mayPrecedeOffer (s : State) : Due → Bool
  | .refLevel _ _ => false
  | d => !takesSetDevice s d

/-- R95: the thing may vacate an interlock group. So it is not taken before a forward move of its count: a close of the offer
of that move meets 0 elapsed steps. An open of a shed is none of these, since closes are then missed for SUPPLY
(R48). -/
def mayVacate (s : State) (d : Due) : Bool :=
  match d, requestTaken s d with
  | .fbkLevel _ _, _ => true
  | .verify _, _ => true
  | .keepalive _, _ => true
  | _, some (.release _ _) => true
  | _, some (.setChannel _) => true
  | _, some (.clearFault _) => true
  | _, some (.cancel _ _ _) => true
  | _, some .resetPort => true
  | _, _ => false

/-- Those of a list that may not vacate a group. -/
def vacatingNone (s : State) (l : List Due) : List Due := l.filter fun d => !mayVacate s d

/-- The thing is an edge of the selected reference that moves the position forward (R10, R8). -/
def movesLine (s : State) (d : Due) : Bool :=
  match d with
  | .refLevel r _ => isDue s d && !withoutEdge s d && decide (s.sel.selected = r) && (timebaseEdge s.now s).2
  | _ => false

/-- One thing of the list moves the position forward, when they are taken in their order. -/
def moveAhead : List Due → State → Bool
  | [], _ => false
  | d :: l, s => movesLine s d || moveAhead l (handleDue s d)

/-- The edge of a reference, if it still comes, with what is taken between its move and its offer. -/
def handleMove (m : Due) (between : List Due) (s : State) : State :=
  let rest := fun s => between.foldl handleDue s
  match m with
  | .refLevel r high => if isDue s m then refQualified rest r high s else rest s
  | _ => rest (handleDue s m)

/-- The things of a list, in its order, with no advance to make. An edge that moves the position forward has its move and its
offer in it (R11), with some of what is left between them. What may vacate a group waits, with the things `waiting`, while a
move would come behind it (R95). What has been taken before its place is no longer due there. -/
def handleInOrder (waiting : List Due) : List Due → State → State
  | [], s => waiting.foldl handleDue s
  | d :: l, s =>
    if mayVacate s d && moveAhead l (handleDue s d) then handleInOrder (waiting ++ [d]) l s
    else if movesLine s d then
      let (between, s) := chosenBefore ((waiting ++ l).filter (mayPrecedeOffer s)) s
      let moved := waiting.foldl handleDue (handleMove d between s)
      if moveAhead l moved then handleInOrder waiting l (handleMove d (vacatingNone s between) s)
      else handleInOrder [] l moved
    else handleInOrder waiting l (handleDue s d)

/-- All of the list, in a free order, with no advance to make. -/
def handleRest (due : List Due) (s : State) : State :=
  let (l, s) := s.inFreeOrder due
  handleInOrder [] l s

/-- All that comes at a count with an advance, whose position the count has reached: the timebase's own work, then the offer
of the position (R2), then the edges of the references (R3), and the rest around them. What may vacate a group is not taken
before the offer where a forward move would come behind it (R95). -/
def handleWithAdvance (s : State) : State :=
  let s := qualifyLevels s
  let due := dueNow s
  let (first, s) := chosenBefore (due.filter (mayPrecedeWork s)) s
  let (rest, s) := s.inFreeOrder (without due first)
  let (chosen, s) := chosenBefore (rest.filter (mayPrecedeOffer s)) s
  let s := timebaseWork (first.foldl handleDue s)
  let ahead := moveAhead (without rest chosen) (chosen.foldl handleDue s)
  let between := if ahead then vacatingNone s chosen else chosen
  handleInOrder [] (without rest between) (offerPosition (between.foldl handleDue s))

/-- All that comes at a count without an advance. -/
def handleAll (s : State) : State :=
  let s := qualifyLevels s
  handleRest (dueNow s) s

/-! ## One count -/

/-- The next count of a running part, before what comes at it is taken: the moment before has ended (R120), the accumulator
has gained and the position moved (R1), and every input has been sampled. -/
def nextCount (s : State) : State :=
  let s := allPorts.foldl closeMoment s
  sampleInputs (sampleReset { s with now := s.now + 1, ltb := countLtb s.ltb })

/-- R188: RESET_N has been low for 40 counts. -/
def resetLow (s : State) : Bool := decide (s.resetRun = fullRun resetSamples false)

/-- One count of a running part and what comes at it. A low of 40 counts on RESET_N begins a device reset instead. -/
def runningCount (s : State) : State :=
  let u := nextCount s
  if resetLow u then resetPinLow u else if advances s.ltb then handleWithAdvance u else handleAll u

/-- One count of a part held in reset. It is released at the eighth high on RESET_N once no power-on hold is under way. -/
def resetCount (hold : Bool) (s : State) : State :=
  let s := sampleReset { s with now := s.now + 1 }
  if hold = false ∧ s.resetRun.level = true ∧ releaseSamples ≤ s.resetRun.count then releaseReset s else s

/-- One count of the count clock, in which no command comes (log 1). -/
def tick (s : State) : State :=
  match s.power with
  | .running => runningCount s
  | .inReset hold => resetCount hold s

/-! ## Counts that a command carries (log 4) -/

/-- `n` counts pass, each with what comes at it. -/
def runClock : Nat → State → State
  | 0, s => s
  | n + 1, s => tick (runClock n s)

/-- R1, R2: the counts up to the next advance pass; the advance is made at the last of them. In STOPPED there is none. -/
def advanceNow (s : State) : State :=
  match s.ltb.lock with
  | .stopped => s
  | _ => runClock (countsToAdvance s.ltb) s

/-- R15: the advance that crosses a cycle boundary in HOLDOVER and makes the holdover count reach the limit (log 15). -/
def holdoverExpiry (s : State) : State :=
  if s.ltb.lock = .holdover ∧ s.ltb.limit ≤ s.ltb.holdCount + 1 ∧ stepOf s.ltb.pos = 1023 then advanceNow s else s

/-- An input whose filter takes `full` samples shows a level so that the last of them falls `after` counts on. The counts
pass with what comes at them, the qualification of the level among it. With no count to pass, the level has been shown long
enough already. -/
def levelAfterCounts (full after : Nat) (shown : Nat → State → State) (d : Due) (s : State) : State :=
  let k := min after full
  (runClock (after - k) s).whileRunning fun s =>
    let s := shown (full - k) s
    if k = 0 then handleDue s d else runClock k s

/-! ## Bytes on RXD (log 28) -/

/-- R176, R178: the counts from a start bit on RXD, which falls at the present count, to a stop bit `n` counts on. RXD is low
while they pass, so that neither the gap of R178 nor the quiet of R177 runs. A device reset that begins in them ends them. -/
def wireCounts : Nat → State → State
  | 0, s => s
  | n + 1, s =>
    let t := tick (setRxd false s)
    match t.power with
    | .running => wireCounts n t
    | .inReset _ => t

/-- Bytes on RXD: the start bit of the first at the present count, the stop bit of the last `n` counts on, where they are
received. The last leaves RXD at the level of its stop bit, received or not. -/
def bytesOnWire (n : Nat) (bytes : List RxByte) (s : State) : State :=
  let t := wireCounts n s
  match t.power with
  | .running => receiveBytes bytes t
  | .inReset _ => bytes.foldl (fun s b => setRxd b.stopBit s) t

end Sys2Proof.Machine
end

