-- ==== Sys2Proof/Machine/EventCommands.lean ====
section
/-! DEFINITION. The meanings of the commands that are events of the line, the references, the capture inputs, the channels,
the supply, the sessions and the reset. A command says that its event has come (log 3); where the state rules the event out,
nothing happens (log 6). -/

namespace Sys2Proof.Machine

/-- R1, R2: the counts up to the next advance pass, and the advance is made. In STOPPED there is none. -/
def execAdvance (s : State) : Host.Outcome State Fault Refusal :=
  .next (s.whileRunning advanceNow)

/-- R3, R27: the reference shows high, and its filter qualifies that `after` counts on. -/
def execReferenceEdge (r : RefId) (after : Nat) (s : State) : Host.Outcome State Fault Refusal :=
  .next (s.whileRunning (levelAfterCounts edgeSamples after (showRef r true) (.refLevel r true)))

/-- R24, R28: the silence limit of a monitor expires. -/
def execMonitorSilenceLimitExpiry (r : RefId) (s : State) : Host.Outcome State Fault Refusal :=
  .next (s.whileRunning (silenceLimitExpiry r))

/-- R15, R17: the holdover count reaches the limit at the crossing of a cycle boundary (log 15). -/
def execHoldoverExpired (s : State) : Host.Outcome State Fault Refusal :=
  .next (s.whileRunning holdoverExpiry)

/-- The level that an edge goes to. -/
def levelAfter : EdgeDir → Bool
  | .rising => true
  | .falling => false

/-- R141, R142, R147, R149: the input changes its level, and its filter qualifies that `after` counts on. -/
def execCaptureEdge (i : CapInput) (d : EdgeDir) (after : Nat) (s : State) : Host.Outcome State Fault Refusal :=
  .next (s.whileRunning
    (levelAfterCounts edgeSamples after (showCap i (levelAfter d)) (.capLevel i (levelAfter d))))

/-- R141: a hold-off that runs ends at the present count, the last that it covers. -/
def endHoldOff (i : CapInput) (s : State) : State :=
  match (s.capFilter i).holdOff with
  | some last =>
    if s.now < last then s.setCapFilter i { s.capFilter i with run := SampleRun.none, holdOff := some s.now } else s
  | none => s

/-- R141: the hold-off timer ends. -/
def execCaptureHoldOffEnd (i : CapInput) (s : State) : Host.Outcome State Fault Refusal :=
  .next (s.whileRunning (endHoldOff i))

/-- R66, R69, R71, R72, R74: FBK changes, and its debounced level follows some counts on. -/
def execFeedbackChange (c : Chan) (f : NewFeedback) (s : State) : Host.Outcome State Fault Refusal :=
  .next (s.whileRunning (levelAfterCounts feedbackSamples f.after (showFbk c f.closed) (.fbkLevel c f.closed)))

/-- R69, R71, R73: the verify timer expires. -/
def execVerifyTimerExpiry (c : Chan) (s : State) : Host.Outcome State Fault Refusal :=
  .next (s.whileRunning (verifyExpiry c))

/-- R85, R86: the debounced level of SUPLOW_N goes low. -/
def execSupplyEntryToLow (s : State) : Host.Outcome State Fault Refusal :=
  .next (s.whileRunning fun s => supplyEntry (showSupply false supplySamples s))

/-- R85, R87: the debounced level of SUPLOW_N goes high. -/
def execSupplyLeavingLow (s : State) : Host.Outcome State Fault Refusal :=
  .next (s.whileRunning fun s => supplyLeaving (showSupply true supplySamples s))

/-- R122, R126: the keepalive timer runs out. -/
def execKeepaliveExpiry (p : Port) (s : State) : Host.Outcome State Fault Refusal :=
  .next (s.whileRunning (keepaliveExpiry p))

/-- R81, R52, R107: the pending open of the channel is examined, and executes if the channel takes it. -/
def execPendingOpenExecution (c : Chan) (s : State) : Host.Outcome State Fault Refusal :=
  .next (s.whileRunning (examineNow c))

/-- R106, R109: a graceful release whose drain has ended completes (log 16). -/
def execDrainComplete (c : Chan) (s : State) : Host.Outcome State Fault Refusal :=
  .next (s.whileRunning (drainCompletion c))

/-- R162, R188: the supply rises, and the part holds itself in reset. -/
def execPowerOnReset (s : State) : Host.Outcome State Fault Refusal :=
  .next (powerOn s)

/-- R162, R188: RESET_N has been low for 40 counts. -/
def execPinReset (s : State) : Host.Outcome State Fault Refusal :=
  .next (resetPinLow s)

/-- R187, R188, R66, R85: reset release, with the levels sampled at it. -/
def execResetRelease (straps : Straps) (fbk : BitVec 12) (suplowN : Bool) (s : State) : Host.Outcome State Fault Refusal :=
  .next (releaseResetAt straps fbk suplowN s)

/-- R3: a reference input's filter qualifies a level that makes no rising edge. -/
def quietRefLevel (r : RefId) (high : Bool) (s : State) : State :=
  if high = true ∧ (s.refFilter r).level = some false then s
  else handleDue (showRef r high edgeSamples s) (.refLevel r high)

/-- R3: a level of a reference input is qualified without a rising edge. -/
def execReferenceLevelQualified (r : RefId) (high : Bool) (s : State) : Host.Outcome State Fault Refusal :=
  .next (s.whileRunning (quietRefLevel r high))

/-- R141: a capture input's filter qualifies its first level. -/
def firstCapLevel (i : CapInput) (high : Bool) (s : State) : State :=
  match (s.capFilter i).level with
  | none => handleDue (showCap i high edgeSamples s) (.capLevel i high)
  | some _ => s

/-- R141: the first level of a capture input is qualified, which produces no edge. -/
def execCaptureFirstQualification (i : CapInput) (high : Bool) (s : State) : Host.Outcome State Fault Refusal :=
  .next (s.whileRunning (firstCapLevel i high))

end Sys2Proof.Machine
end

