-- ==== Sys2Proof/Machine/PortCommands.lean ====
section
/-! DEFINITION. The meanings of the commands that are bytes and transactions on the host ports. Each is what its bytes are to
the port in the state it is in (R177 to R185). -/

namespace Sys2Proof.Machine

/-- R177: a start of frame and the bytes after it, all received without error. -/
def execHp0RequestFrame (bytes : OnWire (List Byte)) (s : State) : Host.Outcome State Fault Refusal :=
  .next (s.whileRunning (bytesOnWire bytes.counts (rxGood startOfFrame :: bytes.data.map rxGood)))

/-- R177: one byte on RXD. -/
def execHp0StrayByte (b : OnWire RxByte) (s : State) : Host.Outcome State Fault Refusal :=
  .next (s.whileRunning (bytesOnWire b.counts [b.data]))

/-- R177: a start of frame and the bytes after it, with their errors. -/
def execHp0DamagedFrame (bytes : OnWire (List RxByte)) (s : State) : Host.Outcome State Fault Refusal :=
  .next (s.whileRunning (bytesOnWire bytes.counts (rxGood startOfFrame :: bytes.data)))

/-- R178: a gap of more than 2 ms. -/
def execHp0ByteGapTimeout (s : State) : Host.Outcome State Fault Refusal :=
  .next (s.whileRunning byteGapTimeout)

/-- R177: RXD has stayed high for more than 2 ms. -/
def execHp0DiscardingQuietEnd (s : State) : Host.Outcome State Fault Refusal :=
  .next (s.whileRunning quietEnd)

/-- R179: the stop bit of the CRC byte of a response has been sent. -/
def execHp0TransmissionComplete (s : State) : Host.Outcome State Fault Refusal :=
  .next (s.whileRunning transmissionComplete)

/-- R180: the transaction is for the target. Every other address leaves the target as it is. -/
def hp1Addressed (addr : BitVec 7) (f : State → State) (s : State) : State :=
  if addr = hp1Address s.straps then f (hp1Begin s) else hp1Wire [] 0 s

/-- R180, R181: a write transaction. -/
def execHp1WriteTransaction (addr : BitVec 7) (bytes : List Byte) (s : State) : Host.Outcome State Fault Refusal :=
  .next (s.whileRunning (hp1Addressed addr (hp1Write bytes)))

/-- R180, R182: a read transaction. -/
def execHp1ReadTransaction (addr : BitVec 7) (clocked : Nat) (s : State) : Host.Outcome State Fault Refusal :=
  .next (s.whileRunning (hp1Addressed addr (hp1Read clocked)))

/-- R184: a transaction with command byte 0x5A. -/
def execHp2RequestTransaction (bytes : List Byte) (s : State) : Host.Outcome State Fault Refusal :=
  .next (s.whileRunning (fun s => hp2Request bytes (hp2Begin s)))

/-- R185: a transaction with command byte 0xA5. -/
def execHp2ReadTransaction (clocked : Nat) (s : State) : Host.Outcome State Fault Refusal :=
  .next (s.whileRunning (fun s => hp2Read clocked (hp2Begin s)))

/-- R183: a transaction by its first byte. -/
def execHp2BadCommandByte (first : Byte) (rest : List Byte) (s : State) : Host.Outcome State Fault Refusal :=
  .next (s.whileRunning (fun s => hp2Transaction first rest (hp2Begin s)))

/-- R183: a transaction begun too soon after the one before. -/
def execHp2CsHighTooShort (bytes : List Byte) (s : State) : Host.Outcome State Fault Refusal :=
  .next (s.whileRunning (fun s => hp2TooSoon bytes (hp2Begin s)))

/-- R171: the response of the port is composed. -/
def execResponseComposed (p : Port) (s : State) : Host.Outcome State Fault Refusal :=
  .next (s.whileRunning (composed p))

end Sys2Proof.Machine
end

