-- ==== Sys2Proof/Machine/RequestCommands.lean ====
section
/-! DEFINITION. The meanings of the twenty request commands. A request command is a complete request of its port whose CRC
matches (log 2): it is taken, or held while the buffer is PENDING (R171). Its checks and effects are those of its serve
function in Requests.lean. -/

namespace Sys2Proof.Machine

/-- R152, R171: a complete request of Table 9-1 reaches the port's front end. -/
def sendRequest (p : Port) (seq : Byte) (r : Request) (s : State) : State :=
  s.whileRunning (submit p { seq := seq, body := .good r })

/-- NOP: R159. -/
def execNop (p : Port) (seq : Byte) (s : State) :
    Host.Outcome State Fault Refusal :=
  .next (sendRequest p seq .nop s)

/-- ATTACH: R119 to R121. -/
def execAttach (p : Port) (seq : Byte) (keepalive subs : Byte) (s : State) :
    Host.Outcome State Fault Refusal :=
  .next (sendRequest p seq (.attach keepalive subs) s)

/-- DETACH: R124, R126. -/
def execDetach (p : Port) (seq : Byte) (s : State) :
    Host.Outcome State Fault Refusal :=
  .next (sendRequest p seq .detach s)

/-- RESET PORT: R125, R126. -/
def execResetPort (p : Port) (seq : Byte) (s : State) :
    Host.Outcome State Fault Refusal :=
  .next (sendRequest p seq .resetPort s)

/-- READ STATUS: R161. -/
def execReadStatus (p : Port) (seq : Byte) (s : State) :
    Host.Outcome State Fault Refusal :=
  .next (sendRequest p seq .readStatus s)

/-- CLEAR NOTICES: R129. -/
def execClearNotices (p : Port) (seq : Byte) (notices : Byte) (s : State) :
    Host.Outcome State Fault Refusal :=
  .next (sendRequest p seq (.clearNotices notices) s)

/-- SET DEVICE: R163 to R165. -/
def execSetDevice (p : Port) (seq : Byte) (a : SetDeviceArgs) (s : State) :
    Host.Outcome State Fault Refusal :=
  .next (sendRequest p seq (.setDevice a) s)

/-- READ DEVICE: R166. -/
def execReadDevice (p : Port) (seq : Byte) (s : State) :
    Host.Outcome State Fault Refusal :=
  .next (sendRequest p seq .readDevice s)

/-- CLAIM: R101 to R103. -/
def execClaim (p : Port) (seq : Byte) (chans : BitVec 16) (s : State) :
    Host.Outcome State Fault Refusal :=
  .next (sendRequest p seq (.claim chans) s)

/-- RELEASE: R104 to R111. -/
def execRelease (p : Port) (seq : Byte) (chans : BitVec 16) (mode : Byte) (s : State) :
    Host.Outcome State Fault Refusal :=
  .next (sendRequest p seq (.release chans mode) s)

/-- SET CHANNEL: R82, R83, R96. -/
def execSetChannel (p : Port) (seq : Byte) (a : SetChannelArgs) (s : State) :
    Host.Outcome State Fault Refusal :=
  .next (sendRequest p seq (.setChannel a) s)

/-- READ CHANNEL: R84. -/
def execReadChannel (p : Port) (seq : Byte) (channel : Byte) (s : State) :
    Host.Outcome State Fault Refusal :=
  .next (sendRequest p seq (.readChannel channel) s)

/-- CLEAR FAULT: R75. -/
def execClearFault (p : Port) (seq : Byte) (channel : Byte) (s : State) :
    Host.Outcome State Fault Refusal :=
  .next (sendRequest p seq (.clearFault channel) s)

/-- SCHEDULE: R42 to R45. -/
def execSchedule (p : Port) (seq : Byte) (a : ScheduleArgs) (s : State) :
    Host.Outcome State Fault Refusal :=
  .next (sendRequest p seq (.schedule a) s)

/-- CANCEL: R59, R60. -/
def execCancel (p : Port) (seq : Byte) (form : Byte) (tag : BitVec 16) (channel : Byte) (s : State) :
    Host.Outcome State Fault Refusal :=
  .next (sendRequest p seq (.cancel form tag channel) s)

/-- READ SCHEDULE: R62. -/
def execReadSchedule (p : Port) (seq : Byte) (start : Byte) (s : State) :
    Host.Outcome State Fault Refusal :=
  .next (sendRequest p seq (.readSchedule start) s)

/-- ARM CAPTURE: R145. -/
def execArmCapture (p : Port) (seq : Byte) (input edge count : Byte) (s : State) :
    Host.Outcome State Fault Refusal :=
  .next (sendRequest p seq (.armCapture input edge count) s)

/-- DISARM CAPTURE: R146. -/
def execDisarmCapture (p : Port) (seq : Byte) (input : Byte) (s : State) :
    Host.Outcome State Fault Refusal :=
  .next (sendRequest p seq (.disarmCapture input) s)

/-- TAKE EVENTS: R134. -/
def execTakeEvents (p : Port) (seq : Byte) (count : Byte) (s : State) :
    Host.Outcome State Fault Refusal :=
  .next (sendRequest p seq (.takeEvents count) s)

/-- ACK EVENTS: R135, R136. -/
def execAckEvents (p : Port) (seq : Byte) (number : BitVec 16) (s : State) :
    Host.Outcome State Fault Refusal :=
  .next (sendRequest p seq (.ackEvents number) s)

end Sys2Proof.Machine
end

