-- ==== Sys2Proof/Machine/Dispatch.lean ====
section
/-! DEFINITION. The meaning of every command, arm by arm. -/

namespace Sys2Proof.Machine

def exec (i : Instr) (s : State) : Host.Outcome State Fault Refusal :=
  match i with
  | .nop p seq => Sys2Proof.Machine.execNop p seq s
  | .attach p seq keepalive subs => Sys2Proof.Machine.execAttach p seq keepalive subs s
  | .detach p seq => Sys2Proof.Machine.execDetach p seq s
  | .resetPort p seq => Sys2Proof.Machine.execResetPort p seq s
  | .readStatus p seq => Sys2Proof.Machine.execReadStatus p seq s
  | .clearNotices p seq notices => Sys2Proof.Machine.execClearNotices p seq notices s
  | .setDevice p seq a => Sys2Proof.Machine.execSetDevice p seq a s
  | .readDevice p seq => Sys2Proof.Machine.execReadDevice p seq s
  | .claim p seq chans => Sys2Proof.Machine.execClaim p seq chans s
  | .release p seq chans mode => Sys2Proof.Machine.execRelease p seq chans mode s
  | .setChannel p seq a => Sys2Proof.Machine.execSetChannel p seq a s
  | .readChannel p seq channel => Sys2Proof.Machine.execReadChannel p seq channel s
  | .clearFault p seq channel => Sys2Proof.Machine.execClearFault p seq channel s
  | .schedule p seq a => Sys2Proof.Machine.execSchedule p seq a s
  | .cancel p seq form tag channel => Sys2Proof.Machine.execCancel p seq form tag channel s
  | .readSchedule p seq start => Sys2Proof.Machine.execReadSchedule p seq start s
  | .armCapture p seq input edge count => Sys2Proof.Machine.execArmCapture p seq input edge count s
  | .disarmCapture p seq input => Sys2Proof.Machine.execDisarmCapture p seq input s
  | .takeEvents p seq count => Sys2Proof.Machine.execTakeEvents p seq count s
  | .ackEvents p seq number => Sys2Proof.Machine.execAckEvents p seq number s
  | .advance => Sys2Proof.Machine.execAdvance s
  | .referenceEdge r after => Sys2Proof.Machine.execReferenceEdge r after s
  | .monitorSilenceLimitExpiry r => Sys2Proof.Machine.execMonitorSilenceLimitExpiry r s
  | .holdoverExpired => Sys2Proof.Machine.execHoldoverExpired s
  | .captureEdge input d after => Sys2Proof.Machine.execCaptureEdge input d after s
  | .captureHoldOffEnd input => Sys2Proof.Machine.execCaptureHoldOffEnd input s
  | .feedbackChange c f => Sys2Proof.Machine.execFeedbackChange c f s
  | .verifyTimerExpiry c => Sys2Proof.Machine.execVerifyTimerExpiry c s
  | .supplyEntryToLow => Sys2Proof.Machine.execSupplyEntryToLow s
  | .supplyLeavingLow => Sys2Proof.Machine.execSupplyLeavingLow s
  | .keepaliveExpiry p => Sys2Proof.Machine.execKeepaliveExpiry p s
  | .pendingOpenExecution c => Sys2Proof.Machine.execPendingOpenExecution c s
  | .drainComplete c => Sys2Proof.Machine.execDrainComplete c s
  | .powerOnReset => Sys2Proof.Machine.execPowerOnReset s
  | .pinReset => Sys2Proof.Machine.execPinReset s
  | .resetRelease straps fbk suplowN => Sys2Proof.Machine.execResetRelease straps fbk suplowN s
  | .hp0RequestFrame bytes => Sys2Proof.Machine.execHp0RequestFrame bytes s
  | .hp0StrayByte b => Sys2Proof.Machine.execHp0StrayByte b s
  | .hp0DamagedFrame bytes => Sys2Proof.Machine.execHp0DamagedFrame bytes s
  | .hp0ByteGapTimeout => Sys2Proof.Machine.execHp0ByteGapTimeout s
  | .hp0DiscardingQuietEnd => Sys2Proof.Machine.execHp0DiscardingQuietEnd s
  | .hp0TransmissionComplete => Sys2Proof.Machine.execHp0TransmissionComplete s
  | .hp1WriteTransaction addr bytes => Sys2Proof.Machine.execHp1WriteTransaction addr bytes s
  | .hp1ReadTransaction addr clocked => Sys2Proof.Machine.execHp1ReadTransaction addr clocked s
  | .hp2RequestTransaction bytes => Sys2Proof.Machine.execHp2RequestTransaction bytes s
  | .hp2ReadTransaction clocked => Sys2Proof.Machine.execHp2ReadTransaction clocked s
  | .hp2BadCommandByte first rest => Sys2Proof.Machine.execHp2BadCommandByte first rest s
  | .hp2CsHighTooShort bytes => Sys2Proof.Machine.execHp2CsHighTooShort bytes s
  | .responseComposed p => Sys2Proof.Machine.execResponseComposed p s
  | .referenceLevelQualified r high => Sys2Proof.Machine.execReferenceLevelQualified r high s
  | .captureFirstQualification input high => Sys2Proof.Machine.execCaptureFirstQualification input high s

end Sys2Proof.Machine
end

