-- ==== Sys2Proof/Safety.lean ====
section
/-! DEFINITION. What the rules promise of every state: the invariants that claims are stated with. -/

namespace Sys2Proof.Machine

/-! ## Sessions (R118, R126, R130, R132, R138) -/

/-- Each record's number is one above the number of the record before it; `next` follows the last. -/
def Consecutive (next : BitVec 16) : List EventRecord → Prop
  | [] => True
  | [r] => r.seq + 1 = next
  | r :: r' :: l => r.seq + 1 = r'.seq ∧ Consecutive next (r' :: l)

/-- What every session record keeps. -/
structure SessionOk (r : Session) : Prop where
  /-- R130: at most 16 records. -/
  depth : r.queue.length ≤ 16
  /-- R130: consecutive numbers, and the next sequence behind the newest. -/
  numbers : Consecutive r.nextSeq r.queue
  /-- R132: records are lost only at a full queue. -/
  lostFull : 0 < r.lost → r.queue.length = 16
  /-- R132: the lost count stays at 255. -/
  lostMax : r.lost ≤ 255
  /-- R138: ATTN is high while the queue holds a record, and low while it is empty. -/
  attnQueue : r.attn = !r.queue.isEmpty
  /-- R126: what a DETACHED port is left with. -/
  detached : r.attached = false →
    r.queue = [] ∧ r.lost = 0 ∧ r.keepalive = 0 ∧ r.subs = { timebase := false, fault := false }
  /-- R122: the timer runs exactly with a keepalive setting above 0. -/
  timer : r.expireAt.isSome = true ↔ r.keepalive ≠ 0

/-- Every port's session record is in order. -/
def SessionsOk (s : State) : Prop := ∀ p, SessionOk (s.session p)

/-! ## The timebase (R1, R4 to R7, R14, R16) -/

/-- An interval of the accepted line frequencies. -/
def InRange (i : Nat) : Prop := 57143 ≤ i ∧ i ≤ 100000

/-- What the timebase keeps. -/
structure TimebaseOk (l : Ltb) : Prop where
  /-- R5: *started* is clear exactly in STOPPED. -/
  started : l.started = false ↔ l.lock = .stopped
  /-- R1, R5: in STOPPED the line position and the accumulator are held. -/
  stopped : l.lock = .stopped → l.pos = 0 ∧ l.acc = 0
  /-- R4: the history holds exactly 8 intervals, each in range. -/
  history : l.history.length = 8 ∧ ∀ i ∈ l.history, InRange i
  /-- R4: P is the floor of their mean. -/
  period : l.period = meanOf l.history
  /-- R14: two misses in a row leave LOCKED. -/
  misses : l.lock = .locked → l.missCount < 2
  /-- R16: two good windows in a row leave HOLDOVER. -/
  relocks : l.lock = .holdover → l.relockCount < 2
  /-- R6: the run of acquisition holds good intervals, fewer than 8 while it is not complete. -/
  run : ∀ i ∈ l.acq.run, InRange i
  running : l.lock = .stopped ∨ l.lock = .lost → l.acq.run.length < 8

/-- R5: while the timebase is STOPPED the schedule is empty. -/
def EmptyWhileStopped (s : State) : Prop := s.ltb.lock = .stopped → allEntries s.sched = []

/-! ## The store (R41) -/

/-- R41: the shared places in use are at most 24. -/
def StoreOk (s : State) : Prop := sharedUsed s.sched ≤ 24

/-! ## Channels and groups (R65, R73, R90, R94, R100) -/

/-- The state is one in which the drive is on (Table 4-2). -/
def drivenState : ChanState → Bool
  | .closing => true
  | .closed => true
  | _ => false

/-- The state is one that waits for its feedback. -/
def movingState : ChanState → Bool
  | .closing => true
  | .opening => true
  | _ => false

/-- What every channel record keeps (Table 4-2, R73). -/
structure ChannelOk (ch : Channel) : Prop where
  /-- Table 4-2: the drive is on in CLOSING and CLOSED, and off in the other states. -/
  drive : ch.drive = drivenState ch.state
  /-- Table 4-2: the verify timer runs in CLOSING and OPENING. -/
  timer : ch.verifyAt.isSome = movingState ch.state
  /-- R68, R70: CLOSING and OPENING are states of feedback mode PRESENT. -/
  present : movingState ch.state = true → ch.cfg.present = true
  /-- R73: a channel in FAULT has no pending open. -/
  fault : inFault ch.state = true → ch.pendingOpen = none
  /-- R89: a channel of no group occupies none. -/
  ungrouped : ch.cfg.group = none → ch.occupant = false
  /-- R90, R94: a member in CLOSING, CLOSED or OPENING is among the occupants. -/
  occupies : ch.cfg.group.isSome = true → drivenState ch.state = true ∨ movingState ch.state = true → ch.occupant = true

/-- R94: in each interlock group at most one member has its drive on. -/
def OneDrive (s : State) : Prop :=
  ∀ c d : Chan, c ≠ d → (s.chan c).drive = true → (s.chan d).drive = true →
    (s.chan c).cfg.group.isSome = true → (s.chan c).cfg.group ≠ (s.chan d).cfg.group

/-- Every channel record is in order, and the drives of every group exclude each other. -/
def SwitchingOk (s : State) : Prop := (∀ c, ChannelOk (s.chan c)) ∧ OneDrive s

/-! ## Ownership (R63, R100, R126) -/

/-- What the claims keep. -/
structure OwnershipOk (s : State) : Prop where
  /-- R63: every entry that names a channel belongs to the port that holds its claim. -/
  entries : ∀ e ∈ allEntries s.sched, ∀ c, chanOf e.action = some c → ownerOf (s.chan c).claim = some e.owner
  /-- R63, R80: a FREE channel has no pending open. -/
  pendingOpens : ∀ c, (s.chan c).claim = .free → (s.chan c).pendingOpen = none
  /-- R126: a DETACHED port holds no claims. -/
  claims : ∀ p, (s.session p).attached = false → ∀ c, s.holds p c = false
  /-- R126: a DETACHED port holds no schedule entries. -/
  store : ∀ p, (s.session p).attached = false → ∀ e ∈ allEntries s.sched, e.owner ≠ p
  /-- R126: a DETACHED port holds no armed capture records. -/
  arms : ∀ p, (s.session p).attached = false → ∀ i, s.arm p i = .idle

/-! ## Tags (R37) -/

/-- The tags of the live entries, PENDING and WAITING. -/
def liveTags (s : State) : List Tag := s.sched.pending.map (·.entry.tag) ++ s.sched.waiting.map (·.tag)

/-- The tags of the held opens. -/
def heldTags (s : State) : List Tag := allChans.filterMap fun c => heldTag (s.chan c).pendingOpen

/-- What the tags keep (R37). -/
structure TagsOk (s : State) : Prop where
  /-- The tags of all live entries and held opens are distinct. -/
  live : (liveTags s ++ heldTags s).Nodup
  /-- The tags of all entries are distinct, DEFERRED ones too. -/
  entries : ((allEntries s.sched).map (·.tag)).Nodup
  /-- A DEFERRED entry carries the same tag as the held open of its channel. -/
  deferred : ∀ x ∈ s.sched.deferred, ∃ c, chanOf x.entry.action = some c ∧ heldTag (s.chan c).pendingOpen = some x.entry.tag
  /-- No tag is 0. -/
  nonzero : ∀ e ∈ allEntries s.sched, e.tag ≠ 0

/-! ## Outcomes -/

/-- The outcome is a next state, and `P` holds of it. -/
def Gives (o : Host.Outcome State Fault Refusal) (P : State → Prop) : Prop := ∃ t, o = .next t ∧ P t

/-! ## Requests as commands (R152, R171, R172) -/

/-- The command that is a request of Table 9-1, from port `p` in a frame with this SEQ. -/
def requestInstr (p : Port) (seq : Byte) : Request → Instr
  | .nop => .nop p seq
  | .attach keepalive subs => .attach p seq keepalive subs
  | .detach => .detach p seq
  | .resetPort => .resetPort p seq
  | .readStatus => .readStatus p seq
  | .clearNotices notices => .clearNotices p seq notices
  | .setDevice a => .setDevice p seq a
  | .readDevice => .readDevice p seq
  | .claim chans => .claim p seq chans
  | .release chans mode => .release p seq chans mode
  | .setChannel a => .setChannel p seq a
  | .readChannel channel => .readChannel p seq channel
  | .clearFault channel => .clearFault p seq channel
  | .schedule a => .schedule p seq a
  | .cancel form tag channel => .cancel p seq form tag channel
  | .readSchedule start => .readSchedule p seq start
  | .armCapture input edge count => .armCapture p seq input edge count
  | .disarmCapture input => .disarmCapture p seq input
  | .takeEvents count => .takeEvents p seq count
  | .ackEvents number => .ackEvents p seq number

/-- The request that a command is, none for a command that is no request. -/
def requestOf : Instr → Option Request
  | .nop _ _ => some .nop
  | .attach _ _ keepalive subs => some (.attach keepalive subs)
  | .detach _ _ => some .detach
  | .resetPort _ _ => some .resetPort
  | .readStatus _ _ => some .readStatus
  | .clearNotices _ _ notices => some (.clearNotices notices)
  | .setDevice _ _ a => some (.setDevice a)
  | .readDevice _ _ => some .readDevice
  | .claim _ _ chans => some (.claim chans)
  | .release _ _ chans mode => some (.release chans mode)
  | .setChannel _ _ a => some (.setChannel a)
  | .readChannel _ _ channel => some (.readChannel channel)
  | .clearFault _ _ channel => some (.clearFault channel)
  | .schedule _ _ a => some (.schedule a)
  | .cancel _ _ form tag channel => some (.cancel form tag channel)
  | .readSchedule _ _ start => some (.readSchedule start)
  | .armCapture _ _ input edge count => some (.armCapture input edge count)
  | .disarmCapture _ _ input => some (.disarmCapture input)
  | .takeEvents _ _ count => some (.takeEvents count)
  | .ackEvents _ _ number => some (.ackEvents number)
  | .advance => none
  | .referenceEdge _ _ => none
  | .monitorSilenceLimitExpiry _ => none
  | .holdoverExpired => none
  | .captureEdge _ _ _ => none
  | .captureHoldOffEnd _ => none
  | .feedbackChange _ _ => none
  | .verifyTimerExpiry _ => none
  | .supplyEntryToLow => none
  | .supplyLeavingLow => none
  | .keepaliveExpiry _ => none
  | .pendingOpenExecution _ => none
  | .drainComplete _ => none
  | .powerOnReset => none
  | .pinReset => none
  | .resetRelease _ _ _ => none
  | .hp0RequestFrame _ => none
  | .hp0StrayByte _ => none
  | .hp0DamagedFrame _ => none
  | .hp0ByteGapTimeout => none
  | .hp0DiscardingQuietEnd => none
  | .hp0TransmissionComplete => none
  | .hp1WriteTransaction _ _ => none
  | .hp1ReadTransaction _ _ => none
  | .hp2RequestTransaction _ => none
  | .hp2ReadTransaction _ => none
  | .hp2BadCommandByte _ _ => none
  | .hp2CsHighTooShort _ => none
  | .responseComposed _ => none
  | .referenceLevelQualified _ _ => none
  | .captureFirstQualification _ _ => none

/-- The buffer is not PENDING: a complete request is taken when it is received (R171). -/
def takesRequest : Buffer → Bool
  | .pending _ _ => false
  | _ => true

/-- The part runs, and the port takes the next complete request at once. -/
def CanTake (p : Port) (s : State) : Prop := s.power = .running ∧ takesRequest (s.front p).buffer = true

/-- The port can take a request, and its session is ATTACHED (R155). -/
def CanAct (p : Port) (s : State) : Prop := CanTake p s ∧ (s.session p).attached = true

/-- R171, R172, R157: `fronts` are those of `s`, but that port `p`'s buffer is PENDING with the response, to be READY at
most 800 counts (200 us) after `s`. -/
def Answered (p : Port) (seq : Byte) (status : Status) (payload : List Byte) (s : State) (fronts : Vector FrontEnd 3) :
    Prop :=
  fronts =
    s.fronts.set p.val
      { s.front p with buffer := .pending { seq := seq, status := status, payload := payload } (s.now + 800) } p.isLt

/-- R122: the session record of a port from which a request is taken, its window started afresh while it is ATTACHED. -/
def restarted (now : Nat) (r : Session) : Session :=
  if r.attached then
    { r with expireAt := if r.keepalive = 0 then none else some (now + 400000 * r.keepalive.toNat) }
  else r

/-- The session records are those of `s`, but that port `p`'s is `r`. -/
def OnlySession (p : Port) (r : Session) (s : State) (sessions : Vector Session 3) : Prop :=
  sessions = s.sessions.set p.val r p.isLt

/-- The channel records are those of `s`, but for channel `c`'s. -/
def OnlyChannel (c : Chan) (s t : State) : Prop := ∀ d, d ≠ c → t.chan d = s.chan d

/-! ## The parameter check (R156) -/

/-- R163, Table 9-5: a SET DEVICE payload with a value out of its range or set. -/
def badDevice (a : SetDeviceArgs) : Bool :=
  decide (3 ≤ a.mode.toNat) || decide (a.limit = 0) || decide (2 ≤ a.shed.toNat)
    || [a.offsetA, a.offsetB, a.gap1, a.gap2, a.gap3, a.gap4].any fun x => decide (1024 ≤ x.toNat)

/-- R82, 11.6: a SET CHANNEL payload with a value out of its range or set. -/
def badConfig (a : SetChannelArgs) : Bool :=
  decide (12 ≤ a.channel.toNat) || decide (1024 ≤ a.closeLead.toNat) || decide (1024 ≤ a.openLead.toNat)
    || decide (5 ≤ a.group.toNat) || decide (2 ≤ a.safe.toNat) || decide (2 ≤ a.feedback.toNat) || decide (a.verify = 0)

/-- R42, 11.7: a SCHEDULE payload that fails the parameter check: its kind, channel and width (log 10), its tolerance, the
fields of its timing form with the unused ones, its repeat. A PULSE's width is held against its channel's minimum on dwell. -/
def badSchedule (s : State) (a : ScheduleArgs) : Bool :=
  let short := allChans.any fun c => decide (c.val = a.channel.toNat ∧ a.width.toNat < (s.chan c).cfg.onDwell.toNat)
  let action :=
    match a.kind.toNat with
    | 0 => decide (12 ≤ a.channel.toNat ∨ a.width ≠ 0)
    | 1 => decide (12 ≤ a.channel.toNat ∨ a.width ≠ 0)
    | 2 => decide (12 ≤ a.channel.toNat ∨ a.width = 0 ∨ 4096 ≤ a.width.toNat) || short
    | 3 => decide (a.channel ≠ 0xFF ∨ a.width ≠ 0)
    | _ => true
  let trigger := decide (a.input ≠ 0 ∨ a.edge ≠ 0 ∨ a.delay ≠ 0)
  let timing :=
    match a.form.toNat with
    | 0 => trigger || decide (1024 ≤ a.dueStep.toNat)
    | 1 => trigger || decide (1024 ≤ a.dueStep.toNat ∨ 65536 ≤ a.dueCycle.toNat)
    | 2 =>
      decide (a.dueCycle ≠ 0 ∨ a.dueStep ≠ 0 ∨ 4 ≤ a.input.toNat ∨ a.edge = 0 ∨ 4 ≤ a.edge.toNat ∨ a.delay.toNat < 4)
    | _ => true
  let repeated :=
    match a.repeatFlag.toNat with
    | 0 => decide (a.interval ≠ 0 ∨ a.count ≠ 0)
    | 1 => decide (a.interval = 0)
    | _ => true
  action || decide (3 ≤ a.tolerance.toNat) || timing || repeated

/-- R156: the payload fails the parameter check of its request. -/
def badPayload (s : State) : Request → Bool
  | .nop => false
  | .attach _ subs => decide (4 ≤ subs.toNat)
  | .detach => false
  | .resetPort => false
  | .readStatus => false
  | .clearNotices notices => decide (16 ≤ notices.toNat)
  | .setDevice a => badDevice a
  | .readDevice => false
  | .claim chans => decide (chans = 0 ∨ 4096 ≤ chans.toNat)
  | .release chans mode => decide (chans = 0 ∨ 4096 ≤ chans.toNat ∨ 2 ≤ mode.toNat)
  | .setChannel a => badConfig a
  | .readChannel channel => decide (12 ≤ channel.toNat)
  | .clearFault channel => decide (12 ≤ channel.toNat)
  | .schedule a => badSchedule s a
  | .cancel form tag channel =>
    match form.toNat with
    | 0 => decide (tag = 0 ∨ channel ≠ 0)
    | 1 => decide (tag ≠ 0 ∨ 12 ≤ channel.toNat)
    | 2 => decide (tag ≠ 0 ∨ channel ≠ 0)
    | _ => true
  | .readSchedule start => decide (48 ≤ start.toNat)
  | .armCapture input edge _ => decide (4 ≤ input.toNat ∨ edge = 0 ∨ 4 ≤ edge.toNat)
  | .disarmCapture input => decide (4 ≤ input.toNat)
  | .takeEvents count => decide (count = 0 ∨ 5 ≤ count.toNat)
  | .ackEvents _ => false

/-! ## Groups (R90, R91) -/

/-- R91: a group record at an offer of the position: a vacated position 2048 or more elapsed steps behind is made absent. -/
def offeredGroup (pos : Pos) (r : Group) : Group :=
  { r with vacated := r.vacated.filter fun v => decide (signedDistance pos v < 2048) }

/-- R90, R91: from `u` to `t` channel `c` alone changes its occupancy. If it was the last occupant of its group and leaves,
the group is vacated at the position of `u`; every other group record is what `kept` makes of it. -/
def GroupsFollow (c : Chan) (kept : Group → Group) (u t : State) : Prop :=
  ∀ g, t.group g =
    if (u.chan c).cfg.group = some g ∧ (u.chan c).occupant = true ∧ (t.chan c).occupant = false
        ∧ ∀ d, isOccupant u g d = true → d = c then
      { u.group g with vacated := some u.ltb.pos }
    else kept (u.group g)

/-- R70, R67, R68, R90: the record of a CLOSED channel after an accepted open. -/
def openedChannel (now : Nat) (pos : Pos) (ch : Channel) : Channel :=
  let moving := ch.cfg.present && ch.feedback
  { ch with
    state := if moving then .opening else .opened
    drive := false, changePos := pos, settled := false
    verifyAt := if moving then some (now + 2000 * ch.cfg.verify.toNat) else none
    occupant := if ch.cfg.group.isSome then moving else ch.occupant }

/-! ## Session end (R126, R115) -/

/-- R126: what a session end of port `p` makes of its session record. -/
def endOf (cause : EndCause) (r : Session) : Session :=
  { r with
    queue := []
    lost := 0
    attn := false
    attached := false
    expireAt := none
    keepalive := 0
    subs := { timebase := false, fault := false }
    lastEnd := cause }

/-- R126: `t` is `s` after a session end of port `p`, but for its session record and the front ends. -/
def EndedFor (p : Port) (s t : State) : Prop :=
  t = { s with
        sched := t.sched, chans := t.chans, groups := t.groups, arms := t.arms, sessions := t.sessions, fronts := t.fronts }
    ∧ t.sched = removeEntries (fun e => decide (e.owner = p)) s.sched
    ∧ (∀ c, s.holds p c = false → t.chan c = s.chan c)
    ∧ (∀ c, s.holds p c = true →
        (t.chan c).claim = .free ∧ (t.chan c).pendingOpen = none ∧ (t.chan c).tally = 0
          ∧ (t.chan c).cfg = (s.chan c).cfg
          ∧ ((s.chan c).cfg.safe = .openIt → (t.chan c).drive = false)
          ∧ ((s.chan c).cfg.safe = .hold → (t.chan c).drive = (s.chan c).drive ∧ (t.chan c).state = (s.chan c).state))
    ∧ (∀ i, t.arm p i = .idle)
    ∧ (∀ q, q ≠ p → ∀ i, t.arm q i = s.arm q i)

/-! ## Advances and firings (R1, R2, R46) -/

/-- R1: the part at the count of the next advance: the counts before it have passed, the accumulator and the position have
moved, the inputs have been sampled, and nothing that comes at the count has been handled. -/
def advanceCount (s : State) : State := nextCount (runClock (countsToAdvance s.ltb - 1) s)

/-- The next advance comes as the accumulator stands, on a running part that no low of RESET_N resets. -/
def AdvanceComes (s : State) : Prop :=
  let v := runClock (countsToAdvance s.ltb - 1) s
  s.power = .running ∧ s.ltb.lock ≠ .stopped ∧ v.power = .running ∧ advances v.ltb = true
    ∧ resetLow (advanceCount s) = false

/-- The next advance comes, and nothing else comes at its count. -/
def AdvanceAlone (s : State) : Prop := AdvanceComes s ∧ dueNow (advanceCount s) = []

/-- The next advance comes alone and meets neither the evaluation point nor a cycle boundary, and no pending open is to be
examined. -/
def QuietAdvance (s : State) : Prop :=
  let u := advanceCount s
  AdvanceAlone s ∧ stepOf u.ltb.pos ≠ u.sel.working + 32 ∧ stepOf u.ltb.pos ≠ 0 ∧ ∀ c, (u.chan c).pendingOpen = none

/-- Nothing comes at the next `n` counts: no reset, no advance, no level, no timer. -/
def QuietCounts (n : Nat) (s : State) : Prop :=
  ∀ k < n, (runClock k s).power = .running ∧ advances (runClock k s).ltb = false
    ∧ resetLow (nextCount (runClock k s)) = false ∧ dueNow (nextCount (runClock k s)) = []

/-- The entries of the list all lie ahead of the position (R39, R46). -/
def Ahead (pos : Pos) (l : List PendingEntry) : Prop := ∀ x ∈ l, 0 < signedDistance x.fire pos

/-- At a quiet advance the entry is at the head of the pending list, the advance reaches it, and everything behind it lies
ahead. -/
def FiresNext (x : PendingEntry) (rest : List PendingEntry) (s : State) : Prop :=
  let u := advanceCount s
  QuietAdvance s ∧ u.sched.pending = x :: rest ∧ signedDistance x.fire u.ltb.pos ≤ 0 ∧ Ahead u.ltb.pos rest
    ∧ ∀ c, chanOf x.entry.action = some c → ownerOf (u.chan c).claim = some x.entry.owner
        ∧ isReleasing (u.chan c).claim = false

/-- R38, R39, R46: nothing at or behind the position waits in the pending list of `s`, and no open is owed. -/
def NothingToFire (pos : Pos) (s : State) : Prop := Ahead pos s.sched.pending ∧ ∀ c, (s.chan c).pendingOpen = none

/-- The pending list of `s` begins with one entry that the position reaches, a MARK with tolerance ANY and no repeat, and
no open is owed. -/
def OneMark (pos : Pos) (x : PendingEntry) (rest : List PendingEntry) (s : State) : Prop :=
  s.sched.pending = x :: rest ∧ signedDistance x.fire pos ≤ 0 ∧ Ahead pos rest
    ∧ x.entry.action = .mark ∧ x.entry.rep = none ∧ x.entry.tol = .any ∧ ∀ c, (s.chan c).pendingOpen = none

/-- The record placed for a port, if it is ATTACHED (R131, R132). -/
def received (pos : Pos) (body : EventBody) (r : Session) : Session := if r.attached then placeIn pos body r else r

/-- R8, R11: what a move of the position from that of `u` to that of `t` makes of the schedule and the channels. `old` is
each port's session record before the position is offered. A move back, or of no step, fires nothing; a move forward fires
what it reaches. -/
def MoveOffered (u t : State) (old : Port → Session) : Prop :=
  let pos := t.ltb.pos
  (signedDistance pos u.ltb.pos ≤ 0 →
      t.sched = u.sched ∧ t.chans = u.chans ∧ t.groups = u.groups ∧ ∀ q, t.session q = old q)
    ∧ (0 < signedDistance pos u.ltb.pos →
      (NothingToFire pos u → t.sched = u.sched ∧ ∀ q, t.session q = old q)
      ∧ ∀ x ∈ u.sched.pending.head?, OneMark pos x (u.sched.pending.drop 1) u →
        t.sched = { u.sched with pending := u.sched.pending.drop 1 }
          ∧ ∀ q, t.session q =
            if q = x.entry.owner then
              received pos (.done x.entry.tag x.entry.label .mark false none false false 0) (old q)
            else old q)

/-! ## What comes at a count (R3, R66, R85, R141) -/

/-- The command that stands for a thing that has come at a count of the part `u`. -/
def dueCommand (u : State) : Due → Instr
  | .refLevel r high =>
    if high = true ∧ (u.refFilter r).level = some false then .referenceEdge r 0 else .referenceLevelQualified r high
  | .capLevel i high =>
    if (u.capFilter i).level = none then .captureFirstQualification i high else .captureEdge i (directionOf high) 0
  | .fbkLevel c closed => .feedbackChange c ⟨closed, 0⟩
  | .supplyLevel high => if high then .supplyLeavingLow else .supplyEntryToLow
  | .silence r => .monitorSilenceLimitExpiry r
  | .verify c => .verifyTimerExpiry c
  | .keepalive p => .keepaliveExpiry p
  | .byteGap => .hp0ByteGapTimeout
  | .quiet => .hp0DiscardingQuietEnd
  | .compose p => .responseComposed p
  | .sent => .hp0TransmissionComplete

/-- The part at the last count but one before a level is qualified, the input showing it since (log 4). -/
def beforeLevel (full after : Nat) (shown : Nat → State → State) (s : State) : State :=
  let k := min after full
  runClock (k - 1) (shown (full - k) (runClock (after - k) s))

/-- The part at the count at which a level is qualified, `after` counts on (log 4), before that is handled. With no count to
pass, the input has shown the level long enough already. -/
def levelCount (full after : Nat) (shown : Nat → State → State) (s : State) : State :=
  if after = 0 then shown full s else nextCount (beforeLevel full after shown s)

/-- A running part qualifies the level `after` counts on, and no reset and nothing else but an advance comes at that count. -/
def LevelComes (full after : Nat) (shown : Nat → State → State) (d : Due) (s : State) : Prop :=
  let u := levelCount full after shown s
  s.power = .running ∧ isDue u d = true
    ∧ (after ≠ 0 →
      (runClock (after - min after full) s).power = .running ∧ (beforeLevel full after shown s).power = .running
        ∧ resetLow u = false ∧ dueNow u = [d])

/-- The count at which the level is qualified, `after` counts on, brings an advance. -/
def advanceWith (full after : Nat) (shown : Nat → State → State) (s : State) : Bool :=
  decide (after ≠ 0) && advances (beforeLevel full after shown s).ltb

/-- R3: the part that a qualified rising edge of a reference meets, `after` counts on (log 4): an advance of its count has
been made, with its work and its offer. -/
def edgeCount (r : RefId) (after : Nat) (s : State) : State :=
  let u := levelCount edgeSamples after (showRef r true) s
  if advanceWith edgeSamples after (showRef r true) s = true then
    offerPosition (timebaseWork u)
  else u

/-- A qualified rising edge of the reference comes, `after` counts on (log 4), with nothing else but an advance. -/
def EdgeComes (r : RefId) (after : Nat) (s : State) : Prop :=
  LevelComes edgeSamples after (showRef r true) (.refLevel r true) s
    ∧ ((levelCount edgeSamples after (showRef r true) s).refFilter r).level = some false

end Sys2Proof.Machine
end

