-- ==== Sys2Proof/Certificates/Slice0/Obligations.lean ====
section
/-! DEFINITION. The statements for the provers. -/

section Obligations0

open Sys2Proof Sys2Proof.Machine

/-! ## The machine -/

/-- A step runs the command at the front of the queue, on the state with the queue's rest. -/
def Obligations.StepRunsFrontCommand : Prop :=
  ∀ (c : Instr) (s : State), step { s with pending := c :: s.pending } = exec c s

/-- R1, R3, R66, R85, R141, R188, R24, R68, R122, R172, R176 to R179: on an empty queue a step is one count of the count
clock (the model's choice, log 1). The accumulator gains 1024 and every input is sampled; what a filter qualifies or a timer
ends at the count comes, and one thing alone is what its command is. By the model's choice a response is composed at the count
800 after its taking (log 19), a transmission ends when its bits have passed at their nominal times (log 20), the response to
an ATTACH stays as the end of its count finds it (log 32), and RXD shows low from a start bit on, so that no gap runs (log
28). A low of 40 counts on RESET_N begins a device reset, and a part in reset is released at the eighth high. -/
def Obligations.IdleStepIsOneCount : Prop :=
  ∀ s : State, s.pending = [] →
    let run := fun (full : Nat) (level : Bool) (r : SampleRun) =>
      if r.level = level then ({ level := level, count := min (r.count + 1) full } : SampleRun)
      else { level := level, count := 1 }
    let now := s.now + 1
    (Gives (step s) fun t => t.now = now ∧ t.pending = [])
    ∧ (s.power = .running →
      let u := nextCount s
      let l := s.ltb
      let heldOff := fun (i : CapInput) => (s.capFilter i).holdOff.any fun last => decide (now ≤ last)
      let alone := u.resetRun ≠ { level := false, count := 40 } ∧ advances l = false
      u = { s with
            now := now, ltb := u.ltb, filterA := u.filterA, filterB := u.filterB, capFilters := u.capFilters
            chans := u.chans, supply := u.supply, resetRun := u.resetRun, receiver := u.receiver, fronts := u.fronts }
        ∧ u.ltb =
          (if l.lock = .stopped then l
          else if l.period ≤ l.acc + 1024 then { l with acc := l.acc + 1024 - l.period, pos := l.pos + 1 }
          else { l with acc := l.acc + 1024 })
        ∧ u.filterA = { s.filterA with run := run 8 s.pins.refA s.filterA.run }
        ∧ u.filterB = { s.filterB with run := run 8 s.pins.refB s.filterB.run }
        ∧ (∀ i, u.capFilter i =
            { s.capFilter i with
              run :=
                if heldOff i = true then { level := false, count := 0 }
                else run 8 (s.pins.cap.getLsbD i.val) (s.capFilter i).run })
        ∧ (∀ c, u.chan c = { s.chan c with fbkRun := run 4000 (s.pins.fbk.getLsbD c.val) (s.chan c).fbkRun })
        ∧ u.supply = { s.supply with run := run 400 s.pins.suplowN s.supply.run }
        ∧ u.resetRun = run 40 s.pins.resetN s.resetRun
        ∧ u.receiver =
          (match s.receiver with
          | .discarding n => .discarding (if s.pins.rxd = true then n else now)
          | x => x)
        ∧ (∀ p, u.front p =
            match (s.front p).buffer with
            | .pending r n => { s.front p with buffer := .pending (responseNow p r n s) n }
            | _ => s.front p)
        ∧ (∀ d, d ∈ dueNow u ↔
            (match d with
            | .refLevel r high =>
              decide ((u.refFilter r).run = { level := high, count := 8 } ∧ (u.refFilter r).level ≠ some high)
            | .capLevel i high =>
              decide ((u.capFilter i).run = { level := high, count := 8 } ∧ (u.capFilter i).level ≠ some high)
            | .fbkLevel c closed =>
              decide ((u.chan c).fbkRun = { level := closed, count := 4000 } ∧ (u.chan c).feedback ≠ closed)
            | .supplyLevel high => decide (u.supply.run = { level := high, count := 400 } ∧ u.supply.low = high)
            | .silence r =>
              let limit := match (u.monitor r).lastInterval with
                | some i => 3 * i / 2
                | none => 150000
              (u.monitor r).lastEdge.any fun t0 => decide (t0 + limit ≤ now)
            | .verify c => (u.chan c).verifyAt.any fun n => decide (n ≤ now)
            | .keepalive p => (u.session p).expireAt.any fun n => decide (n ≤ now)
            | .byteGap =>
              match u.receiver with
              | .receiving _ n => s.pins.rxd && decide (8000 < now - n)
              | _ => false
            | .quiet =>
              match u.receiver with
              | .discarding n => decide (8000 < now - n)
              | _ => false
            | .compose p =>
              match (u.front p).buffer with
              | .pending _ n => decide (n ≤ now)
              | _ => false
            | .sent =>
              u.sending.any fun x =>
                decide (11 * x.bytes.length ≤ (now - x.since) * hp0BitRate s.straps / 4000000)) = true)
        ∧ (u.resetRun = { level := false, count := 40 } → step s = exec .pinReset u)
        ∧ (alone → dueNow u = [] → step s = .next u)
        ∧ ∀ d, alone → dueNow u = [d] → (∀ i high, d = .capLevel i high → clearOfHoldOff 8 now (u.capFilter i) = 8) →
            step s = exec (dueCommand u d) u)
    ∧ ∀ hold, s.power = .inReset hold →
        let u : State := { s with now := now, resetRun := run 40 s.pins.resetN s.resetRun }
        step s =
          if hold = false ∧ u.resetRun.level = true ∧ 8 ≤ u.resetRun.count then
            exec (.resetRelease s.pins.straps s.pins.fbk s.pins.suplowN) u
          else .next u

/-! ## Invariants that every step keeps -/

/-- R118, R126, R130, R132, R138: the session records stay in order. -/
def Obligations.SessionsStayInOrder : Prop := ∀ s t : State, SessionsOk s → step s = .next t → SessionsOk t

/-- R1, R4, R5, R14, R16: the timebase stays in order, and the schedule is empty while it is STOPPED. -/
def Obligations.TimebaseStaysInOrder : Prop :=
  ∀ s t : State, TimebaseOk s.ltb → EmptyWhileStopped s → step s = .next t → TimebaseOk t.ltb ∧ EmptyWhileStopped t

/-- R41: the shared places in use stay at most 24. -/
def Obligations.StoreStaysWithin : Prop := ∀ s t : State, StoreOk s → step s = .next t → StoreOk t

/-- Table 4-2, R73, R90, R94: the channel records stay in order, with at most one drive on in each group. -/
def Obligations.SwitchingStaysExclusive : Prop := ∀ s t : State, SwitchingOk s → step s = .next t → SwitchingOk t

/-- R63, R100, R126: entries and pending opens stay with the holder of their channel, and a DETACHED port has nothing. -/
def Obligations.OwnershipStays : Prop :=
  ∀ s t : State, SwitchingOk s → OwnershipOk s → step s = .next t → OwnershipOk t

/-- R37: the tags of live entries and held opens stay distinct, a DEFERRED entry keeps the tag of its held open, and no tag
is 0. Each piece of a handling's work keeps this by itself, so the bound of log 12 shows nowhere, whatever the repeats. -/
def Obligations.TagsStayDistinct : Prop :=
  ∀ s t : State, StoreOk s → SwitchingOk s → OwnershipOk s → TagsOk s → step s = .next t → TagsOk t

/-- R28: after every step the standing condition is false, as the switch it asks for has been made. -/
def Obligations.StandingConditionStaysFalse : Prop :=
  ∀ s t : State, standingCondition s = false → step s = .next t → standingCondition t = false

/-- The invariants hold right after device reset. -/
def Obligations.ResetMeetsInvariants : Prop :=
  SessionsOk State.reset ∧ TimebaseOk State.reset.ltb ∧ EmptyWhileStopped State.reset ∧ StoreOk State.reset
    ∧ SwitchingOk State.reset ∧ OwnershipOk State.reset ∧ TagsOk State.reset ∧ standingCondition State.reset = false

/-! ## Frames on the wire -/

/-- 10.2, 11.3 to 11.7, R154, R173: the frame of every request, with every payload, is read back as that request. -/
def Obligations.RequestFrameRoundTrip : Prop :=
  ∀ (seq : Byte) (r : Request), checkFrame (requestFrame seq r) = some { seq := seq, body := .good r }

/-- R173: the CRC is that of the bits taken one by one, most significant first, from 0xFF; over the covered bytes followed by
their CRC byte it leaves 0x00; and every request and response frame ends with the CRC of the bytes before it. -/
def Obligations.CrcOfFrames : Prop :=
  (∀ bytes : List Byte,
    crc bytes
      = (bytes.flatMap fun b => [7, 6, 5, 4, 3, 2, 1, 0].map fun i => b.getLsbD i).foldl
          (fun (r : Byte) bit => if r.getLsbD 7 = bit then r <<< 1 else (r <<< 1) ^^^ 0x2F) 0xFF)
    ∧ (∀ bytes : List Byte, crc (bytes ++ [crc bytes]) = 0x00)
    ∧ (∀ (seq : Byte) (r : Request), ∃ covered, requestFrame seq r = covered ++ [crc covered])
    ∧ ∀ r : Response, ∃ covered, responseFrame r = covered ++ [crc covered]

/-- R171, R177, R181, R184: the frame of a request, received whole on its port, gives the next state that the request's
command gives, with RXD left high, and on HP1 and HP2 with the bus free again and what the target put on the wire (log 2,
21). On HP0 the frame's counts pass first (log 28). -/
def Obligations.FramesAreTheirRequests : Prop :=
  ∀ (seq : Byte) (r : Request) (s : State), s.power = .running →
    (∀ n,
      let u := wireCounts n s
      u.power = .running → u.receiver = .idle →
      Gives (exec (.hp0RequestFrame ⟨requestFrame seq r, n⟩) s) fun t =>
        exec (requestInstr 0 seq r) { u with pins := { u.pins with rxd := true } } = .next t)
    ∧ (Gives (exec (.hp1WriteTransaction (hp1Address s.straps) (requestFrame seq r)) s) fun t =>
      exec (requestInstr 1 seq r)
        { s with hp1Bus := .waiting, hp1Out := [], hp1Acks := (requestPayload r).length + 5 } = .next t)
    ∧ Gives (exec (.hp2RequestTransaction (requestFrame seq r)) s) fun t =>
      exec (requestInstr 2 seq r)
        { s with hp2Bus := .waiting, hp2Out := List.replicate ((requestPayload r).length + 5) 0 } = .next t

/-! ## The response buffer -/

/-- R171, R179, R120: the response buffer. A request received while it is PENDING is held, replacing any held request, and
changes nothing else. A response that is composed becomes READY, or on HP0 with the transmitter IDLE begins to be sent, or is
discarded for the held request, which is taken. While the count of its taking lasts, the response to an ATTACH that opened a
session shows the port's next sequence as it stands (log 32). A buffer that is not PENDING has no response to compose. -/
def Obligations.ResponseBuffer : Prop :=
  ∀ (p : Port) (s : State), s.power = .running →
    let shown := fun (r : Response) (n : Nat) =>
      if n = s.now + 800 ∧ r.status = .ok ∧ r.payload.length = 5 ∧ r.payload.head? = some 0 then
        { r with payload := r.payload.take 3 ++ bytes16 (s.session p).nextSeq }
      else r
    (∀ (seq : Byte) (r : Request), takesRequest (s.front p).buffer = false →
      exec (requestInstr p seq r) s = .next (s.setFront p { s.front p with held := some { seq := seq, body := .good r } }))
    ∧ (∀ r n, (s.front p).buffer = .pending r n → (s.front p).held = none → p ≠ 0 ∨ s.sending.isSome = true →
      exec (.responseComposed p) s = .next (s.setFront p { s.front p with buffer := .ready (shown r n) }))
    ∧ (∀ r n, (s.front p).buffer = .pending r n → (s.front p).held = none → p = 0 → s.sending = none →
      exec (.responseComposed p) s
        = .next
          { s.setFront p { s.front p with buffer := .empty } with
            sending := some { bytes := 0xC3 :: responseFrame (shown r n), since := s.now } })
    ∧ (∀ r n seq q, (s.front p).buffer = .pending r n → (s.front p).held = some { seq := seq, body := .good q } →
      exec (.responseComposed p) s
        = exec (requestInstr p seq q) (s.setFront p { s.front p with buffer := .empty, held := none }))
    ∧ (takesRequest (s.front p).buffer = true → exec (.responseComposed p) s = .next s)

/-- R174: a complete request whose CRC byte does not match, on each port: CHECK_ERROR with the SEQ as received and an empty
payload, one frame error, and nothing else (but for RXD and the frame's counts on HP0, log 28, and on HP1 and HP2 the bus and
the model's record of the wire, log 21). -/
def Obligations.CrcMismatchAnswered : Prop :=
  ∀ (bytes : List Byte) (seq : Byte) (s : State), checkFrame bytes = some { seq := seq, body := .checkError } →
    (∀ n,
      let u := wireCounts n s
      s.power = .running → CanTake 0 u → u.receiver = .idle →
      Gives (exec (.hp0RequestFrame ⟨bytes, n⟩) s) fun t =>
        t = { u with fronts := t.fronts, pins := { u.pins with rxd := true } }
          ∧ Answered 0 seq .checkError [] (frameError 0 u) t.fronts)
    ∧ (CanTake 1 s →
      Gives (exec (.hp1WriteTransaction (hp1Address s.straps) bytes) s) fun t =>
        t = { s with fronts := t.fronts, hp1Bus := .waiting, hp1Out := [], hp1Acks := bytes.length + 1 }
          ∧ Answered 1 seq .checkError [] (frameError 1 s) t.fronts)
    ∧ (CanTake 2 s →
      Gives (exec (.hp2RequestTransaction bytes) s) fun t =>
        t = { s with fronts := t.fronts, hp2Bus := .waiting, hp2Out := List.replicate (bytes.length + 1) 0 }
          ∧ Answered 2 seq .checkError [] (frameError 2 s) t.fronts)

/-! ## Requests in general -/

/-- R157, R155, R154, R122: a request that is not answered OK changes nothing in any block but the keepalive timer, and its
response has an empty payload. On a DETACHED port every request but NOP, ATTACH, RESET PORT, READ STATUS, CLEAR NOTICES and
READ DEVICE is refused NOT_ATTACHED. Past that check, a payload with a value out of its range or set is refused BAD_PARAMETER
(R156; log 10, 11), and no other is, but by the later checks of SCHEDULE (R44). A complete frame with a matching CRC that has
no code of Table 9-1 with its payload length is answered BAD_REQUEST; its counts on HP0 and what it leaves on RXD (log 28), and
on HP1 and HP2 of the bus and in the record of the wire (log 21), is the model's choice. -/
def Obligations.RefusedRequestChangesNothing : Prop :=
  ∀ (p : Port) (seq : Byte) (r : Request) (code : Byte) (payload : List Byte) (s : State), CanTake p s →
    ((replyTo p (.good r) s).status ≠ .ok →
      Gives (exec (requestInstr p seq r) s) fun t =>
        t = { s with fronts := t.fronts, sessions := t.sessions }
          ∧ OnlySession p (restarted s.now (s.session p)) s t.sessions
          ∧ Answered p seq (replyTo p (.good r) s).status [] s t.fronts)
    ∧ ((s.session p).attached = false → requestCode r ∉ [(0x00 : Byte), 0x01, 0x03, 0x04, 0x05, 0x07] →
      Gives (exec (requestInstr p seq r) s) fun t =>
        t = { s with fronts := t.fronts } ∧ Answered p seq .notAttached [] s t.fronts)
    ∧ ((s.session p).attached = true ∨ requestCode r ∈ [(0x00 : Byte), 0x01, 0x03, 0x04, 0x05, 0x07] →
      badPayload s r = true →
      Gives (exec (requestInstr p seq r) s) fun t =>
        t = { s with fronts := t.fronts, sessions := t.sessions }
          ∧ OnlySession p (restarted s.now (s.session p)) s t.sessions ∧ Answered p seq .badParameter [] s t.fronts)
    ∧ (badPayload s r = false → (∀ a, r ≠ .schedule a) → (replyTo p (.good r) s).status ≠ .badParameter)
    ∧ (payload.length ≤ 32 →
      (code.toNat, payload.length) ∉
        [(0x00, 0), (0x01, 2), (0x02, 0), (0x03, 0), (0x04, 0), (0x05, 1), (0x06, 15), (0x07, 0), (0x10, 2), (0x11, 3),
          (0x12, 13), (0x13, 1), (0x14, 1), (0x20, 20), (0x21, 4), (0x22, 1), (0x30, 3), (0x31, 1), (0x40, 1), (0x41, 2)] →
      let covered := BitVec.ofNat 8 (payload.length + 2) :: seq :: code :: payload
      let frame := covered ++ [crc covered]
      let answered := fun (u t : State) =>
        OnlySession p (restarted u.now (u.session p)) u t.sessions ∧ Answered p seq .badRequest [] u t.fronts
      (p = 0 → ∀ n,
        let u := wireCounts n s
        CanTake 0 u → u.receiver = .idle →
        Gives (exec (.hp0RequestFrame ⟨frame, n⟩) s) fun t =>
          t = { u with fronts := t.fronts, sessions := t.sessions, pins := { u.pins with rxd := true } } ∧ answered u t)
      ∧ (p = 1 →
        Gives (exec (.hp1WriteTransaction (hp1Address s.straps) frame) s) fun t =>
          t = { s with
                fronts := t.fronts, sessions := t.sessions, hp1Bus := .waiting, hp1Out := []
                hp1Acks := payload.length + 5 }
            ∧ answered s t)
      ∧ (p = 2 →
        Gives (exec (.hp2RequestTransaction frame) s) fun t =>
          t = { s with
                fronts := t.fronts, sessions := t.sessions, hp2Bus := .waiting
                hp2Out := List.replicate (payload.length + 5) 0 }
            ∧ answered s t))

/-- R159, R161, R166, R84, R62, R134, R122: the requests that only read are answered OK with the payload of chapter 11, byte
by byte, and change nothing but the keepalive timer and the buffer. -/
def Obligations.ReadingRequestsChangeNothing : Prop :=
  ∀ (p : Port) (seq : Byte) (r : Request) (s : State), CanTake p s →
    let me := s.session p
    let answered := fun (payload : List Byte) =>
      Gives (exec (requestInstr p seq r) s) fun t =>
        t = { s with fronts := t.fronts, sessions := t.sessions }
          ∧ OnlySession p (restarted s.now me) s t.sessions ∧ Answered p seq .ok payload s t.fronts
    let own := fun (q : Port) => (allEntries s.sched).countP fun e => decide (e.owner = q)
    let step16 := fun (x : BitVec 10) => bytes16 (x.setWidth 16)
    (r = .nop → answered [])
    ∧ (r = .readStatus →
      answered
        ([lockCode s.ltb.lock, refCode s.sel.selected, flagByte s.monA.qualified, flagByte s.monB.qualified]
          ++ (bytes32 (cycleOf s.ltb.pos) ++ step16 (stepOf s.ltb.pos)) ++ bytes24 (BitVec.ofNat 24 s.ltb.period)
          ++ [byteOf s.ltb.holdCount] ++ bytes16 (BitVec.ofNat 16 s.ltb.stray)
          ++ [flagByte s.ltb.started, flagByte s.supply.low, resetSourceCode s.resetSource, flagByte me.attached,
              endCauseCode me.lastEnd, noticesByte me.notices, byteOf me.queue.length, byteOf me.lost,
              byteOf (s.front p).frameErrors, byteOf (own p),
              byteOf (24 - ((own 0 - 8) + (own 1 - 8) + (own 2 - 8)))]))
    ∧ (r = .readDevice →
      answered
        ([modeCode s.sel.mode] ++ step16 s.sel.offsetA ++ step16 s.sel.offsetB
          ++ [byteOf s.ltb.limit, flagByte s.supply.shed]
          ++ ([0, 1, 2, 3].flatMap fun g => step16 (s.group g).gap)
          ++ [refCode s.sel.selected, lockCode s.ltb.lock]))
    ∧ (me.attached = true → ∀ c : Chan, r = .readChannel (byteOf c.val) →
      let ch := s.chan c
      let g := ch.cfg
      answered
        ([byteOf c.val, claimCode ch.claim, optPortByte (ownerOf ch.claim), chanStateCode ch.state, flagByte ch.drive,
            flagByte ch.feedback]
          ++ (bytes32 (cycleOf ch.changePos) ++ step16 (stepOf ch.changePos))
          ++ (match ch.pendingOpen with
            | none => [0, 0, 0, 0]
            | some (.held tag label) => [1] ++ bytes16 tag ++ [label]
            | some .release => [2, 0, 0, 0])
          ++ [faultCode ch.state] ++ bytes32 ch.closures
          ++ (step16 g.closeLead ++ step16 g.openLead ++ bytes16 g.onDwell ++ bytes16 g.offDwell
            ++ [groupCode g.group, safeCode g.safe, flagByte g.present, g.verify])
          ++ [flagByte (decide (∃ e ∈ allEntries s.sched, chanOf e.action = some c))]))
    ∧ (me.attached = true → ∀ i : Byte, r = .readSchedule i → i.toNat < 48 →
      let due := fun (x : Pos) => (cycleOf x).toNat % 2 ^ 17 * 2 ^ 23 + (stepOf x).toNat * 2 ^ 13
      let shown : List (Entry × Nat × Nat) :=
        (s.sched.pending.map (fun (x : PendingEntry) => (x.entry, 0, due x.due + (leadOf s x.entry.action).toNat * 2 ^ 3))
          ++ s.sched.waiting.map (fun (e : Entry) => (e, 1, triggerDelay e % 2 ^ 16 * 2 ^ 24))
          ++ s.sched.deferred.map (fun (x : DeferredEntry) => (x.entry, 2, due x.due))).filter fun y => decide (y.1.owner = p)
      let summary := fun (y : Entry × Nat × Nat) =>
        let e := y.1
        let bit := fun (b : Bool) => if b then 1 else 0
        let repeated := match e.rep with
          | some x => [byteOf x.interval, byteOf x.count, byteOf x.remaining]
          | none => [0, 0, 0]
        let chan := match chanOf e.action with
          | some c => c.val
          | none => 15
        let trigger := match e.trig with
          | some x => x.input.val * 4 + (edgeSelCode x.edge).toNat
          | none => 0
        bytes16 e.tag
          ++ [e.label,
              byteOf ((kindCode (kindOf e.action)).toNat * 64 + bit (isSecond e.action) * 32 + y.2.1 * 8
                + (toleranceCode e.tol).toNat * 2 + bit e.lastRun),
              byteOf (chan * 16 + trigger)]
          ++ repeated ++ bytes16 (BitVec.ofNat 16 (widthOf e.action))
          ++ [4, 3, 2, 1, 0].map fun k => byteOf (y.2.2 / 256 ^ k)
      answered
        (byteOf shown.length :: bytes24 (BitVec.ofNat 24 ((cycleOf s.ltb.pos).toNat / 256))
          ++ [0, 1, 2, 3].flatMap fun k =>
            match shown[i.toNat + k]? with
            | some y => summary y
            | none => List.replicate 15 0))
    ∧ (me.attached = true → ∀ n : Byte, r = .takeEvents n → 1 ≤ n.toNat → n.toNat ≤ 4 →
      let chan := fun (c : Option Chan) => match c with
        | some c => byteOf c.val
        | none => 0xFF
      let action := fun (k : Kind) (second : Bool) => byteOf ((kindCode k).toNat + if second then 128 else 0)
      let body : EventBody → Byte × List Byte := fun e => match e with
        | .done tag label k second c already deferred figure =>
          (1, bytes16 tag
            ++ [label, action k second, chan c, byteOf ((if already then 1 else 0) + if deferred then 2 else 0), byteOf figure])
        | .missed tag label k second c reason figure =>
          (2, bytes16 tag ++ [label, action k second, chan c, missCode reason, byteOf figure])
        | .claimEnded c cause removed => (3, [byteOf c.val, if cause = EndedCause.graceful then 1 else 2, byteOf removed, 0, 0, 0, 0])
        | .fault c cause owner =>
          (4, [byteOf c.val, faultCauseCode cause, (owner.map fun q => byteOf q.val).getD 0xFF, 0, 0, 0, 0])
        | .timebase new old cause ref period =>
          (5, [lockCode new, lockCode old, timebaseCauseCode cause, refCode ref] ++ bytes24 (BitVec.ofNat 24 period))
        | .supply low shed => (6, [if low then 1 else 0] ++ bytes16 (setOf shed) ++ [0, 0, 0, 0])
        | .capture i d fraction lock figure =>
          (7, [byteOf i.val, if d = EdgeDir.rising then 1 else 2, byteOf fraction, lockCode lock, byteOf figure, 0, 0])
        | .loss count => (8, [byteOf count, 0, 0, 0, 0, 0, 0])
      let record := fun (e : EventRecord) =>
        [(body e.body).1] ++ bytes16 e.seq ++ (bytes32 (cycleOf e.pos) ++ step16 (stepOf e.pos)) ++ (body e.body).2
      answered ((me.queue.take n.toNat).flatMap record)
        ∧ ((me.queue.take n.toNat).flatMap record).length = 16 * min n.toNat me.queue.length)

/-! ## Session requests -/

/-- R119, R120, R121: ATTACH opens a session on a DETACHED port and renews it on an ATTACHED one. -/
def Obligations.AttachOpensOrRenews : Prop :=
  ∀ (p : Port) (seq keepalive subs : Byte) (s : State), CanTake p s → subs.toNat < 4 →
    Gives (exec (.attach p seq keepalive subs) s) fun t =>
      let r := s.session p
      let window := if keepalive = 0 then none else some (s.now + 400000 * keepalive.toNat)
      let set : Subs := { timebase := subs.getLsbD 0, fault := subs.getLsbD 1 }
      t = { s with fronts := t.fronts, sessions := t.sessions }
        ∧ if r.attached then
            OnlySession p { r with keepalive := keepalive, subs := set, expireAt := window } s t.sessions
              ∧ Answered p seq .ok ([1, endCauseCode r.lastEnd, noticesByte r.notices] ++ bytes16 r.nextSeq) s t.fronts
          else
            OnlySession p
                { r with
                  attached := true, keepalive := keepalive, subs := set, expireAt := window, nextSeq := 0, lost := 0 }
                s t.sessions
              ∧ Answered p seq .ok [0, endCauseCode r.lastEnd, noticesByte r.notices, 0, 0]
                  (s.setFront p { s.front p with frameErrors := 0 }) t.fronts

/-- R122, R124, R125, R126, R115: a session end by DETACH without claims, by RESET PORT and by the keepalive timer. -/
def Obligations.SessionEnds : Prop :=
  ∀ (p : Port) (seq : Byte) (s : State), SwitchingOk s → (s.session p).attached = true → s.power = .running →
    (takesRequest (s.front p).buffer = true → (∀ c, s.holds p c = false) →
      Gives (exec (.detach p seq) s) fun t =>
        EndedFor p s t ∧ OnlySession p (endOf .detached (s.session p)) s t.sessions ∧ Answered p seq .ok [] s t.fronts)
    ∧ (takesRequest (s.front p).buffer = true →
      Gives (exec (.resetPort p seq) s) fun t =>
        EndedFor p s t ∧ OnlySession p (endOf .portReset (s.session p)) s t.sessions
          ∧ Answered p seq .ok [0, 3] (s.setFront p { s.front p with frameErrors := 0 }) t.fronts)
    ∧ ((s.session p).expireAt.isSome = true →
      Gives (exec (.keepaliveExpiry p) s) fun t =>
        EndedFor p s t ∧ OnlySession p (endOf .expired (s.session p)) s t.sessions ∧ t.fronts = s.fronts)

/-- R124: DETACH of a port that holds a claim is refused CLAIMS_HELD. R125: RESET PORT on a DETACHED port clears the frame
error count alone. R122: a stopped timer does not expire. -/
def Obligations.SessionStays : Prop :=
  ∀ (p : Port) (seq : Byte) (s : State),
    (CanAct p s → ∀ c, s.holds p c = true →
      Gives (exec (.detach p seq) s) fun t =>
        t = { s with fronts := t.fronts, sessions := t.sessions }
          ∧ OnlySession p (restarted s.now (s.session p)) s t.sessions ∧ Answered p seq .claimsHeld [] s t.fronts)
    ∧ (CanTake p s → (s.session p).attached = false →
      Gives (exec (.resetPort p seq) s) fun t =>
        t = { s with fronts := t.fronts }
          ∧ Answered p seq .ok [0, endCauseCode (s.session p).lastEnd]
              (s.setFront p { s.front p with frameErrors := 0 }) t.fronts)
    ∧ ((s.session p).expireAt = none → exec (.keepaliveExpiry p) s = .next s)

/-- R129: CLEAR NOTICES, in either session state. A set that names anything but the four notices is refused BAD_PARAMETER;
otherwise the named notices leave the port's set, and the response carries the set after the request. -/
def Obligations.ClearNoticesRemoves : Prop :=
  ∀ (p : Port) (seq notices : Byte) (s : State), CanTake p s →
    Gives (exec (.clearNotices p seq notices) s) fun t =>
      let m := (s.session p).notices
      let left : Notices :=
        { supplyLow := m.supplyLow && !notices.getLsbD 0
          leftLock := m.leftLock && !notices.getLsbD 1
          refSwitched := m.refSwitched && !notices.getLsbD 2
          reset := m.reset && !notices.getLsbD 3 }
      t = { s with fronts := t.fronts, sessions := t.sessions }
        ∧ if 16 ≤ notices.toNat then
            OnlySession p (restarted s.now (s.session p)) s t.sessions ∧ Answered p seq .badParameter [] s t.fronts
          else
            OnlySession p { restarted s.now (s.session p) with notices := left } s t.sessions
              ∧ Answered p seq .ok [noticesByte left] s t.fronts

/-- R135, R136: ACK EVENTS removes the records up to the one numbered, appends a LOSS record for lost ones, and sets ATTN; a
number that no record carries is refused BAD_SEQUENCE, and a DETACHED port NOT_ATTACHED. -/
def Obligations.AckEventsRemoves : Prop :=
  ∀ (p : Port) (seq : Byte) (number : BitVec 16) (s : State), CanTake p s → SessionOk (s.session p) →
    ((s.session p).attached = false →
      Gives (exec (.ackEvents p seq number) s) fun t =>
        t = { s with fronts := t.fronts } ∧ Answered p seq .notAttached [] s t.fronts)
    ∧ (∀ older r newer, (s.session p).queue = older ++ r :: newer → (s.session p).attached = true → r.seq = number →
      (∀ x ∈ older, x.seq ≠ number) →
      Gives (exec (.ackEvents p seq number) s) fun t =>
        let old := restarted s.now (s.session p)
        let loss : EventRecord := { seq := old.nextSeq, pos := s.ltb.pos, body := .loss old.lost }
        let queue := if old.lost = 0 then newer else newer ++ [loss]
        t = { s with fronts := t.fronts, sessions := t.sessions }
          ∧ OnlySession p
              { old with
                queue := queue
                nextSeq := if old.lost = 0 then old.nextSeq else old.nextSeq + 1
                lost := 0
                attn := !queue.isEmpty }
              s t.sessions
          ∧ Answered p seq .ok [byteOf (older.length + 1), byteOf queue.length] s t.fronts)
    ∧ ((s.session p).attached = true → (∀ r ∈ (s.session p).queue, r.seq ≠ number) →
      Gives (exec (.ackEvents p seq number) s) fun t =>
        t = { s with fronts := t.fronts, sessions := t.sessions }
          ∧ OnlySession p (restarted s.now (s.session p)) s t.sessions ∧ Answered p seq .badSequence [] s t.fronts)

/-! ## Device settings -/

/-- R163, R164, R165, R31 to R34, R26: SET DEVICE with settings in range. While another port holds a claim it is refused
SHARED_IN_USE. Otherwise it writes every setting and shows the settings as they stand after it, and no channel, entry or
capture record changes. A mode selects its reference. A change of selection clears the window record and the interval base
flag, and in HOLDOVER the relock count, or in STOPPED and LOST begins acquisition afresh; in LOCKED it leaves lock (the next
statement). The working offset is loaded at a change of selection and in STOPPED and LOST, and held back otherwise. Entering
AUTO makes the switch of R28 where its condition stands, with the SWITCHED record and notice. -/
def Obligations.SetDeviceWrites : Prop :=
  ∀ (p : Port) (seq : Byte) (a : SetDeviceArgs) (d : DeviceSettings) (s : State), CanAct p s → deviceOf a = some d →
    (modeCode d.mode = a.mode ∧ d.offsetA.setWidth 16 = a.offsetA ∧ d.offsetB.setWidth 16 = a.offsetB
      ∧ d.limit = a.limit.toNat ∧ flagByte d.shed = a.shed ∧ d.gap1.setWidth 16 = a.gap1 ∧ d.gap2.setWidth 16 = a.gap2
      ∧ d.gap3.setWidth 16 = a.gap3 ∧ d.gap4.setWidth 16 = a.gap4)
    ∧ Gives (exec (.setDevice p seq a) s) fun t =>
      if ∃ c q, ownerOf (s.chan c).claim = some q ∧ q ≠ p then
        t = { s with fronts := t.fronts, sessions := t.sessions }
          ∧ OnlySession p (restarted s.now (s.session p)) s t.sessions ∧ Answered p seq .sharedInUse [] s t.fronts
      else
        t = { s with
              fronts := t.fronts, sessions := t.sessions, ltb := t.ltb, sel := t.sel, groups := t.groups
              supply := { s.supply with shed := d.shed } }
          ∧ t.ltb.limit = d.limit ∧ t.sel.mode = d.mode ∧ t.sel.offsetA = d.offsetA ∧ t.sel.offsetB = d.offsetB
          ∧ t.ltb.pos = s.ltb.pos ∧ t.ltb.acc = s.ltb.acc ∧ t.ltb.period = s.ltb.period
          ∧ (∀ g, t.group g = { s.group g with gap := [d.gap1, d.gap2, d.gap3, d.gap4].getD g.val 0 })
          ∧ (d.mode = .fixedA → t.sel.selected = .a) ∧ (d.mode = .fixedB → t.sel.selected = .b)
          ∧ Answered p seq .ok (requestPayload (.setDevice a) ++ [refCode t.sel.selected, lockCode t.ltb.lock]) s t.fronts
          ∧ (let v := s.sel
            let other := otherRef v.selected
            let ref := match d.mode with
              | .fixedA => RefId.a
              | .fixedB => .b
              | .auto => v.selected
            let offset := fun (r : RefId) => match r with
              | .a => d.offsetA
              | .b => d.offsetB
            let l : Ltb := { s.ltb with limit := d.limit }
            let cleared : Ltb := { l with accepted := false, rejected := 0, baseValid := false }
            let acquiring := decide (l.lock = .stopped ∨ l.lock = .lost)
            let switches := decide (d.mode = .auto ∧ v.mode ≠ .auto ∧ l.lock ≠ .locked)
              && !(s.monitor v.selected).qualified && (s.monitor other).qualified
            let record := EventBody.timebase l.lock l.lock .switched other l.period
            (l.lock = .locked → ref = v.selected) →
              t.ltb =
                  (if switches && acquiring then { l with acq := { start := none, run := [] } }
                  else if switches then { cleared with relockCount := 0 }
                  else if ref = v.selected then l
                  else if acquiring then { cleared with acq := { start := none, run := [] } }
                  else { cleared with relockCount := 0 })
                ∧ t.sel =
                  { mode := d.mode, offsetA := d.offsetA, offsetB := d.offsetB
                    selected := if switches then other else ref
                    working :=
                      if switches then offset other
                      else if acquiring || decide (ref ≠ v.selected) then offset ref else v.working }
                ∧ ∀ q,
                  let old := if q = p then restarted s.now (s.session q) else s.session q
                  let got := if old.attached && old.subs.timebase then placeIn l.pos record old else old
                  t.session q =
                    if switches then { got with notices := { got.notices with refSwitched := true } } else old)

/-- R32, R20: a change of the selected reference by SET DEVICE in LOCKED: HOLDOVER with cause SELECTION, the new working
offset, the window record, the interval base flag and the counts cleared, and TIMEBASE_LEFT_LOCK on all ports. -/
def Obligations.SetDeviceLeavesLock : Prop :=
  ∀ (p : Port) (seq : Byte) (a : SetDeviceArgs) (d : DeviceSettings) (s : State), CanAct p s → deviceOf a = some d →
    (∀ c q, ownerOf (s.chan c).claim = some q → q = p) → s.ltb.lock = .locked →
    (d.mode = .fixedA ∧ s.sel.selected = .b ∨ d.mode = .fixedB ∧ s.sel.selected = .a) →
    Gives (exec (.setDevice p seq a) s) fun t =>
      let other := otherRef s.sel.selected
      let record := EventBody.timebase .holdover .locked .selection other s.ltb.period
      t.ltb =
          { s.ltb with
            lock := .holdover, limit := d.limit, holdCount := 0, relockCount := 0, missCount := 0, accepted := false
            rejected := 0, baseValid := false }
        ∧ t.sel =
          { mode := d.mode, offsetA := d.offsetA, offsetB := d.offsetB, selected := other
            working := if d.mode = .fixedA then d.offsetA else d.offsetB }
        ∧ ∀ q,
          let old := if q = p then restarted s.now (s.session q) else s.session q
          let got := if old.attached && old.subs.timebase then placeIn s.ltb.pos record old else old
          t.session q = { got with notices := { got.notices with leftLock := true } }

/-! ## Claims -/

/-- R101: CLAIM makes every FREE channel of the set HELD by the requester, and no other record changes; or it is refused as a
whole, BAD_PARAMETER for an empty set or a channel above 11, then HELD_BY_OTHER, then RELEASING. -/
def Obligations.ClaimAllOrNothing : Prop :=
  ∀ (p : Port) (seq : Byte) (chans : BitVec 16) (s : State), CanAct p s →
    Gives (exec (.claim p seq chans) s) fun t =>
      let named := fun c : Chan => chans.getLsbD c.val = true
      OnlySession p (restarted s.now (s.session p)) s t.sessions
        ∧ if chans = 0 ∨ 4096 ≤ chans.toNat then
            t = { s with fronts := t.fronts, sessions := t.sessions } ∧ Answered p seq .badParameter [] s t.fronts
          else if ∃ c q, named c ∧ ownerOf (s.chan c).claim = some q ∧ q ≠ p then
            t = { s with fronts := t.fronts, sessions := t.sessions } ∧ Answered p seq .heldByOther [] s t.fronts
          else if ∃ c, named c ∧ (s.chan c).claim = .releasing p then
            t = { s with fronts := t.fronts, sessions := t.sessions } ∧ Answered p seq .releasing [] s t.fronts
          else
            t = { s with fronts := t.fronts, sessions := t.sessions, chans := t.chans }
              ∧ (∀ c, t.chan c =
                  if named c ∧ (s.chan c).claim = .free then { s.chan c with claim := .held p, tally := 0 }
                  else s.chan c)
              ∧ Answered p seq .ok
                  (bytes16 (setOf (allChans.filter fun c => decide (named c ∧ (s.chan c).claim = .free)))
                    ++ bytes16 (setOf (allChans.filter fun c => decide (ownerOf (t.chan c).claim = some p))))
                  s t.fronts

/-- R110, R111: RELEASE with mode FORCED. Every channel of the set ends FREE with no entries and no pending open;
with safe state OPEN its drive is off, with HOLD its state and drive stand; one CLAIM_ENDED record for each goes to the
requester, in ascending channel number, with the tally and the entries removed as its count. -/
def Obligations.ForcedReleaseFrees : Prop :=
  ∀ (p : Port) (seq : Byte) (chans : BitVec 16) (s : State), CanAct p s → SwitchingOk s → chans ≠ 0 →
    chans.toNat < 4096 → (∀ c ∈ chansOf chans, s.holds p c = true) →
    Gives (exec (.release p seq chans 1) s) fun t =>
      let ended := fun (r : Session) (c : Chan) =>
        placeIn s.ltb.pos (.claimEnded c .forced ((s.chan c).tally + countEntries (Entry.names c) s.sched)) r
      t = { s with
            fronts := t.fronts, sessions := t.sessions, chans := t.chans, groups := t.groups, sched := t.sched }
        ∧ t.sched = removeEntries (fun e => (chansOf chans).any fun c => e.names c) s.sched
        ∧ (∀ c, c ∉ chansOf chans → t.chan c = s.chan c)
        ∧ (∀ c ∈ chansOf chans,
            (t.chan c).claim = .free ∧ (t.chan c).pendingOpen = none ∧ (t.chan c).tally = 0
              ∧ (t.chan c).cfg = (s.chan c).cfg
              ∧ ((s.chan c).cfg.safe = .openIt →
                  (t.chan c).drive = false
                    ∧ ((t.chan c).state = .opened ∨ (t.chan c).state = .opening ∧ (s.chan c).cfg.present = true
                      ∨ inFault (s.chan c).state = true ∧ (t.chan c).state = (s.chan c).state))
              ∧ ((s.chan c).cfg.safe = .hold →
                  (t.chan c).state = (s.chan c).state ∧ (t.chan c).drive = (s.chan c).drive))
        ∧ OnlySession p ((chansOf chans).foldl ended (restarted s.now (s.session p))) s t.sessions
        ∧ Answered p seq .ok (bytes16 chans ++ [0, 0]) s t.fronts

/-- R104, R105, R106, R108, R109: RELEASE with mode GRACEFUL of one HELD channel. In FAULT, or with nothing left to drain, the
claim ends with a CLAIM_ENDED record; otherwise it becomes RELEASING, its WAITING entries are gone and the others marked. -/
def Obligations.GracefulReleaseDrains : Prop :=
  ∀ (p : Port) (seq : Byte) (c : Chan) (s : State), CanAct p s → (s.chan c).claim = .held p →
    Gives (exec (.release p seq (setOf [c]) 0) s) fun t =>
      let ch := s.chan c
      let waiting := s.sched.waiting.countP (Entry.names c)
      let left := (s.sched.pending.map (·.entry) ++ s.sched.deferred.map (·.entry)).countP (Entry.names c)
      let free : Channel := { ch with claim := .free, tally := 0 }
      let record := fun n => placeIn s.ltb.pos (.claimEnded c .graceful n) (restarted s.now (s.session p))
      let freed := bytes16 (setOf [c]) ++ [0, 0]
      let draining := [0, 0] ++ bytes16 (setOf [c])
      t = { s with
            fronts := t.fronts, sessions := t.sessions, chans := t.chans, groups := t.groups, sched := t.sched }
        ∧ OnlyChannel c s t
        ∧ if inFault ch.state = true then
            t.chan c = free ∧ t.sched = removeEntries (Entry.names c) s.sched
              ∧ OnlySession p (record (waiting + left)) s t.sessions ∧ Answered p seq .ok freed s t.fronts
          else
            t.sched = markChannel c s.sched
              ∧ if left ≠ 0 ∨ ch.pendingOpen ≠ none then
                  t.chan c = { ch with claim := .releasing p, tally := waiting }
                    ∧ OnlySession p (restarted s.now (s.session p)) s t.sessions
                    ∧ Answered p seq .ok draining s t.fronts
                else if ch.state = .opened ∨ ch.cfg.safe = .hold then
                  t.chan c = free ∧ OnlySession p (record waiting) s t.sessions
                    ∧ Answered p seq .ok freed s t.fronts
                else if ch.state ≠ .closed ∨ dwellMet s ch ch.cfg.onDwell = false then
                  t.chan c =
                      { ch with
                        claim := .releasing p
                        tally := waiting
                        pendingOpen := if ch.state = .closed then some .release else none }
                    ∧ OnlySession p (restarted s.now (s.session p)) s t.sessions
                    ∧ Answered p seq .ok draining s t.fronts
                else
                  (t.chan c).drive = false ∧ (t.chan c).pendingOpen = none ∧ (t.chan c).changePos = s.ltb.pos
                    ∧ (t.chan c).closures = ch.closures
                    ∧ if ch.cfg.present = true ∧ ch.feedback = true then
                        (t.chan c).state = .opening ∧ (t.chan c).claim = .releasing p
                          ∧ Answered p seq .ok draining s t.fronts
                      else
                        (t.chan c).state = .opened ∧ (t.chan c).claim = .free
                          ∧ OnlySession p (record waiting) s t.sessions ∧ Answered p seq .ok freed s t.fronts

/-! ## Channels -/

/-- R82, R83, R96, R91: SET CHANNEL. Its checks in their order; a request that passes and makes no transition of Table 4-3
replaces the whole configuration, and moves a channel to another group with its occupancy. A group that its only occupant
leaves is vacated at the present position; nothing else of any group changes. -/
def Obligations.SetChannelConfigures : Prop :=
  ∀ (p : Port) (seq : Byte) (a : SetChannelArgs) (c : Chan) (g : ChanConfig) (s : State), CanAct p s →
    chanOfByte a.channel = some c → configOf a = some g →
    (c.val = a.channel.toNat ∧ g.closeLead.setWidth 16 = a.closeLead ∧ g.openLead.setWidth 16 = a.openLead
      ∧ g.onDwell = a.onDwell ∧ g.offDwell = a.offDwell ∧ groupCode g.group = a.group ∧ safeCode g.safe = a.safe
      ∧ flagByte g.present = a.feedback ∧ g.verify = a.verify)
    ∧ Gives (exec (.setChannel p seq a) s) fun t =>
      let ch := s.chan c
      let refused := fun status =>
        t = { s with fronts := t.fronts, sessions := t.sessions }
          ∧ OnlySession p (restarted s.now (s.session p)) s t.sessions ∧ Answered p seq status [] s t.fronts
      if s.holds p c = false then refused .notOwner
      else if ch.claim ≠ .held p then refused .releasing
      else if s.namesChannel c = true ∨ ch.pendingOpen ≠ none then refused .entriesPending
      else if g.group ≠ ch.cfg.group ∧ ch.drive = true then refused .driveOn
      else
        Answered p seq .ok [] s t.fronts ∧ (t.chan c).cfg = g ∧ OnlyChannel c s t ∧ t.sched = s.sched
          ∧ ((g.present = ch.cfg.present ∨ inFault ch.state = true
                ∨ (g.present = true ∧ (ch.state = .opened ∧ ch.feedback = false ∨ ch.state = .closed ∧ ch.feedback = true))
                ∨ (g.present = false ∧ (ch.state = .opened ∨ ch.state = .closed))) →
              t = { s with fronts := t.fronts, sessions := t.sessions, chans := t.chans, groups := t.groups }
                ∧ OnlySession p (restarted s.now (s.session p)) s t.sessions
                ∧ t.chan c =
                  { ch with
                    cfg := g
                    occupant := if g.group = ch.cfg.group then ch.occupant else g.group.isSome && occupies ch }
                ∧ ∀ x, t.group x =
                  if g.group ≠ ch.cfg.group ∧ ch.cfg.group = some x ∧ ch.occupant = true
                      ∧ ∀ d, isOccupant s x d = true → d = c then
                    { s.group x with vacated := some s.ltb.pos }
                  else s.group x)

/-- Table 4-3: the transitions that a change of feedback mode makes in an accepted SET CHANNEL, with the FAULT record of the
first two to the owner. -/
def Obligations.FeedbackModeTransitions : Prop :=
  ∀ (p : Port) (seq : Byte) (a : SetChannelArgs) (c : Chan) (g : ChanConfig) (s : State), CanAct p s → SwitchingOk s →
    chanOfByte a.channel = some c → configOf a = some g → (s.chan c).claim = .held p →
    s.namesChannel c = false → (s.chan c).pendingOpen = none → g.group = (s.chan c).cfg.group →
    Gives (exec (.setChannel p seq a) s) fun t =>
      let ch := s.chan c
      let kept := restarted s.now (s.session p)
      let faulted :=
        OnlySession p (placeIn s.ltb.pos (.fault c .uncommanded (some p)) kept) s t.sessions
          ∧ (t.chan c).state = .fault .uncommanded ∧ (t.chan c).drive = false
      ((ch.cfg.present, g.present, ch.state, ch.feedback) = (false, true, .opened, true) → faulted)
        ∧ ((ch.cfg.present, g.present, ch.state, ch.feedback) = (false, true, .closed, false) →
            faulted ∧ (t.chan c).changePos = s.ltb.pos)
        ∧ ((ch.cfg.present, g.present, ch.state) = (true, false, .closing) →
            t.chan c = { ch with cfg := g, state := .closed, verifyAt := none, occupant := g.group.isSome })
        ∧ ((ch.cfg.present, g.present, ch.state) = (true, false, .opening) →
            t.chan c = { ch with cfg := g, state := .opened, verifyAt := none, occupant := false })

/-- R75, R90: CLEAR FAULT of a HELD channel: its checks in their order; one that passes returns the channel to OPEN, and
the channel leaves the occupants of its group. -/
def Obligations.ClearFaultReopens : Prop :=
  ∀ (p : Port) (seq channel : Byte) (c : Chan) (s : State), CanAct p s → SwitchingOk s → chanOfByte channel = some c →
    isReleasing (s.chan c).claim = false →
    Gives (exec (.clearFault p seq channel) s) fun t =>
      let ch := s.chan c
      let refused := fun status =>
        t = { s with fronts := t.fronts, sessions := t.sessions } ∧ Answered p seq status [] s t.fronts
      OnlySession p (restarted s.now (s.session p)) s t.sessions
        ∧ if ch.claim ≠ .held p then refused .notOwner
          else if inFault ch.state = false then refused .notFaulted
          else if ch.cfg.present = true ∧ ch.feedback = true then refused .feedbackClosed
          else
            t = { s with fronts := t.fronts, sessions := t.sessions, chans := t.chans, groups := t.groups }
              ∧ OnlyChannel c s t ∧ t.chan c = { ch with state := .opened, occupant := false }
              ∧ Answered p seq .ok [] s t.fronts
              ∧ ∀ g, t.group g =
                if ch.cfg.group = some g ∧ ch.occupant = true ∧ ∀ d, isOccupant s g d = true → d = c then
                  { s.group g with vacated := some s.ltb.pos }
                else s.group g

/-! ## The schedule -/

/-- R44: the status of a SCHEDULE is that of the first check of R44 that it fails, and OK when it fails none; a refused one
changes nothing but the keepalive timer. Its parameter check is that of R42 on the payload's bytes, with the unused fields 0
(R156). That a PULSE width above 4095 fails it is the model's inference (log 10). -/
def Obligations.ScheduleCheckOrder : Prop :=
  ∀ (p : Port) (a : ScheduleArgs) (s : State),
    ((replyTo p (.good (.schedule a)) s).status ≠ .ok → (replyTo p (.good (.schedule a)) s).state = restartKeepalive p s)
    ∧ (scheduleParams s a = none ↔ badSchedule s a = true)
    ∧ (replyTo p (.good (.schedule a)) s).status =
      if (s.session p).attached = false then .notAttached
      else match scheduleParams s a with
      | none => .badParameter
      | some q =>
        let lead : Nat := (leadOf s q.action).toNat
        let due := dueOf q.timing s.ltb.pos
        let notOwner := (chanOf q.action).any fun c => decide (ownerOf (s.chan c).claim ≠ some p)
        let releasing := (chanOf q.action).any fun c => decide ((s.chan c).claim = .releasing p)
        let fireSoon := due.any fun d => decide (signedDistance (fireOf s q.action d) s.ltb.pos < 4)
        let dueFar := due.any fun d => decide (67107840 < signedDistance d s.ltb.pos)
        let delayShort := match q.timing with
          | .triggered x => decide (x.delay < lead + 4)
          | _ => false
        let outOfOrder := match q.action with
          | .pulse c w _ => decide (w + (s.chan c).cfg.closeLead.toNat ≤ (s.chan c).cfg.openLead.toNat)
          | _ => false
        let overlapping := match q.action, q.rep with
          | .pulse _ w _, some r => decide (r.interval * 1024 ≤ w)
          | _, _ => false
        if notOwner then .notOwner
        else if releasing then .releasing
        else if s.ltb.started = false then .notStarted
        else if fireSoon || delayShort then .tooSoon
        else if dueFar then .tooFar
        else if outOfOrder || overlapping then .badParameter
        else if 8 ≤ ownCount s.sched p ∧ 24 ≤ sharedUsed s.sched then .scheduleFull
        else .ok

/-- R45, R37, R38, R39, R40: a SCHEDULE that passes every check admits one entry, under a tag that no entry and no held open
carries. With a due position it stands in the pending list behind every entry whose fire position is not later; with a
trigger it stands last in the waiting set. -/
def Obligations.ScheduleAdmits : Prop :=
  ∀ (p : Port) (seq : Byte) (a : ScheduleArgs) (q : ScheduleParams) (s : State), CanAct p s → StoreOk s →
    scheduleParams s a = some q → scheduleRefusal p q s = none →
    ((kindCode (kindOf q.action)).toNat = a.kind.toNat ∧ isSecond q.action = false ∧ widthOf q.action = a.width.toNat
      ∧ (∀ c, chanOf q.action = some c → c.val = a.channel.toNat) ∧ q.label = a.label
      ∧ (toleranceCode q.tol).toNat = a.tolerance.toNat
      ∧ dueOf q.timing s.ltb.pos =
        (match a.form.toNat with
        | 0 => some (posOf a.dueCycle (a.dueStep.setWidth 10))
        | 1 => some (posOf (cycleOf s.ltb.pos + a.dueCycle) (a.dueStep.setWidth 10))
        | _ => none)
      ∧ (a.form = 2 ↔ (timingTrigger q.timing).isSome = true)
      ∧ (∀ x ∈ timingTrigger q.timing,
        x.input.val = a.input.toNat ∧ (edgeSelCode x.edge).toNat = a.edge.toNat ∧ x.delay = a.delay.toNat)
      ∧ q.rep =
        if a.repeatFlag = 1 then
          some { interval := a.interval.toNat, count := a.count.toNat, remaining := a.count.toNat }
        else none)
    ∧ Gives (exec (.schedule p seq a) s) fun t =>
      let tag := t.sched.tagCounter
      let e : Entry :=
        { tag := tag, owner := p, action := q.action, label := q.label, tol := q.tol, rep := q.rep
          trig := timingTrigger q.timing, lastRun := false, adm := s.sched.admCounter + 1 }
      t = { s with fronts := t.fronts, sessions := t.sessions, sched := t.sched }
        ∧ OnlySession p (restarted s.now (s.session p)) s t.sessions
        ∧ tag ≠ 0 ∧ tag ∉ tagsInUse s ∧ t.sched.admCounter = s.sched.admCounter + 1
        ∧ t.sched.deferred = s.sched.deferred
        ∧ (∀ due, dueOf q.timing s.ltb.pos = some due →
            let fire := fireOf s q.action due
            let l := s.sched.pending
            t.sched.waiting = s.sched.waiting
              ∧ Answered p seq .ok (bytes16 tag ++ posBytes due ++ posBytes fire) s t.fronts
              ∧ ∃ n ∈ List.range (l.length + 1),
                t.sched.pending = l.take n ++ { entry := e, due := due, fire := fire } :: l.drop n
                  ∧ (∀ x ∈ l.take n, signedDistance x.fire s.ltb.pos ≤ signedDistance fire s.ltb.pos)
                  ∧ ∀ x ∈ (l.drop n).take 1, signedDistance fire s.ltb.pos < signedDistance x.fire s.ltb.pos)
        ∧ (dueOf q.timing s.ltb.pos = none →
            t.sched.pending = s.sched.pending ∧ t.sched.waiting = s.sched.waiting ++ [e]
              ∧ Answered p seq .ok (bytes16 tag ++ List.replicate 12 0xFF) s t.fronts)

/-- R59, R60, R41: CANCEL removes the port's entries that its form names and no others, without a record, and its response
carries their number and LEFT_CLOSED; a TAG that no entry of the port carries is refused NOT_FOUND. Unless a RELEASING
channel loses its last entry, nothing else changes. -/
def Obligations.CancelRemoves : Prop :=
  ∀ (p : Port) (seq form : Byte) (tag : BitVec 16) (channel : Byte) (f : CancelForm) (s : State), CanAct p s →
    OwnershipOk s → cancelOf form tag channel = some f →
    (form = 0 ∧ f = .tag tag ∨ form = 1 ∧ (∃ c : Chan, c.val = channel.toNat ∧ f = .channel c) ∨ form = 2 ∧ f = .all)
    ∧ Gives (exec (.cancel p seq form tag channel) s) fun t =>
      let named := fun e : Entry =>
        decide (e.owner = p) && match f with
          | .tag x => decide (e.tag = x)
          | .channel c => decide (chanOf e.action = some c)
          | .all => true
      let found := (allEntries s.sched).countP named
      let second := s.sched.pending.any fun x => named x.entry && isSecond x.entry.action
      if found = 0 ∧ form = 0 then
        t = { s with fronts := t.fronts, sessions := t.sessions }
          ∧ OnlySession p (restarted s.now (s.session p)) s t.sessions ∧ Answered p seq .notFound [] s t.fronts
      else
        t = { s with
              fronts := t.fronts, sessions := t.sessions, sched := t.sched, chans := t.chans, groups := t.groups
              draws := t.draws }
          ∧ t.sched.pending = s.sched.pending.filter (fun x => !named x.entry)
          ∧ t.sched.waiting = s.sched.waiting.filter (fun e => !named e)
          ∧ t.sched.deferred = s.sched.deferred.filter (fun x => !named x.entry)
          ∧ Answered p seq .ok [byteOf found, flagByte second] s t.fronts
          ∧ ((∀ c, (s.chan c).claim ≠ .releasing p) →
              t = { s with fronts := t.fronts, sessions := t.sessions, sched := t.sched }
                ∧ OnlySession p (restarted s.now (s.session p)) s t.sessions)

/-! ## Capture requests -/

/-- R145, R146: ARM CAPTURE and DISARM CAPTURE write the port's one record for the input, whatever it held, and show it as it
stood. An input above 3 or a selection outside its set is refused BAD_PARAMETER, a DETACHED port NOT_ATTACHED. -/
def Obligations.ArmAndDisarm : Prop :=
  ∀ (p : Port) (seq input edge count : Byte) (s : State), CanTake p s →
    let refused := fun (o : Host.Outcome State Fault Refusal) (status : Status) => Gives o fun t =>
      t = { s with fronts := t.fronts, sessions := t.sessions }
        ∧ OnlySession p (restarted s.now (s.session p)) s t.sessions ∧ Answered p seq status [] s t.fronts
    let written := fun (o : Host.Outcome State Fault Refusal) (a : Arm) => Gives o fun t =>
      t = { s with fronts := t.fronts, sessions := t.sessions, arms := t.arms }
        ∧ OnlySession p (restarted s.now (s.session p)) s t.sessions
        ∧ (∀ (q : Port) (j : CapInput), t.arm q j = if q = p ∧ j.val = input.toNat then a else s.arm q j)
        ∧ ∀ i : CapInput, i.val = input.toNat →
          Answered p seq .ok
            (match s.arm p i with
              | .idle => [0, 0, 0]
              | .armed x n => [1, (edgeSelCode x).setWidth 8, byteOf n])
            s t.fronts
    let arm := exec (.armCapture p seq input edge count) s
    let disarm := exec (.disarmCapture p seq input) s
    if (s.session p).attached = false then refused arm .notAttached ∧ refused disarm .notAttached
    else if 4 ≤ input.toNat then refused arm .badParameter ∧ refused disarm .badParameter
    else
      written disarm .idle
        ∧ if edge = 1 then written arm (.armed .rise count.toNat)
          else if edge = 2 then written arm (.armed .fall count.toNat)
          else if edge = 3 then written arm (.armed .both count.toNat)
          else refused arm .badParameter

/-! ## The advance and the firing of entries -/

/-- R1, R2, R76, R91, R143: an advance comes at the first count at which the accumulator reaches P, takes P from it and moves
the position one step; in STOPPED there is none. One that meets no evaluation point, no boundary, no pending open and no
entry changes nothing else but the dwell settled flags and vacated positions that have run out. A capture edge at its count
is taken before the timebase's work, between it and the offer, or behind both. -/
def Obligations.AdvanceMovesOneStep : Prop :=
  ∀ s : State, s.power = .running →
    let n := countsToAdvance s.ltb
    let u := advanceCount s
    (s.ltb.lock = .stopped → exec .advance s = .next s)
    ∧ (s.ltb.lock ≠ .stopped → s.ltb.acc < s.ltb.period → QuietCounts (n - 1) s →
      1 ≤ n ∧ s.ltb.acc + 1024 * (n - 1) < s.ltb.period ∧ s.ltb.period ≤ s.ltb.acc + 1024 * n
        ∧ u.now = s.now + n
        ∧ u.ltb = { s.ltb with acc := s.ltb.acc + 1024 * n - s.ltb.period, pos := s.ltb.pos + 1 }
        ∧ u = { s with
                now := u.now, ltb := u.ltb, filterA := u.filterA, filterB := u.filterB, capFilters := u.capFilters
                chans := u.chans, supply := u.supply, resetRun := u.resetRun, receiver := u.receiver, fronts := u.fronts }
        ∧ ∀ c, u.chan c = { s.chan c with fbkRun := (u.chan c).fbkRun })
    ∧ (QuietAdvance s → Ahead u.ltb.pos u.sched.pending →
      Gives (exec .advance s) fun t =>
        t = { u with chans := t.chans, groups := t.groups }
          ∧ (∀ c, t.chan c =
              { u.chan c with
                settled := (u.chan c).settled || decide (66048 ≤ signedDistance u.ltb.pos (u.chan c).changePos) })
          ∧ ∀ g, t.group g =
              { u.group g with
                vacated := (u.group g).vacated.filter fun v => decide (signedDistance u.ltb.pos v < 2048) })
    ∧ ∀ i high, AdvanceComes s → dueNow u = [.capLevel i high] → (u.capFilter i).level = some (!high) →
      let once : State := { u with draws := u.draws + 1 }
      let twice : State := { u with draws := u.draws + 2 }
      Gives (exec .advance s) fun t =>
        t = offerPosition (timebaseWork (capQualified i high once))
          ∨ t = offerPosition (capQualified i high (timebaseWork twice))
          ∨ t = capQualified i high (offerPosition (timebaseWork twice))

/-- R47, R48, R53, R55: an entry without a repeat whose fire position the advance reaches. Its tolerance is tested first and
supply second; either gives a MISSED record to its owner, the entry ends, and the channels keep their states. -/
def Obligations.IssueMissed : Prop :=
  ∀ (x : PendingEntry) (rest : List PendingEntry) (s : State), FiresNext x rest s → x.entry.rep = none →
    let u := advanceCount s
    let e := x.entry
    let permitted := match e.tol with
      | .lockOnly => decide (u.ltb.lock = .locked)
      | .holdoverOk => decide (u.ltb.lock = .locked ∨ u.ltb.lock = .holdover)
      | .any => true
    let missed := fun reason =>
      Gives (exec .advance s) fun t =>
        let body := EventBody.missed e.tag e.label (kindOf e.action) (isSecond e.action) (chanOf e.action) reason 0
        t = { u with
              chans := t.chans, groups := t.groups, sessions := t.sessions, sched := { u.sched with pending := rest } }
          ∧ OnlySession e.owner (received u.ltb.pos body (u.session e.owner)) u t.sessions
          ∧ (∀ c, t.chan c = { u.chan c with settled := (t.chan c).settled })
          ∧ ∀ g, t.group g = offeredGroup u.ltb.pos (u.group g)
    (isSecond e.action = false → permitted = false → missed .timebase)
      ∧ (isClosing e.action = true → permitted = true → u.supply.low = true → missed .supply)

/-- R49, R77, R92, R93, R68, R67, R53: a CLOSE without a repeat that passes its tolerance and supply tests. The channel answers
by the first test that applies; an accepted close sets the drive on, and its outcome goes to the owner. A group keeps its
vacated position, but for one that has run out. -/
def Obligations.CloseIssued : Prop :=
  ∀ (x : PendingEntry) (rest : List PendingEntry) (c : Chan) (s : State), FiresNext x rest s → x.entry.rep = none →
    x.entry.action = .close c → x.entry.tol = .any → (advanceCount s).supply.low = false →
    Gives (exec .advance s) fun t =>
      let u := advanceCount s
      let e := x.entry
      let ch := u.chan c
      let pos := u.ltb.pos
      let missed := fun reason => EventBody.missed e.tag e.label .close false (some c) reason 0
      let done := fun already => EventBody.done e.tag e.label .close false (some c) already false 0
      let others := allChans.any fun d =>
        decide (d ≠ c ∧ ch.cfg.group ≠ none ∧ (u.chan d).cfg.group = ch.cfg.group ∧ (u.chan d).occupant = true)
      let inGap := ch.cfg.group.any fun g =>
        (u.group g).vacated.any fun v => decide (signedDistance pos v < ((u.group g).gap.toNat : Int))
      let told := fun body => OnlySession e.owner (received pos body (u.session e.owner)) u t.sessions
      let stays := t.chan c = { ch with settled := (t.chan c).settled }
      t = { u with
            chans := t.chans, groups := t.groups, sessions := t.sessions, sched := { u.sched with pending := rest } }
        ∧ (∀ d, d ≠ c → t.chan d = { u.chan d with settled := (t.chan d).settled })
        ∧ (∀ g, t.group g = offeredGroup pos (u.group g))
        ∧ if inFault ch.state = true then told (missed .fault) ∧ stays
          else if movingState ch.state = true then told (missed .busy) ∧ stays
          else if ch.state = .closed then told (done true) ∧ stays
          else if ch.settled = false ∧ signedDistance pos ch.changePos < (ch.cfg.offDwell.toNat : Int) then
            told (missed .dwell) ∧ stays
          else if others = true then told (missed .interlock) ∧ stays
          else if inGap = true then told (missed .gap) ∧ stays
          else
            told (done false)
              ∧ t.chan c =
                { ch with
                  state := if ch.cfg.present then .closing else .closed
                  drive := true, changePos := pos, settled := false, closures := ch.closures + 1
                  occupant := ch.cfg.group.isSome || ch.occupant
                  verifyAt := if ch.cfg.present then some (t.now + 2000 * ch.cfg.verify.toNat) else ch.verifyAt }

/-- R49, R78, R70, R67, R91, R53: an OPEN without a repeat that passes its tolerance test. The channel answers by the first
test that applies; an accepted open sets the drive off, and its outcome goes to the owner. An open that takes the last
occupant of a group vacates it at the position. -/
def Obligations.OpenIssued : Prop :=
  ∀ (x : PendingEntry) (rest : List PendingEntry) (c : Chan) (s : State), FiresNext x rest s → x.entry.rep = none →
    x.entry.action = .openUp c → x.entry.tol = .any →
    Gives (exec .advance s) fun t =>
      let u := advanceCount s
      let e := x.entry
      let ch := u.chan c
      let pos := u.ltb.pos
      let missed := fun reason => EventBody.missed e.tag e.label .openUp false (some c) reason 0
      let done := fun already => EventBody.done e.tag e.label .openUp false (some c) already false 0
      let told := fun body => OnlySession e.owner (received pos body (u.session e.owner)) u t.sessions
      let stays := t.chan c = { ch with settled := (t.chan c).settled }
      t = { u with
            chans := t.chans, groups := t.groups, sessions := t.sessions, sched := { u.sched with pending := rest } }
        ∧ (∀ d, d ≠ c → t.chan d = { u.chan d with settled := (t.chan d).settled })
        ∧ GroupsFollow c (offeredGroup pos) u t
        ∧ if inFault ch.state = true then told (missed .fault) ∧ stays
          else if movingState ch.state = true then told (missed .busy) ∧ stays
          else if ch.state = .opened then told (done true) ∧ stays
          else if ch.settled = false ∧ signedDistance pos ch.changePos < (ch.cfg.onDwell.toNat : Int) then
            told (missed .dwell) ∧ stays
          else
            told (done false) ∧ t.chan c = openedChannel u.now pos ch

/-- R48, R53, R55, R38: a MARK that passes its tolerance test gives DONE at once. A repeating one is reinserted for its next
firing, its due one interval later, with the decrement made and a new admission sequence; the last firing ends it. -/
def Obligations.MarkFiresAndRepeats : Prop :=
  ∀ (x : PendingEntry) (rest : List PendingEntry) (s : State), FiresNext x rest s → x.entry.action = .mark →
    x.entry.tol = .any →
    let u := advanceCount s
    let e := x.entry
    let pos := u.ltb.pos
    let result := fun (figure : Nat) (sched : Schedule) =>
      Gives (exec .advance s) fun t =>
        t = { u with chans := t.chans, groups := t.groups, sessions := t.sessions, sched := sched }
          ∧ (∀ c, t.chan c = { u.chan c with settled := (t.chan c).settled })
          ∧ (∀ g, t.group g = offeredGroup pos (u.group g))
          ∧ OnlySession e.owner
              (received pos (.done e.tag e.label .mark false none false false figure) (u.session e.owner)) u t.sessions
    (e.rep = none ∨ (∃ r, e.rep = some r ∧ (e.lastRun = true ∨ r.remaining ≤ 1 ∧ r.count ≠ 0)) →
      result 0 { u.sched with pending := rest })
    ∧ ∀ r, e.rep = some r → e.lastRun = false → 1 < r.remaining ∨ r.count = 0 →
      let due := x.due + BitVec.ofNat 42 (r.interval * 1024)
      let again : Entry :=
        { e with rep := some { r with remaining := r.remaining - 1 }, adm := u.sched.admCounter + 1 }
      0 < signedDistance due pos →
      result (if r.count = 0 then 255 else r.remaining - 1)
        { u.sched with
          admCounter := u.sched.admCounter + 1
          pending := insertByFire pos { entry := again, due := due, fire := due } rest }

/-- R50, R51, R53, R38, R55, R68, R70: both phases of a PULSE. A FIRST phase whose close is accepted gives DONE, and one that
finds its channel CLOSED gives it with ALREADY; either goes on as its SECOND phase, at due plus width less the open lead, its
tag, label and due kept. A SECOND phase whose open is accepted, or that finds its channel OPEN, gives DONE and ends; with
firings remaining it is reinserted in phase FIRST, its due one interval later. An open that takes the last occupant of a
group vacates it. -/
def Obligations.PulseGoesOn : Prop :=
  ∀ (x : PendingEntry) (rest : List PendingEntry) (c : Chan) (w : Nat) (second : Bool) (s : State), FiresNext x rest s →
    x.entry.action = .pulse c w second →
    let u := advanceCount s
    let e := x.entry
    let pos := u.ltb.pos
    let ch := u.chan c
    let met := fun (dwell : BitVec 16) =>
      ch.settled = true ∨ (dwell.toNat : Int) ≤ signedDistance pos ch.changePos
    let lasts := match e.rep with
      | none => false
      | some r => !e.lastRun && decide (1 < r.remaining ∨ r.count = 0)
    let figure := match e.rep with
      | none => 0
      | some r => if e.lastRun then 0 else if r.count = 0 then 255 else r.remaining - 1
    let result := fun (already : Bool) (sched : Schedule) (made : Channel → Channel → Prop) =>
      Gives (exec .advance s) fun t =>
        t = { u with chans := t.chans, groups := t.groups, sessions := t.sessions, sched := sched }
          ∧ (∀ d, d ≠ c → t.chan d = { u.chan d with settled := (t.chan d).settled })
          ∧ made ch (t.chan c)
          ∧ GroupsFollow c (offeredGroup pos) u t
          ∧ OnlySession e.owner
              (received pos (.done e.tag e.label .pulse second (some c) already false figure) (u.session e.owner))
              u t.sessions
    let stays := fun (old new : Channel) => new = { old with settled := new.settled }
    let closes := fun (old new : Channel) =>
      new =
        { old with
          state := if old.cfg.present then .closing else .closed
          drive := true, changePos := pos, settled := false, closures := old.closures + 1
          occupant := old.cfg.group.isSome || old.occupant
          verifyAt := if old.cfg.present then some (u.now + 2000 * old.cfg.verify.toNat) else old.verifyAt }
    let opens := fun (old new : Channel) => new = openedChannel u.now pos old
    (second = false → e.tol = .any → u.supply.low = false →
      let fire := x.due + BitVec.ofNat 42 w - ch.cfg.openLead.setWidth 42
      let sched : Schedule :=
        { u.sched with
          admCounter := u.sched.admCounter + 1
          pending :=
            insertByFire pos
              { x with entry := { e with action := .pulse c w true, adm := u.sched.admCounter + 1 }, fire := fire } rest }
      0 < signedDistance fire pos →
      (ch.state = .closed → result true sched stays)
        ∧ (ch.state = .opened → met ch.cfg.offDwell → groupRefusal u c = none → result false sched closes))
    ∧ (second = true →
      let sched : Schedule :=
        match e.rep with
        | some r =>
          if lasts = true then
            let due := x.due + BitVec.ofNat 42 (r.interval * 1024)
            let again : Entry :=
              { e with
                action := .pulse c w false
                rep := some { r with remaining := r.remaining - 1 }
                adm := u.sched.admCounter + 1 }
            { u.sched with
              admCounter := u.sched.admCounter + 1
              pending :=
                insertByFire pos { entry := again, due := due, fire := due - ch.cfg.closeLead.setWidth 42 } rest }
          else { u.sched with pending := rest }
        | none => { u.sched with pending := rest }
      Ahead pos sched.pending →
      (ch.state = .opened → result true sched stays)
        ∧ (ch.state = .closed → met ch.cfg.onDwell → result false sched opens))

/-- R51, R52, R53: a PULSE in phase SECOND that is refused BUSY or DWELL becomes a held open of its channel, without a
record. With firings remaining the entry becomes DEFERRED; otherwise it ends. -/
def Obligations.SecondPhaseHeld : Prop :=
  ∀ (x : PendingEntry) (rest : List PendingEntry) (c : Chan) (w : Nat) (s : State), FiresNext x rest s →
    x.entry.action = .pulse c w true →
    let u := advanceCount s
    (movingState (u.chan c).state = true
      ∨ (u.chan c).state = .closed ∧ (u.chan c).settled = false
        ∧ signedDistance u.ltb.pos (u.chan c).changePos < ((u.chan c).cfg.onDwell.toNat : Int)) →
    let e := x.entry
    Gives (exec .advance s) fun t =>
      t = { u with
            chans := t.chans, groups := t.groups
            sched :=
              { u.sched with
                pending := rest
                deferred :=
                  match e.rep with
                  | none => u.sched.deferred
                  | some r =>
                    if e.lastRun = true ∨ r.remaining ≤ 1 ∧ r.count ≠ 0 then u.sched.deferred
                    else
                      u.sched.deferred
                        ++ [{ entry := { e with rep := some { r with remaining := r.remaining - 1 } }, due := x.due }] } }
        ∧ (∀ d, d ≠ c → t.chan d = { u.chan d with settled := (t.chan d).settled })
        ∧ t.chan c =
          { u.chan c with settled := (t.chan c).settled, pendingOpen := some (.held e.tag e.label) }
        ∧ ∀ g, t.group g = offeredGroup u.ltb.pos (u.group g)

/-! ## The line and its references -/

/-- R13, R14, R15, R16, R19, R20, R26, R28, R29, R30: the window evaluation at the advance that reaches O + 32, away from a cycle
boundary. With nothing to fire, the subscribers of TIMEBASE get the MISSED record and the SWITCHED record behind it, or the
RELOCKED record, and nothing else changes. -/
def Obligations.WindowEvaluated : Prop :=
  ∀ s : State, AdvanceAlone s →
    let u := advanceCount s
    stepOf u.ltb.pos = u.sel.working + 32 → stepOf u.ltb.pos ≠ 0 → u.ltb.lock = .locked ∨ u.ltb.lock = .holdover →
    Gives (exec .advance s) fun t =>
      let l := u.ltb
      let good := l.accepted && decide (l.rejected < 4)
      let other := otherRef u.sel.selected
      let cleared : Ltb := { l with accepted := false, rejected := 0, baseValid := good }
      let missed := decide (l.lock = .locked ∧ l.missCount ≠ 0) && !good
      let switched := missed && decide (u.sel.mode = .auto) && (u.monitor other).qualified
      let relocked := decide (l.lock = .holdover ∧ l.relockCount ≠ 0) && good
      let told := fun (new old : LockState) (cause : TimebaseCause) (ref : RefId) (r : Session) =>
        if r.attached && r.subs.timebase then placeIn l.pos (.timebase new old cause ref l.period) r else r
      (NothingToFire l.pos u →
        t = { u with ltb := t.ltb, sel := t.sel, sessions := t.sessions, chans := t.chans, groups := t.groups }
          ∧ (∀ c, t.chan c = { u.chan c with settled := (t.chan c).settled })
          ∧ (∀ g, t.group g = offeredGroup l.pos (u.group g))
          ∧ ∀ q, t.session q =
            if missed then
              let r := told .holdover .locked .missed u.sel.selected (u.session q)
              let r := { r with notices := { r.notices with leftLock := true } }
              if switched then
                let r := told .holdover .holdover .switched other r
                { r with notices := { r.notices with refSwitched := true } }
              else r
            else if relocked then told .locked .holdover .relocked u.sel.selected (u.session q)
            else u.session q)
      ∧ if l.lock = .locked then
        if good = true then
          t.ltb = { cleared with missCount := 0 }
            ∧ t.sel = { u.sel with working := storedOffset u.sel u.sel.selected }
        else if l.missCount = 0 then
          t.ltb = { cleared with missCount := 1 }
            ∧ t.sel = { u.sel with working := storedOffset u.sel u.sel.selected }
        else
          t.ltb = { cleared with lock := .holdover, missCount := l.missCount + 1, holdCount := 0, relockCount := 0 }
            ∧ (∀ q, (t.session q).notices.leftLock = true)
            ∧ if u.sel.mode = .auto ∧ (u.monitor other).qualified = true then
                t.sel = { u.sel with selected := other, working := storedOffset u.sel other }
                  ∧ ∀ q, (t.session q).notices.refSwitched = true
              else t.sel = { u.sel with working := storedOffset u.sel u.sel.selected }
      else
        t.sel = { u.sel with working := storedOffset u.sel u.sel.selected }
          ∧ if good = true then
              if l.relockCount = 0 then t.ltb = { cleared with relockCount := 1 }
              else t.ltb = { cleared with lock := .locked, missCount := 0, relockCount := l.relockCount + 1 }
            else t.ltb = { cleared with relockCount := 0 }

/-- R9, R10, R11, R12, R4, R15: an edge of the selected reference in LOCKED or HOLDOVER, `after` counts on (log 4), behind any
advance of its count. One inside the window that has accepted none snaps the position to step O and takes part in the period
update; a snap over a cycle boundary in HOLDOVER moves the holdover count, and forward may end the holdover; a snap forward
is offered to the schedule. Any other edge is rejected. -/
def Obligations.EdgeInLock : Prop :=
  ∀ (r : RefId) (after : Nat) (s : State), EdgeComes r after s →
    let u := edgeCount r after s
    let l := u.ltb
    u.sel.selected = r → l.lock = .locked ∨ l.lock = .holdover ∧ u.sel.mode ≠ .auto →
    Gives (exec (.referenceEdge r after) s) fun t =>
      if (stepOf l.pos - (u.sel.working - 32)).toNat < 64 ∧ l.accepted = false then
        let interval := l.lastAccepted.map fun t0 => u.now - t0
        let joins := l.baseValid && interval.any fun i => decide (57143 ≤ i ∧ i ≤ 100000)
        let history := if joins then l.history.drop 1 ++ [interval.getD 0] else l.history
        let pos := l.pos - (stepOf l.pos - u.sel.working).signExtend 42
        let snapped : Ltb :=
          { l with
            pos := pos, acc := 0, accepted := true, lastAccepted := some u.now, history := history
            period := if joins then history.sum / 8 else l.period }
        let crosses := decide (l.lock = .holdover ∧ cycleOf pos ≠ cycleOf l.pos)
        let forward := decide (0 < signedDistance pos l.pos)
        let expires := crosses && forward && decide (l.limit ≤ l.holdCount + 1)
        let before := fun (q : Port) =>
          if expires && (u.session q).attached && (u.session q).subs.timebase then
            placeIn pos (.timebase .lost .holdover .holdoverExpired r snapped.period) (u.session q)
          else u.session q
        t = { u with
              filterA := t.filterA, filterB := t.filterB, monA := t.monA, monB := t.monB, ltb := t.ltb, sel := t.sel
              sched := t.sched, chans := t.chans, groups := t.groups, sessions := t.sessions, draws := t.draws }
          ∧ stepOf pos = u.sel.working ∧ -31 ≤ signedDistance pos l.pos ∧ signedDistance pos l.pos ≤ 32
          ∧ t.ltb =
            (if expires then
              { snapped with lock := .lost, holdCount := l.holdCount + 1, acq := { start := none, run := [] } }
            else if crosses && forward then { snapped with holdCount := l.holdCount + 1 }
            else if crosses then { snapped with holdCount := l.holdCount - 1 }
            else snapped)
          ∧ t.sel = (if expires then { u.sel with working := storedOffset u.sel r } else u.sel)
          ∧ MoveOffered u t before
      else
        t = { u with
              filterA := t.filterA, filterB := t.filterB, monA := t.monA, monB := t.monB
              ltb := { l with rejected := l.rejected + 1, stray := min (l.stray + 1) 65535 } }

/-- R6, R7, R8, R11, R19: an edge of the selected reference in STOPPED or LOST, `after` counts on (log 4), behind any advance of
its count. The first edge starts acquisition, a bad interval begins the run again, and the eighth good interval in a row
locks: from STOPPED at cycle 0, step O, from LOST at the nearest step O, where a move forward is offered to the schedule
behind the ACQUIRED record. That a lock from STOPPED is offered to no block (log 17), and that the acquisition state stands
after the lock (log 26), is the model's inference. -/
def Obligations.EdgeInAcquisition : Prop :=
  ∀ (r : RefId) (after : Nat) (s : State), EdgeComes r after s →
    let u := edgeCount r after s
    let l := u.ltb
    u.sel.selected = r → u.sel.mode ≠ .auto → l.lock = .stopped ∨ l.lock = .lost → l.acq.run.length < 8 →
    Gives (exec (.referenceEdge r after) s) fun t =>
      let interval := u.now - l.acq.start.getD 0
      let near := l.acq.run.getLast?.all fun i => decide (32 * (max interval i - min interval i) ≤ i)
      let good := l.acq.start.isSome && decide (57143 ≤ interval ∧ interval ≤ 100000) && near
      let run := l.acq.run ++ [interval]
      let acq : Acquisition :=
        { start := some u.now, run := if good then run else if l.acq.start.isSome then [] else l.acq.run }
      if good = true ∧ run.length = 8 then
        let before := fun (q : Port) =>
          if (u.session q).attached && (u.session q).subs.timebase then
            placeIn t.ltb.pos (.timebase .locked l.lock .acquired r (run.sum / 8)) (u.session q)
          else u.session q
        t = { u with
              filterA := t.filterA, filterB := t.filterB, monA := t.monA, monB := t.monB, ltb := t.ltb, sel := t.sel
              sched := t.sched, chans := t.chans, groups := t.groups, sessions := t.sessions, draws := t.draws }
          ∧ t.ltb =
            { l with
              lock := .locked, pos := t.ltb.pos, acc := 0, period := run.sum / 8, history := run
              started := true, missCount := 0, relockCount := 0, stray := 0, accepted := true, rejected := 0
              baseValid := false, lastAccepted := some u.now, acq := acq }
          ∧ t.sel = u.sel
          ∧ if l.lock = .stopped then
              t.ltb.pos = posOf 0 u.sel.working ∧ t.sched = u.sched ∧ t.chans = u.chans ∧ t.groups = u.groups
                ∧ ∀ q, t.session q = before q
            else
              stepOf t.ltb.pos = u.sel.working ∧ -511 ≤ signedDistance t.ltb.pos l.pos
                ∧ signedDistance t.ltb.pos l.pos ≤ 512 ∧ MoveOffered u t before
      else
        t = { u with
              filterA := t.filterA, filterB := t.filterB, monA := t.monA, monB := t.monB, ltb := { l with acq := acq } }

/-- R3, R22, R23, R27: a qualified rising edge, `after` counts on (log 4), updates its own monitor and no other; one of the
reference that is not selected does nothing else outside AUTO. -/
def Obligations.EdgeUpdatesMonitor : Prop :=
  ∀ (r : RefId) (after : Nat) (s : State), EdgeComes r after s →
    let u := edgeCount r after s
    Gives (exec (.referenceEdge r after) s) fun t =>
      let m := u.monitor r
      (t.refFilter r).level = some true ∧ t.monitor (otherRef r) = u.monitor (otherRef r)
        ∧ t.refFilter (otherRef r) = u.refFilter (otherRef r)
        ∧ (∀ t0, m.lastEdge = some t0 →
            let interval := u.now - t0
            t.monitor r =
              if (57143 ≤ interval ∧ interval ≤ 100000)
                  ∧ m.lastInterval.all (fun i => decide (32 * (max interval i - min interval i) ≤ i)) = true then
                { qualified := m.qualified || decide (8 ≤ m.good + 1)
                  good := min (m.good + 1) 8, lastEdge := some u.now, lastInterval := some interval }
              else { qualified := false, good := 0, lastEdge := some u.now, lastInterval := none })
        ∧ (m.lastEdge = none → t.monitor r = { m with lastEdge := some u.now })
        ∧ (u.sel.selected ≠ r → u.sel.mode ≠ .auto →
            t = { u with filterA := t.filterA, filterB := t.filterB, monA := t.monA, monB := t.monB })

/-- R24, R28, R29, R30: the silence limit of a monitor that has a last edge clears its record. In AUTO, out of LOCKED, that of
the selected reference switches to the other reference if that one is QUALIFIED; a monitor with no last edge is left. -/
def Obligations.SilenceLimitExpires : Prop :=
  ∀ (r : RefId) (s : State), s.power = .running → standingCondition s = false →
    ((s.monitor r).lastEdge = none → exec (.monitorSilenceLimitExpiry r) s = .next s)
    ∧ ((s.monitor r).lastEdge ≠ none →
      Gives (exec (.monitorSilenceLimitExpiry r) s) fun t =>
        let other := otherRef r
        t.monitor r = { qualified := false, good := 0, lastEdge := none, lastInterval := none }
          ∧ t.monitor other = s.monitor other
          ∧ if s.sel.mode = .auto ∧ s.ltb.lock ≠ .locked ∧ s.sel.selected = r ∧ (s.monitor other).qualified = true then
              t = { s with monA := t.monA, monB := t.monB, ltb := t.ltb, sel := t.sel, sessions := t.sessions }
                ∧ t.sel = { s.sel with selected := other, working := storedOffset s.sel other }
                ∧ t.ltb =
                  (if s.ltb.lock = .holdover then
                    { s.ltb with accepted := false, rejected := 0, baseValid := false, relockCount := 0 }
                  else { s.ltb with acq := { start := none, run := [] } })
                ∧ ∀ q,
                  let old := s.session q
                  let record := EventBody.timebase s.ltb.lock s.ltb.lock .switched other s.ltb.period
                  let got := if old.attached && old.subs.timebase then placeIn s.ltb.pos record old else old
                  t.session q = { got with notices := { got.notices with refSwitched := true } }
            else t = { s with monA := t.monA, monB := t.monB })

/-- R15, R17, R26, R19: the command stands for the advance that crosses a cycle boundary in HOLDOVER and brings the holdover
count to the limit (log 15). At that crossing the timebase enters LOST with cause HOLDOVER_EXPIRED, with acquisition afresh,
and the position, the accumulator, the history and P go on. Otherwise nothing. -/
def Obligations.HoldoverExpires : Prop :=
  ∀ s : State, s.power = .running →
    let crossing := s.ltb.lock = .holdover ∧ s.ltb.limit ≤ s.ltb.holdCount + 1 ∧ stepOf s.ltb.pos = 1023
    (¬crossing → exec .holdoverExpired s = .next s)
    ∧ (crossing → AdvanceAlone s →
      let u := advanceCount s
      stepOf u.ltb.pos = 0 → u.sel.working + 32 ≠ 0 → u.ltb.lock = .holdover → u.ltb.limit ≤ u.ltb.holdCount + 1 →
      Gives (exec .holdoverExpired s) fun t =>
        t.ltb =
            { u.ltb with
              lock := .lost, holdCount := u.ltb.holdCount + 1, acq := { start := none, run := [] } }
          ∧ (u.sel.mode ≠ .auto → NothingToFire u.ltb.pos u →
            t = { u with ltb := t.ltb, sel := t.sel, sessions := t.sessions, chans := t.chans, groups := t.groups }
              ∧ t.sel = { u.sel with working := storedOffset u.sel u.sel.selected }
              ∧ (∀ c, t.chan c = { u.chan c with settled := (t.chan c).settled })
              ∧ ∀ q, t.session q =
                if (u.session q).attached && (u.session q).subs.timebase then
                  placeIn u.ltb.pos (.timebase .lost .holdover .holdoverExpired u.sel.selected u.ltb.period) (u.session q)
                else u.session q))

/-! ## Capture inputs -/

/-- R141, R142, R147, R148, R149, R57: a qualified edge of a capture input, `after` counts on (log 4). It starts the hold-off;
each matching arm record hands its port one CAPTURE record and counts down; the matching WAITING entries are triggered. A
level that the hold-off has covered within its eight samples is no edge. -/
def Obligations.CaptureEdgeDistributed : Prop :=
  ∀ (i : CapInput) (d : EdgeDir) (after : Nat) (s : State),
    let high := decide (d = .rising)
    let u := levelCount 8 after (showCap i high) s
    (s.power = .running → ∀ last ∈ (s.capFilter i).holdOff, s.now < last + 8 →
      Gives (exec (.captureEdge i d 0) s) fun t =>
        t = { s with pins := t.pins, capFilters := t.capFilters } ∧ (∀ j, j ≠ i → t.capFilter j = s.capFilter j)
          ∧ (t.capFilter i).level = (s.capFilter i).level ∧ (t.capFilter i).holdOff = (s.capFilter i).holdOff)
    ∧ (LevelComes 8 after (showCap i high) (.capLevel i high) s → advanceWith 8 after (showCap i high) s = false →
      (u.capFilter i).level = some (!high) →
      Gives (exec (.captureEdge i d after) s) fun t =>
        let matched := fun (a : Arm) => match a, d with
          | .armed .both _, _ => true
          | .armed .rise _, .rising => true
          | .armed .fall _, .falling => true
          | _, _ => false
        let figure := fun (a : Arm) => match a with
          | .armed _ 0 => 255
          | .armed _ (n + 1) => n
          | .idle => 0
        let counted := fun (a : Arm) => match a with
          | .armed _ 1 => Arm.idle
          | .armed x (n + 2) => .armed x (n + 1)
          | a => a
        t = { u with capFilters := t.capFilters, arms := t.arms, sessions := t.sessions, sched := t.sched }
          ∧ t.capFilter i =
            { level := some high, run := { level := false, count := 0 }, holdOff := some (u.now + 80) }
          ∧ (∀ j, j ≠ i → t.capFilter j = u.capFilter j)
          ∧ (∀ q j, t.arm q j = if j = i ∧ matched (u.arm q j) = true then counted (u.arm q j) else u.arm q j)
          ∧ (∀ q, t.session q =
              if matched (u.arm q i) = true then
                received u.ltb.pos
                  (.capture i d (256 * u.ltb.acc / u.ltb.period) u.ltb.lock (figure (u.arm q i))) (u.session q)
              else u.session q)
          ∧ t.sched.waiting = u.sched.waiting.filter (fun e => !triggerMatches i d e)
          ∧ t.sched.deferred = u.sched.deferred
          ∧ ((∀ e ∈ u.sched.waiting, triggerMatches i d e = false) → t.sched = u.sched)
          ∧ ∀ e ∈ u.sched.waiting, u.sched.waiting.filter (triggerMatches i d) = [e] →
              let due := u.ltb.pos + BitVec.ofNat 42 (triggerDelay e)
              t.sched.admCounter = u.sched.admCounter + 1
                ∧ t.sched.pending =
                  insertByFire u.ltb.pos
                    { entry := { e with adm := u.sched.admCounter + 1 }, due := due, fire := fireOf u e.action due }
                    u.sched.pending)

/-- R3, R141: a level qualified without an edge, of a reference or of a capture input, and the end of a hold-off, change the
input's own filter and nothing else but the pin. A level that makes an edge is none of them, and a hold-off that does not run
does not end (log 6). -/
def Obligations.FiltersWithoutEdge : Prop :=
  ∀ (r : RefId) (i : CapInput) (high : Bool) (s : State), s.power = .running →
    let rising := high = true ∧ (s.refFilter r).level = some false
    (¬rising →
      Gives (exec (.referenceLevelQualified r high) s) fun t =>
        t = { s with pins := t.pins, filterA := t.filterA, filterB := t.filterB }
          ∧ t.refFilter r = { level := some high, run := { level := high, count := 8 } }
          ∧ t.refFilter (otherRef r) = s.refFilter (otherRef r))
    ∧ (rising → exec (.referenceLevelQualified r high) s = .next s)
    ∧ (∀ last ∈ (s.capFilter i).holdOff, s.now < last →
      Gives (exec (.captureHoldOffEnd i) s) fun t =>
        t = { s with capFilters := t.capFilters }
          ∧ t.capFilter i =
            { level := (s.capFilter i).level, run := { level := false, count := 0 }, holdOff := some s.now }
          ∧ ∀ j, j ≠ i → t.capFilter j = s.capFilter j)
    ∧ ((∀ last ∈ (s.capFilter i).holdOff, last ≤ s.now) → exec (.captureHoldOffEnd i) s = .next s)
    ∧ ((s.capFilter i).level = none → (∀ last ∈ (s.capFilter i).holdOff, last + 8 ≤ s.now) →
      Gives (exec (.captureFirstQualification i high) s) fun t =>
        t = { s with capFilters := t.capFilters, pins := t.pins }
          ∧ t.capFilter i =
            { level := some high, run := { level := high, count := 8 }, holdOff := (s.capFilter i).holdOff }
          ∧ ∀ j, j ≠ i → t.capFilter j = s.capFilter j)
    ∧ ((s.capFilter i).level ≠ none → exec (.captureFirstQualification i high) s = .next s)

/-! ## Feedback, faults and supply -/

/-- R66, R69, R71, R72, R73, R74, R90: a feedback change of a channel that owes no open and is not RELEASING, `after` counts
on (log 4). A channel that leaves the occupants of its group as their last vacates it (R91). A level that the channel has
already changes nothing but the pin. -/
def Obligations.FeedbackChanges : Prop :=
  ∀ (c : Chan) (closed : Bool) (after : Nat) (s : State),
    let u := levelCount 4000 after (showFbk c closed) s
    (s.power = .running → (s.chan c).feedback = closed →
      Gives (exec (.feedbackChange c ⟨closed, 0⟩) s) fun t =>
        t = { s with pins := t.pins, chans := t.chans } ∧ OnlyChannel c s t
          ∧ t.chan c = { s.chan c with fbkRun := { level := closed, count := 4000 } })
    ∧ (LevelComes 4000 after (showFbk c closed) (.fbkLevel c closed) s →
      advanceWith 4000 after (showFbk c closed) s = false → SwitchingOk u → (u.chan c).pendingOpen = none →
      isReleasing (u.chan c).claim = false →
      Gives (exec (.feedbackChange c ⟨closed, after⟩) s) fun t =>
        let ch : Channel := { u.chan c with feedback := closed }
        let grouped := ch.cfg.group.isSome
        let body := EventBody.fault c .uncommanded (ownerOf ch.claim)
        OnlyChannel c u t
          ∧ t = { u with chans := t.chans, groups := t.groups, sessions := t.sessions }
          ∧ GroupsFollow c id u t
          ∧ if ch.state = .closing ∧ closed = true then
              t.sessions = u.sessions ∧ t.chan c = { ch with state := .closed, verifyAt := none }
            else if ch.state = .opening ∧ closed = false then
              t.sessions = u.sessions ∧ t.chan c = { ch with state := .opened, verifyAt := none, occupant := false }
            else if ch.cfg.present = true ∧ (ch.state = .opened ∧ closed = true ∨ ch.state = .closed ∧ closed = false) then
              t.chan c =
                  { ch with
                    state := .fault .uncommanded, drive := false, occupant := grouped && closed
                    changePos := if ch.drive then u.ltb.pos else ch.changePos
                    settled := if ch.drive then false else ch.settled }
                ∧ ∀ q, t.session q =
                  let r := u.session q
                  match ownerOf ch.claim with
                  | some o => if q = o then received u.ltb.pos body r else r
                  | none => if r.attached && r.subs.fault then placeIn u.ltb.pos body r else r
            else
              t.sessions = u.sessions
                ∧ t.chan c =
                  { ch with
                    occupant :=
                      match ch.state with
                      | .fault cause => grouped && (closed || decide (cause = .openUnconfirmed))
                      | _ => ch.occupant })

/-- R69, R71, R73, R52: the verify timer of a held channel expires. It enters FAULT with its drive off; the FAULT record goes
to the owner, and behind it the MISSED record of a held open that the entry clears. A stopped timer does nothing. -/
def Obligations.VerifyTimerExpires : Prop :=
  ∀ (c : Chan) (p : Port) (s : State), s.power = .running → SwitchingOk s → (s.chan c).claim = .held p →
    ((s.chan c).verifyAt = none → exec (.verifyTimerExpiry c) s = .next s)
    ∧ ((s.chan c).verifyAt ≠ none →
      (∀ tag label, (s.chan c).pendingOpen = some (.held tag label) → deferredOf tag s.sched = none) →
      (s.chan c).pendingOpen ≠ some .release →
      Gives (exec (.verifyTimerExpiry c) s) fun t =>
        let ch := s.chan c
        let cause := if ch.state = .closing then FaultCause.closeUnconfirmed else .openUnconfirmed
        let first := received s.ltb.pos (.fault c cause (some p)) (s.session p)
        OnlyChannel c s t
          ∧ t = { s with chans := t.chans, groups := t.groups, sessions := t.sessions }
          ∧ GroupsFollow c id s t
          ∧ t.chan c =
            { ch with
              state := .fault cause, drive := false, verifyAt := none, pendingOpen := none
              changePos := if ch.state = .closing then s.ltb.pos else ch.changePos
              settled := if ch.state = .closing then false else ch.settled
              occupant := ch.cfg.group.isSome && (ch.feedback || decide (cause = .openUnconfirmed)) }
          ∧ OnlySession p
              (match ch.pendingOpen with
                | some (.held tag label) =>
                  received s.ltb.pos (.missed tag label .pulse true (some c) .fault 0) first
                | _ => first)
              s t.sessions)

/-- R85, R86, R87, R79, R128: an entry to low sets the flag and the SUPPLY_LOW notice of all ports, opens the channels of the
shed set and tells every attached port; a leaving clears the flag and tells every attached port. A level that the flag shows
already changes nothing but the pin and its run of samples. -/
def Obligations.SupplyLowAndRestored : Prop :=
  ∀ s : State, s.power = .running → SwitchingOk s → TagsOk s → Ahead s.ltb.pos s.sched.pending →
    let only := fun (t : State) => t = { s with pins := t.pins, supply := { s.supply with run := t.supply.run } }
    (s.supply.low = false →
      Gives (exec .supplyEntryToLow s) fun t =>
        let shed := fun c => s.supply.shed && decide ((s.chan c).cfg.safe = .openIt) && (s.chan c).drive
        t.supply.low = true ∧ t.supply.shed = s.supply.shed ∧ (∀ q, (t.session q).notices.supplyLow = true)
          ∧ t.ltb = s.ltb ∧ t.sel = s.sel
          ∧ (∀ c, shed c = true → (t.chan c).drive = false ∧ (t.chan c).changePos = s.ltb.pos)
          ∧ (∀ c, shed c = false → t.chan c = s.chan c)
          ∧ ((∀ c, shed c = true → (s.chan c).pendingOpen = none ∧ isReleasing (s.chan c).claim = false) →
            t = { s with
                  pins := t.pins, supply := t.supply, sessions := t.sessions, chans := t.chans, groups := t.groups }
              ∧ (∀ g, t.group g =
                  if (∃ c, isOccupant s g c = true) ∧ ∀ c, isOccupant t g c = false then
                    { s.group g with vacated := some s.ltb.pos }
                  else s.group g)
              ∧ ∀ q, t.session q =
                received s.ltb.pos (.supply true (allChans.filter shed))
                  { s.session q with notices := { (s.session q).notices with supplyLow := true } }))
    ∧ (s.supply.low = true →
      Gives (exec .supplyLeavingLow s) fun t =>
        t = { s with pins := t.pins, supply := t.supply, sessions := t.sessions }
          ∧ t.supply.low = false ∧ t.supply.shed = s.supply.shed
          ∧ ∀ q, t.session q = received s.ltb.pos (.supply false []) (s.session q))
    ∧ (s.supply.low = true → Gives (exec .supplyEntryToLow s) only)
    ∧ (s.supply.low = false → Gives (exec .supplyLeavingLow s) only)

/-! ## Pending opens and drains -/

/-- R81, R52, R54, R78, R70, R107, R109: the pending open of a channel is put to it as an open. A held open that executes is
reported DONE with flag DEFERRED to the owner, with ALREADY when the channel was OPEN; one that is refused stays. A DEFERRED
entry of its tag then ends, if it was marked, or is reinserted for its next firing, and issued at once where that lies
behind. A release open that executes makes no record of its own; at OPEN the release completes. An open that takes the last
occupant of a group vacates it (R91). -/
def Obligations.PendingOpenExamined : Prop :=
  ∀ (c : Chan) (s : State), s.power = .running →
    let ch := s.chan c
    let pos := s.ltb.pos
    let already := decide (ch.state = .opened)
    let taken := ch.state = .opened ∨ ch.state = .closed ∧ dwellMet s ch ch.cfg.onDwell = true
    let opened := fun (t : State) (claim : Claim) (tally : Nat) =>
      if already = true then t.chan c = { ch with pendingOpen := none, claim := claim, tally := tally }
      else t.chan c = { openedChannel s.now pos ch with pendingOpen := none, claim := claim, tally := tally }
    let result := fun (p : Port) (sched : Schedule) (claim : Claim) (records : List EventBody) =>
      Gives (exec (.pendingOpenExecution c) s) fun t =>
        OnlyChannel c s t
          ∧ t = { s with chans := t.chans, groups := t.groups, sessions := t.sessions, sched := sched }
          ∧ opened t claim ch.tally ∧ GroupsFollow c id s t
          ∧ OnlySession p (records.foldl (fun r b => received pos b r) (s.session p)) s t.sessions
    (ch.pendingOpen = none → exec (.pendingOpenExecution c) s = .next s)
    ∧ (movingState ch.state = true ∨ ch.state = .closed ∧ dwellMet s ch ch.cfg.onDwell = false →
      exec (.pendingOpenExecution c) s = .next s)
    ∧ (∀ p tag label, ch.claim = .held p → ch.pendingOpen = some (.held tag label) → taken →
      let done := fun n => EventBody.done tag label .pulse true (some c) already true n
      (deferredOf tag s.sched = none → result p s.sched ch.claim [done 0])
      ∧ ∀ x ∈ deferredOf tag s.sched, ∀ w, x.entry.action = .pulse c w true →
        let left := s.sched.deferred.filter fun y => decide (y.entry.tag ≠ tag)
        (x.entry.lastRun = true → result p { s.sched with deferred := left } ch.claim [done 0])
        ∧ ∀ r ∈ x.entry.rep, x.entry.lastRun = false →
          let due := x.due + BitVec.ofNat 42 (r.interval * 1024)
          let fire := due - ch.cfg.closeLead.setWidth 42
          let adm := s.sched.admCounter + 1
          let again : Entry := { x.entry with action := .pulse c w false, adm := adm }
          let figure := if r.count = 0 then 255 else r.remaining
          (0 < signedDistance fire pos → Ahead pos s.sched.pending →
            result p
              { s.sched with
                admCounter := adm
                pending := insertByFire pos { entry := again, due := due, fire := fire } s.sched.pending
                deferred := left }
              ch.claim [done figure])
          ∧ (signedDistance fire pos ≤ 0 → Ahead pos s.sched.pending → x.entry.tol = .lockOnly → s.ltb.lock ≠ .locked →
            r.count ≠ 0 → r.remaining = 1 → x.entry.owner = p →
            result p { s.sched with admCounter := adm, deferred := left } ch.claim
              [done 1, .missed x.entry.tag x.entry.label .pulse false (some c) .timebase 0]))
    ∧ ∀ p, ch.claim = .releasing p → ch.pendingOpen = some .release → taken → s.namesChannel c = false →
      if already = false ∧ ch.cfg.present = true ∧ ch.feedback = true ∧ ch.cfg.safe = .openIt then result p s.sched ch.claim []
      else
        Gives (exec (.pendingOpenExecution c) s) fun t =>
          OnlyChannel c s t ∧ t = { s with chans := t.chans, groups := t.groups, sessions := t.sessions }
            ∧ opened t .free 0 ∧ GroupsFollow c id s t
            ∧ OnlySession p (received pos (.claimEnded c .graceful ch.tally) (s.session p)) s t.sessions

/-- R106, R107, R108, R109: a drain that has ended completes its release, and the owner gets the CLAIM_ENDED record with the
tally; at FAULT the entries left on the channel are removed and counted. Without it nothing happens (log 16). -/
def Obligations.DrainCompletes : Prop :=
  ∀ (c : Chan) (s : State), s.power = .running →
    let ch := s.chan c
    let ended := fun (n : Nat) (p : Port) =>
      Gives (exec (.drainComplete c) s) fun t =>
        OnlyChannel c s t
          ∧ t = { s with chans := t.chans, sched := t.sched, sessions := t.sessions }
          ∧ t.chan c = { ch with claim := .free, tally := 0 }
          ∧ t.sched = removeEntries (Entry.names c) s.sched
          ∧ OnlySession p (received s.ltb.pos (.claimEnded c .graceful (ch.tally + n)) (s.session p)) s t.sessions
    (∀ p, ch.claim = .releasing p → inFault ch.state = true → ended (countEntries (Entry.names c) s.sched) p)
    ∧ (∀ p, ch.claim = .releasing p → s.namesChannel c = false → ch.pendingOpen = none → inFault ch.state = false →
        ch.state = .opened ∨ ch.cfg.safe = .hold → ended 0 p)
    ∧ ((∀ p, ch.claim ≠ .releasing p)
        ∨ inFault ch.state = false
          ∧ (s.namesChannel c = true ∨ ch.pendingOpen ≠ none ∨ ch.state ≠ .opened ∧ ch.cfg.safe = .openIt) →
      exec (.drainComplete c) s = .next s)

/-! ## Device reset -/

/-- R162, R188: the start of a device reset. At power-on its source is POWER_ON; a low of RESET_N makes it PIN on a running
part, and leaves a reset that is under way as it is. No drive is on, the transmitter stops, and the pins of the ports are as
R188 has them: TXD high, SDA and SCL released, SDO, ATTN0, ATTN1 and RDY high-impedance. -/
def Obligations.DeviceResetBegins : Prop :=
  ∀ s : State,
    let quiet := fun (t : State) =>
      (∀ c, drvPin t c = false) ∧ t.sending = none ∧ txdPin t = true ∧ sdaReleased t = true ∧ sclReleased t = true
        ∧ sdoPin t = none ∧ attnPin t 0 = none ∧ attnPin t 1 = none ∧ attnPin t 2 = some false ∧ rdyPin t = none
        ∧ t.hp1Bus = .waiting ∧ t.hp2Bus = .waiting
    (Gives (exec .powerOnReset s) fun t => t.power = .inReset true ∧ t.resetSource = .powerOn ∧ quiet t)
    ∧ (s.power = .running →
      Gives (exec .pinReset s) fun t => t.power = .inReset false ∧ t.resetSource = .pin ∧ quiet t)
    ∧ (s.power ≠ .running → Gives (exec .pinReset s) fun t => t = { s with pins := t.pins })

/-- R188, R21, R25, R22, R64, R88, R85, R99, R140, R151, R187, R162: reset release gives every block the values of its
chapter, and samples the straps, FBK0 to FBK11 and SUPLOW_N. The reset source is kept. -/
def Obligations.ResetReleaseValues : Prop :=
  ∀ (straps : Straps) (fbk : BitVec 12) (suplowN : Bool) (s : State), s.power ≠ .running →
    Gives (exec (.resetRelease straps fbk suplowN) s) fun t =>
      t.power = .running ∧ t.resetSource = s.resetSource ∧ t.straps = straps
        ∧ t.ltb =
          { lock := .stopped, pos := 0, acc := 0, period := 80000, history := List.replicate 8 80000, started := false
            limit := 25, holdCount := 0, missCount := 0, relockCount := 0, stray := 0, accepted := false, rejected := 0
            baseValid := false, lastAccepted := none, acq := { start := none, run := [] } }
        ∧ t.filterA.level = none ∧ t.filterB.level = none
        ∧ t.monA = { qualified := false, good := 0, lastEdge := none, lastInterval := none } ∧ t.monB = t.monA
        ∧ t.sel = { mode := .fixedA, offsetA := 0, offsetB := 0, selected := .a, working := 0 }
        ∧ t.sched = { pending := [], waiting := [], deferred := [], tagCounter := 0, admCounter := 0 }
        ∧ (∀ c, t.chan c =
            { claim := .free, tally := 0, state := .opened, drive := false, feedback := fbk.getLsbD c.val
              fbkRun := (t.chan c).fbkRun, changePos := 0, settled := true, verifyAt := none, pendingOpen := none
              closures := 0, occupant := false
              cfg :=
                { closeLead := 0, openLead := 0, onDwell := 0, offDwell := 0, group := none, safe := .openIt
                  present := false, verify := 20 } })
        ∧ (∀ g, t.group g = { vacated := none, gap := 0 })
        ∧ t.supply.low = (!suplowN) ∧ t.supply.shed = false
        ∧ (∀ q, t.session q =
            { attached := false, keepalive := 0, expireAt := none, subs := { timebase := false, fault := false }
              notices := { supplyLow := false, leftLock := false, refSwitched := false, reset := true }
              queue := [], nextSeq := 0, lost := 0, lastEnd := .deviceReset, attn := false })
        ∧ (∀ i, (t.capFilter i).level = none ∧ (t.capFilter i).holdOff = none) ∧ (∀ q i, t.arm q i = .idle)
        ∧ (∀ q, t.front q = { buffer := .empty, held := none, frameErrors := 0 })
        ∧ t.receiver = .idle ∧ t.sending = none ∧ txdPin t = true ∧ sdoPin t = none
        ∧ t.hp1Bus = .waiting ∧ t.hp2Bus = .waiting

/-- While the part is held in reset every command but the three of device reset leaves it as it is, and a part that runs is
not released (log 18). -/
def Obligations.HeldInReset : Prop :=
  ∀ (c : Instr) (s : State),
    (s.power ≠ .running → c ≠ .powerOnReset → c ≠ .pinReset → (∀ x f v, c ≠ .resetRelease x f v) → exec c s = .next s)
    ∧ (s.power = .running → ∀ x f v, exec (.resetRelease x f v) s = .next s)

/-! ## The three ports -/

/-- R176, R177, R178, R175, R179, R171: HP0. The eleven bits of a byte, and TXD by what is being sent; the bytes, gap and quiet
by the state of the receiver; and the end of a transmission, which a READY response follows at once. By the model's choice
the bits on TXD come at their nominal times (log 20), the bytes of a command take its counts, in which RXD is low and which a
device reset ends, a byte leaves RXD at the level of its stop bit, and the end of the quiet leaves it high (log 28). -/
def Obligations.Hp0Line : Prop :=
  ∀ (b : RxByte) (pre : List Byte) (rest : List RxByte) (n : Nat) (s : State), s.power = .running →
    let rxd := fun (high : Bool) (t : State) => { t with pins := { t.pins with rxd := high } }
    let bits := [false] ++ ([0, 1, 2, 3, 4, 5, 6, 7].map fun i => b.data.getLsbD i) ++ [b.parityBit, b.stopBit]
    let last := ((b :: rest).getLast?.map (·.stopBit)).getD true
    let u := wireCounts n s
    (serialBits b = bits ∧ readSerial bits = some b
      ∧ (rxError b = false ↔ (bits.drop 1).countP (· = true) % 2 = 1 ∧ b.stopBit = true))
    ∧ (s.sending = none → txdPin s = true)
    ∧ (∀ x, s.sending = some x →
      txdPin s
        = ((x.bytes.flatMap fun b => serialBits (rxGood b))[(s.now - x.since) * hp0BitRate s.straps / 4000000]?).getD true)
    ∧ (n = 0 → u = s)
    ∧ (let t := tick (rxd false s)
      if t.power = .running then
        exec (.hp0StrayByte ⟨b, n + 1⟩) s = exec (.hp0StrayByte ⟨b, n⟩) t
          ∧ exec (.hp0RequestFrame ⟨pre, n + 1⟩) s = exec (.hp0RequestFrame ⟨pre, n⟩) t
          ∧ exec (.hp0DamagedFrame ⟨b :: rest, n + 1⟩) s = exec (.hp0DamagedFrame ⟨b :: rest, n⟩) t
      else
        exec (.hp0StrayByte ⟨b, n + 1⟩) s = .next (rxd b.stopBit t)
          ∧ exec (.hp0RequestFrame ⟨pre, n + 1⟩) s = .next (rxd true t)
          ∧ exec (.hp0DamagedFrame ⟨b :: rest, n + 1⟩) s = .next (rxd last t))
    ∧ (u.power = .running →
      (u.receiver = .idle → ¬(b.data = 0xC3 ∧ rxError b = false) →
        exec (.hp0StrayByte ⟨b, n⟩) s = .next (rxd b.stopBit (frameError 0 u)))
      ∧ (u.receiver = .idle → b.data = 0xC3 → rxError b = false →
        exec (.hp0StrayByte ⟨b, n⟩) s = .next { rxd true u with receiver := .receiving [] u.now })
      ∧ (∀ k, u.receiver = .discarding k →
        exec (.hp0StrayByte ⟨b, n⟩) s = .next { rxd b.stopBit u with receiver := .discarding u.now })
      ∧ (∀ got k, u.receiver = .receiving got k → rxError b = true →
        exec (.hp0StrayByte ⟨b, n⟩) s = .next { rxd b.stopBit (frameError 0 u) with receiver := .discarding u.now })
      ∧ (∀ got k, u.receiver = .receiving got k → rxError b = false →
        (∀ len ∈ (got ++ [b.data]).head?, lenInRange len = true ∧ got.length + 1 < len.toNat + 2) →
        exec (.hp0StrayByte ⟨b, n⟩) s = .next { rxd true u with receiver := .receiving (got ++ [b.data]) u.now })
      ∧ (∀ k, u.receiver = .receiving [] k → lenInRange b.data = false →
        exec (.hp0StrayByte ⟨b, n⟩) s = .next { rxd b.stopBit (frameError 0 u) with receiver := .discarding u.now })
      ∧ (u.receiver = .idle → rxError b = true →
        (∀ len, pre.head? = some len → lenInRange len = true ∧ pre.length < len.toNat + 2) →
        exec (.hp0DamagedFrame ⟨pre.map rxGood ++ b :: rest, n⟩) s
          = .next { rxd last (frameError 0 u) with receiver := .discarding u.now })
      ∧ (u.receiver = .idle → rxError b = false → lenInRange b.data = false →
        exec (.hp0DamagedFrame ⟨b :: rest, n⟩) s
          = .next { rxd last (frameError 0 u) with receiver := .discarding u.now }))
    ∧ (∀ got k, s.receiver = .receiving got k →
        exec .hp0ByteGapTimeout s = .next { frameError 0 s with receiver := .idle })
    ∧ (∀ k, s.receiver = .discarding k → exec .hp0DiscardingQuietEnd s = .next { rxd true s with receiver := .idle })
    ∧ (s.sending.isSome = true → ∀ r, (s.front 0).buffer = .ready r →
        exec .hp0TransmissionComplete s
          = .next
            { s.setFront 0 { s.front 0 with buffer := .empty } with
              sending := some { bytes := 0xC3 :: responseFrame r, since := s.now } })
    ∧ (s.sending.isSome = true → (∀ r, (s.front 0).buffer ≠ .ready r) →
        exec .hp0TransmissionComplete s = .next { s with sending := none })

/-- R180, R181, R182, R170: HP1 answers its own address alone. A write that is no whole frame is one frame error and leaves the
buffer; a read sends a READY response, which is read when its last byte has been clocked out, or NO_RESPONSE. A read of a
PENDING buffer, of no byte too, waits for the response, and for that of a held request (log 22). A write of no byte is a probe
(log 27), and each transaction leaves the bus free. -/
def Obligations.Hp1Transactions : Prop :=
  ∀ (addr : BitVec 7) (bytes : List Byte) (n : Nat) (s : State), s.power = .running →
    let wire := fun (out : List Byte) (acks : Nat) (t : State) =>
      { t with hp1Bus := .waiting, hp1Out := out, hp1Acks := acks }
    (s.hp1Bus = .waiting → sdaReleased s = true ∧ sclReleased s = true)
    ∧ (addr ≠ 0x28 + BitVec.ofNat 7 ((if s.straps.addr1 then 2 else 0) + (if s.straps.addr0 then 1 else 0)) →
      exec (.hp1WriteTransaction addr bytes) s = .next (wire [] 0 s)
        ∧ exec (.hp1ReadTransaction addr n) s = .next (wire [] 0 s))
    ∧ (addr = 0x28 + BitVec.ofNat 7 ((if s.straps.addr1 then 2 else 0) + (if s.straps.addr0 then 1 else 0)) →
      exec (.hp1WriteTransaction addr []) s = .next (wire [] 1 s)
      ∧ (takesRequest (s.front 1).buffer = true → exec (.hp1ReadTransaction addr 0) s = .next (wire [] 1 s))
      ∧ (∀ len rest, bytes = len :: rest → lenInRange len = false ∨ bytes.length ≠ len.toNat + 2 →
        exec (.hp1WriteTransaction addr bytes) s
          = .next
            (wire [] (if lenInRange len then 1 + min bytes.length (len.toNat + 2) else 1) (frameError 1 s)))
      ∧ (∀ r, (s.front 1).buffer = .ready r →
        Gives (exec (.hp1ReadTransaction addr n) s) fun t =>
          t = { wire ((responseFrame r ++ List.replicate n 0xFF).take n) 1 s with fronts := t.fronts }
            ∧ (∀ q, t.front q =
                if q = 1 ∧ r.payload.length + 4 ≤ n then { s.front q with buffer := .empty } else s.front q))
      ∧ ((s.front 1).buffer = .empty →
        exec (.hp1ReadTransaction addr n) s
          = .next (wire (([0x02, 0x00, 0x15, 0x48] ++ List.replicate n 0xFF).take n) 1 s))
      ∧ (∀ r k, (s.front 1).buffer = .pending r k → (s.front 1).held = none →
        sclReleased { s with hp1Bus := .active } = false
          ∧ exec (.hp1ReadTransaction addr n) s
            = exec (.hp1ReadTransaction addr n) (s.setFront 1 { s.front 1 with buffer := .ready (responseNow 1 r k s) }))
      ∧ (takesRequest (s.front 1).buffer = false → ∀ seq q, (s.front 1).held = some { seq := seq, body := .good q } →
        Gives (exec (.responseComposed 1) { s with hp1Bus := .active, hp1Out := [], hp1Acks := 1 }) fun u =>
          exec (.hp1ReadTransaction addr n) s = exec (.hp1ReadTransaction addr n) u))

/-- R183, R184, R185, R170, R186: HP2. A transaction that is no whole request frame, begins with another byte, or comes too soon
is one frame error and shows 0x00 alone; a read shifts out a READY response, or NO_RESPONSE. SDO is driven while CS_N is low,
and high-impedance otherwise. -/
def Obligations.Hp2Transactions : Prop :=
  ∀ (first : Byte) (bytes : List Byte) (n : Nat) (s : State), s.power = .running →
    let wire := fun (out : List Byte) (t : State) => { t with hp2Bus := .waiting, hp2Out := out }
    (sdoPin { s with hp2Bus := .waiting } = none ∧ sdoPin { s with hp2Bus := .active, hp2Out := [] } = some false
      ∧ sdoPin { s with hp2Bus := .active, hp2Out := bytes ++ [first] } = some (first.getLsbD 0))
    ∧ ((∀ len rest, bytes = len :: rest → lenInRange len = false ∨ bytes.length ≠ len.toNat + 2) →
      exec (.hp2RequestTransaction bytes) s = .next (wire (List.replicate (bytes.length + 1) 0) (frameError 2 s)))
    ∧ (first ≠ 0x5A → first ≠ 0xA5 →
      exec (.hp2BadCommandByte first bytes) s = .next (wire (List.replicate (bytes.length + 1) 0) (frameError 2 s)))
    ∧ exec (.hp2CsHighTooShort bytes) s
        = .next (wire (List.replicate bytes.length 0) (if bytes = [] then s else frameError 2 s))
    ∧ (∀ r, (s.front 2).buffer = .ready r →
      rdyPin s = some true
        ∧ Gives (exec (.hp2ReadTransaction n) s) fun t =>
          t = { wire (0x00 :: (responseFrame r ++ List.replicate n 0xFF).take n) s with fronts := t.fronts }
            ∧ (∀ q, t.front q =
                if q = 2 ∧ r.payload.length + 4 ≤ n then { s.front q with buffer := .empty } else s.front q)
            ∧ rdyPin t = some (decide (n < r.payload.length + 4)))
    ∧ ((∀ r, (s.front 2).buffer ≠ .ready r) →
      rdyPin s = some false
        ∧ exec (.hp2ReadTransaction n) s
          = .next (wire (0x00 :: ([0x02, 0x00, 0x15, 0x48] ++ List.replicate n 0xFF).take n) s))

end Obligations0
end

