-- ==== Sys2Proof/Laws/State.lean ====
section
/-! SUPPORT. The small lemmas of the state: what every update of a record does to every field, and what every read of a record
reads after it. -/

namespace Sys2Proof.Machine

/-! ## Reads after writes of the same kind -/

theorem State.setChan_chan (s : State) (i j : Chan) (x : Channel) :
    (s.setChan i x).chan j = if i = j then x else s.chan j := by
  simp [State.setChan, State.chan, Vector.get_eq_getElem, Vector.getElem_set, Fin.ext_iff]

@[simp] theorem State.setChan_chan_same (s : State) (i : Chan) (x : Channel) : (s.setChan i x).chan i = x := by
  simp [State.setChan_chan]

theorem State.setChan_chan_ne (s : State) {i j : Chan} (x : Channel) (h : i ≠ j) : (s.setChan i x).chan j = s.chan j := by
  simp [State.setChan_chan, h]

theorem State.setGroup_group (s : State) (i j : GroupId) (x : Group) :
    (s.setGroup i x).group j = if i = j then x else s.group j := by
  simp [State.setGroup, State.group, Vector.get_eq_getElem, Vector.getElem_set, Fin.ext_iff]

@[simp] theorem State.setGroup_group_same (s : State) (i : GroupId) (x : Group) : (s.setGroup i x).group i = x := by
  simp [State.setGroup_group]

theorem State.setGroup_group_ne (s : State) {i j : GroupId} (x : Group) (h : i ≠ j) : (s.setGroup i x).group j = s.group j := by
  simp [State.setGroup_group, h]

theorem State.setSession_session (s : State) (i j : Port) (x : Session) :
    (s.setSession i x).session j = if i = j then x else s.session j := by
  simp [State.setSession, State.session, Vector.get_eq_getElem, Vector.getElem_set, Fin.ext_iff]

@[simp] theorem State.setSession_session_same (s : State) (i : Port) (x : Session) : (s.setSession i x).session i = x := by
  simp [State.setSession_session]

theorem State.setSession_session_ne (s : State) {i j : Port} (x : Session) (h : i ≠ j) : (s.setSession i x).session j = s.session j := by
  simp [State.setSession_session, h]

theorem State.setFront_front (s : State) (i j : Port) (x : FrontEnd) :
    (s.setFront i x).front j = if i = j then x else s.front j := by
  simp [State.setFront, State.front, Vector.get_eq_getElem, Vector.getElem_set, Fin.ext_iff]

@[simp] theorem State.setFront_front_same (s : State) (i : Port) (x : FrontEnd) : (s.setFront i x).front i = x := by
  simp [State.setFront_front]

theorem State.setFront_front_ne (s : State) {i j : Port} (x : FrontEnd) (h : i ≠ j) : (s.setFront i x).front j = s.front j := by
  simp [State.setFront_front, h]

theorem State.setCapFilter_capFilter (s : State) (i j : CapInput) (x : CapFilter) :
    (s.setCapFilter i x).capFilter j = if i = j then x else s.capFilter j := by
  simp [State.setCapFilter, State.capFilter, Vector.get_eq_getElem, Vector.getElem_set, Fin.ext_iff]

@[simp] theorem State.setCapFilter_capFilter_same (s : State) (i : CapInput) (x : CapFilter) : (s.setCapFilter i x).capFilter i = x := by
  simp [State.setCapFilter_capFilter]

theorem State.setCapFilter_capFilter_ne (s : State) {i j : CapInput} (x : CapFilter) (h : i ≠ j) : (s.setCapFilter i x).capFilter j = s.capFilter j := by
  simp [State.setCapFilter_capFilter, h]

theorem State.setArm_arm (s : State) (p q : Port) (i j : CapInput) (x : Arm) :
    (s.setArm p i x).arm q j = if p = q ∧ i = j then x else s.arm q j := by
  by_cases hp : p = q
  · subst hp
    simp [State.setArm, State.arm, Vector.get_eq_getElem, Vector.getElem_set, Fin.ext_iff]
  · simp [State.setArm, State.arm, Vector.get_eq_getElem, hp, Fin.val_inj]

@[simp] theorem State.setMonitor_monitor_same (s : State) (r : RefId) (m : Monitor) : (s.setMonitor r m).monitor r = m := by
  cases r <;> rfl

@[simp] theorem State.setMonitor_monitor_other (s : State) (r : RefId) (m : Monitor) :
    (s.setMonitor r m).monitor (otherRef r) = s.monitor (otherRef r) := by
  cases r <;> rfl

@[simp] theorem State.setRefFilter_refFilter_same (s : State) (r : RefId) (f : RefFilter) :
    (s.setRefFilter r f).refFilter r = f := by
  cases r <;> rfl

/-! ## Fields after an update -/

@[simp] theorem State.setChan_pending (s : State) (c : Chan) (x : Channel) : (s.setChan c x).pending = s.pending := rfl
@[simp] theorem State.setChan_now (s : State) (c : Chan) (x : Channel) : (s.setChan c x).now = s.now := rfl
@[simp] theorem State.setChan_draws (s : State) (c : Chan) (x : Channel) : (s.setChan c x).draws = s.draws := rfl
@[simp] theorem State.setChan_power (s : State) (c : Chan) (x : Channel) : (s.setChan c x).power = s.power := rfl
@[simp] theorem State.setChan_resetSource (s : State) (c : Chan) (x : Channel) : (s.setChan c x).resetSource = s.resetSource := rfl
@[simp] theorem State.setChan_resetRun (s : State) (c : Chan) (x : Channel) : (s.setChan c x).resetRun = s.resetRun := rfl
@[simp] theorem State.setChan_pins (s : State) (c : Chan) (x : Channel) : (s.setChan c x).pins = s.pins := rfl
@[simp] theorem State.setChan_straps (s : State) (c : Chan) (x : Channel) : (s.setChan c x).straps = s.straps := rfl
@[simp] theorem State.setChan_ltb (s : State) (c : Chan) (x : Channel) : (s.setChan c x).ltb = s.ltb := rfl
@[simp] theorem State.setChan_filterA (s : State) (c : Chan) (x : Channel) : (s.setChan c x).filterA = s.filterA := rfl
@[simp] theorem State.setChan_filterB (s : State) (c : Chan) (x : Channel) : (s.setChan c x).filterB = s.filterB := rfl
@[simp] theorem State.setChan_monA (s : State) (c : Chan) (x : Channel) : (s.setChan c x).monA = s.monA := rfl
@[simp] theorem State.setChan_monB (s : State) (c : Chan) (x : Channel) : (s.setChan c x).monB = s.monB := rfl
@[simp] theorem State.setChan_sel (s : State) (c : Chan) (x : Channel) : (s.setChan c x).sel = s.sel := rfl
@[simp] theorem State.setChan_sched (s : State) (c : Chan) (x : Channel) : (s.setChan c x).sched = s.sched := rfl
@[simp] theorem State.setChan_groups (s : State) (c : Chan) (x : Channel) : (s.setChan c x).groups = s.groups := rfl
@[simp] theorem State.setChan_supply (s : State) (c : Chan) (x : Channel) : (s.setChan c x).supply = s.supply := rfl
@[simp] theorem State.setChan_sessions (s : State) (c : Chan) (x : Channel) : (s.setChan c x).sessions = s.sessions := rfl
@[simp] theorem State.setChan_capFilters (s : State) (c : Chan) (x : Channel) : (s.setChan c x).capFilters = s.capFilters := rfl
@[simp] theorem State.setChan_arms (s : State) (c : Chan) (x : Channel) : (s.setChan c x).arms = s.arms := rfl
@[simp] theorem State.setChan_fronts (s : State) (c : Chan) (x : Channel) : (s.setChan c x).fronts = s.fronts := rfl
@[simp] theorem State.setChan_receiver (s : State) (c : Chan) (x : Channel) : (s.setChan c x).receiver = s.receiver := rfl
@[simp] theorem State.setChan_sending (s : State) (c : Chan) (x : Channel) : (s.setChan c x).sending = s.sending := rfl
@[simp] theorem State.setChan_hp1Out (s : State) (c : Chan) (x : Channel) : (s.setChan c x).hp1Out = s.hp1Out := rfl
@[simp] theorem State.setChan_hp1Acks (s : State) (c : Chan) (x : Channel) : (s.setChan c x).hp1Acks = s.hp1Acks := rfl
@[simp] theorem State.setChan_hp2Out (s : State) (c : Chan) (x : Channel) : (s.setChan c x).hp2Out = s.hp2Out := rfl
@[simp] theorem State.setChan_hp1Bus (s : State) (c : Chan) (x : Channel) : (s.setChan c x).hp1Bus = s.hp1Bus := rfl
@[simp] theorem State.setChan_hp2Bus (s : State) (c : Chan) (x : Channel) : (s.setChan c x).hp2Bus = s.hp2Bus := rfl
@[simp] theorem State.setChan_group (s : State) (c : Chan) (x : Channel) (d : GroupId) : (s.setChan c x).group d = s.group d := rfl
@[simp] theorem State.setChan_session (s : State) (c : Chan) (x : Channel) (d : Port) : (s.setChan c x).session d = s.session d := rfl
@[simp] theorem State.setChan_front (s : State) (c : Chan) (x : Channel) (d : Port) : (s.setChan c x).front d = s.front d := rfl
@[simp] theorem State.setChan_capFilter (s : State) (c : Chan) (x : Channel) (d : CapInput) : (s.setChan c x).capFilter d = s.capFilter d := rfl
@[simp] theorem State.setChan_arm (s : State) (c : Chan) (x : Channel) (d : Port) (j : CapInput) : (s.setChan c x).arm d j = s.arm d j := rfl

@[simp] theorem State.setGroup_pending (s : State) (g : GroupId) (x : Group) : (s.setGroup g x).pending = s.pending := rfl
@[simp] theorem State.setGroup_now (s : State) (g : GroupId) (x : Group) : (s.setGroup g x).now = s.now := rfl
@[simp] theorem State.setGroup_draws (s : State) (g : GroupId) (x : Group) : (s.setGroup g x).draws = s.draws := rfl
@[simp] theorem State.setGroup_power (s : State) (g : GroupId) (x : Group) : (s.setGroup g x).power = s.power := rfl
@[simp] theorem State.setGroup_resetSource (s : State) (g : GroupId) (x : Group) : (s.setGroup g x).resetSource = s.resetSource := rfl
@[simp] theorem State.setGroup_resetRun (s : State) (g : GroupId) (x : Group) : (s.setGroup g x).resetRun = s.resetRun := rfl
@[simp] theorem State.setGroup_pins (s : State) (g : GroupId) (x : Group) : (s.setGroup g x).pins = s.pins := rfl
@[simp] theorem State.setGroup_straps (s : State) (g : GroupId) (x : Group) : (s.setGroup g x).straps = s.straps := rfl
@[simp] theorem State.setGroup_ltb (s : State) (g : GroupId) (x : Group) : (s.setGroup g x).ltb = s.ltb := rfl
@[simp] theorem State.setGroup_filterA (s : State) (g : GroupId) (x : Group) : (s.setGroup g x).filterA = s.filterA := rfl
@[simp] theorem State.setGroup_filterB (s : State) (g : GroupId) (x : Group) : (s.setGroup g x).filterB = s.filterB := rfl
@[simp] theorem State.setGroup_monA (s : State) (g : GroupId) (x : Group) : (s.setGroup g x).monA = s.monA := rfl
@[simp] theorem State.setGroup_monB (s : State) (g : GroupId) (x : Group) : (s.setGroup g x).monB = s.monB := rfl
@[simp] theorem State.setGroup_sel (s : State) (g : GroupId) (x : Group) : (s.setGroup g x).sel = s.sel := rfl
@[simp] theorem State.setGroup_sched (s : State) (g : GroupId) (x : Group) : (s.setGroup g x).sched = s.sched := rfl
@[simp] theorem State.setGroup_chans (s : State) (g : GroupId) (x : Group) : (s.setGroup g x).chans = s.chans := rfl
@[simp] theorem State.setGroup_supply (s : State) (g : GroupId) (x : Group) : (s.setGroup g x).supply = s.supply := rfl
@[simp] theorem State.setGroup_sessions (s : State) (g : GroupId) (x : Group) : (s.setGroup g x).sessions = s.sessions := rfl
@[simp] theorem State.setGroup_capFilters (s : State) (g : GroupId) (x : Group) : (s.setGroup g x).capFilters = s.capFilters := rfl
@[simp] theorem State.setGroup_arms (s : State) (g : GroupId) (x : Group) : (s.setGroup g x).arms = s.arms := rfl
@[simp] theorem State.setGroup_fronts (s : State) (g : GroupId) (x : Group) : (s.setGroup g x).fronts = s.fronts := rfl
@[simp] theorem State.setGroup_receiver (s : State) (g : GroupId) (x : Group) : (s.setGroup g x).receiver = s.receiver := rfl
@[simp] theorem State.setGroup_sending (s : State) (g : GroupId) (x : Group) : (s.setGroup g x).sending = s.sending := rfl
@[simp] theorem State.setGroup_hp1Out (s : State) (g : GroupId) (x : Group) : (s.setGroup g x).hp1Out = s.hp1Out := rfl
@[simp] theorem State.setGroup_hp1Acks (s : State) (g : GroupId) (x : Group) : (s.setGroup g x).hp1Acks = s.hp1Acks := rfl
@[simp] theorem State.setGroup_hp2Out (s : State) (g : GroupId) (x : Group) : (s.setGroup g x).hp2Out = s.hp2Out := rfl
@[simp] theorem State.setGroup_hp1Bus (s : State) (g : GroupId) (x : Group) : (s.setGroup g x).hp1Bus = s.hp1Bus := rfl
@[simp] theorem State.setGroup_hp2Bus (s : State) (g : GroupId) (x : Group) : (s.setGroup g x).hp2Bus = s.hp2Bus := rfl
@[simp] theorem State.setGroup_chan (s : State) (g : GroupId) (x : Group) (d : Chan) : (s.setGroup g x).chan d = s.chan d := rfl
@[simp] theorem State.setGroup_session (s : State) (g : GroupId) (x : Group) (d : Port) : (s.setGroup g x).session d = s.session d := rfl
@[simp] theorem State.setGroup_front (s : State) (g : GroupId) (x : Group) (d : Port) : (s.setGroup g x).front d = s.front d := rfl
@[simp] theorem State.setGroup_capFilter (s : State) (g : GroupId) (x : Group) (d : CapInput) : (s.setGroup g x).capFilter d = s.capFilter d := rfl
@[simp] theorem State.setGroup_arm (s : State) (g : GroupId) (x : Group) (d : Port) (j : CapInput) : (s.setGroup g x).arm d j = s.arm d j := rfl

@[simp] theorem State.setSession_pending (s : State) (p : Port) (x : Session) : (s.setSession p x).pending = s.pending := rfl
@[simp] theorem State.setSession_now (s : State) (p : Port) (x : Session) : (s.setSession p x).now = s.now := rfl
@[simp] theorem State.setSession_draws (s : State) (p : Port) (x : Session) : (s.setSession p x).draws = s.draws := rfl
@[simp] theorem State.setSession_power (s : State) (p : Port) (x : Session) : (s.setSession p x).power = s.power := rfl
@[simp] theorem State.setSession_resetSource (s : State) (p : Port) (x : Session) : (s.setSession p x).resetSource = s.resetSource := rfl
@[simp] theorem State.setSession_resetRun (s : State) (p : Port) (x : Session) : (s.setSession p x).resetRun = s.resetRun := rfl
@[simp] theorem State.setSession_pins (s : State) (p : Port) (x : Session) : (s.setSession p x).pins = s.pins := rfl
@[simp] theorem State.setSession_straps (s : State) (p : Port) (x : Session) : (s.setSession p x).straps = s.straps := rfl
@[simp] theorem State.setSession_ltb (s : State) (p : Port) (x : Session) : (s.setSession p x).ltb = s.ltb := rfl
@[simp] theorem State.setSession_filterA (s : State) (p : Port) (x : Session) : (s.setSession p x).filterA = s.filterA := rfl
@[simp] theorem State.setSession_filterB (s : State) (p : Port) (x : Session) : (s.setSession p x).filterB = s.filterB := rfl
@[simp] theorem State.setSession_monA (s : State) (p : Port) (x : Session) : (s.setSession p x).monA = s.monA := rfl
@[simp] theorem State.setSession_monB (s : State) (p : Port) (x : Session) : (s.setSession p x).monB = s.monB := rfl
@[simp] theorem State.setSession_sel (s : State) (p : Port) (x : Session) : (s.setSession p x).sel = s.sel := rfl
@[simp] theorem State.setSession_sched (s : State) (p : Port) (x : Session) : (s.setSession p x).sched = s.sched := rfl
@[simp] theorem State.setSession_chans (s : State) (p : Port) (x : Session) : (s.setSession p x).chans = s.chans := rfl
@[simp] theorem State.setSession_groups (s : State) (p : Port) (x : Session) : (s.setSession p x).groups = s.groups := rfl
@[simp] theorem State.setSession_supply (s : State) (p : Port) (x : Session) : (s.setSession p x).supply = s.supply := rfl
@[simp] theorem State.setSession_capFilters (s : State) (p : Port) (x : Session) : (s.setSession p x).capFilters = s.capFilters := rfl
@[simp] theorem State.setSession_arms (s : State) (p : Port) (x : Session) : (s.setSession p x).arms = s.arms := rfl
@[simp] theorem State.setSession_fronts (s : State) (p : Port) (x : Session) : (s.setSession p x).fronts = s.fronts := rfl
@[simp] theorem State.setSession_receiver (s : State) (p : Port) (x : Session) : (s.setSession p x).receiver = s.receiver := rfl
@[simp] theorem State.setSession_sending (s : State) (p : Port) (x : Session) : (s.setSession p x).sending = s.sending := rfl
@[simp] theorem State.setSession_hp1Out (s : State) (p : Port) (x : Session) : (s.setSession p x).hp1Out = s.hp1Out := rfl
@[simp] theorem State.setSession_hp1Acks (s : State) (p : Port) (x : Session) : (s.setSession p x).hp1Acks = s.hp1Acks := rfl
@[simp] theorem State.setSession_hp2Out (s : State) (p : Port) (x : Session) : (s.setSession p x).hp2Out = s.hp2Out := rfl
@[simp] theorem State.setSession_hp1Bus (s : State) (p : Port) (x : Session) : (s.setSession p x).hp1Bus = s.hp1Bus := rfl
@[simp] theorem State.setSession_hp2Bus (s : State) (p : Port) (x : Session) : (s.setSession p x).hp2Bus = s.hp2Bus := rfl
@[simp] theorem State.setSession_chan (s : State) (p : Port) (x : Session) (d : Chan) : (s.setSession p x).chan d = s.chan d := rfl
@[simp] theorem State.setSession_group (s : State) (p : Port) (x : Session) (d : GroupId) : (s.setSession p x).group d = s.group d := rfl
@[simp] theorem State.setSession_front (s : State) (p : Port) (x : Session) (d : Port) : (s.setSession p x).front d = s.front d := rfl
@[simp] theorem State.setSession_capFilter (s : State) (p : Port) (x : Session) (d : CapInput) : (s.setSession p x).capFilter d = s.capFilter d := rfl
@[simp] theorem State.setSession_arm (s : State) (p : Port) (x : Session) (d : Port) (j : CapInput) : (s.setSession p x).arm d j = s.arm d j := rfl

@[simp] theorem State.setFront_pending (s : State) (p : Port) (x : FrontEnd) : (s.setFront p x).pending = s.pending := rfl
@[simp] theorem State.setFront_now (s : State) (p : Port) (x : FrontEnd) : (s.setFront p x).now = s.now := rfl
@[simp] theorem State.setFront_draws (s : State) (p : Port) (x : FrontEnd) : (s.setFront p x).draws = s.draws := rfl
@[simp] theorem State.setFront_power (s : State) (p : Port) (x : FrontEnd) : (s.setFront p x).power = s.power := rfl
@[simp] theorem State.setFront_resetSource (s : State) (p : Port) (x : FrontEnd) : (s.setFront p x).resetSource = s.resetSource := rfl
@[simp] theorem State.setFront_resetRun (s : State) (p : Port) (x : FrontEnd) : (s.setFront p x).resetRun = s.resetRun := rfl
@[simp] theorem State.setFront_pins (s : State) (p : Port) (x : FrontEnd) : (s.setFront p x).pins = s.pins := rfl
@[simp] theorem State.setFront_straps (s : State) (p : Port) (x : FrontEnd) : (s.setFront p x).straps = s.straps := rfl
@[simp] theorem State.setFront_ltb (s : State) (p : Port) (x : FrontEnd) : (s.setFront p x).ltb = s.ltb := rfl
@[simp] theorem State.setFront_filterA (s : State) (p : Port) (x : FrontEnd) : (s.setFront p x).filterA = s.filterA := rfl
@[simp] theorem State.setFront_filterB (s : State) (p : Port) (x : FrontEnd) : (s.setFront p x).filterB = s.filterB := rfl
@[simp] theorem State.setFront_monA (s : State) (p : Port) (x : FrontEnd) : (s.setFront p x).monA = s.monA := rfl
@[simp] theorem State.setFront_monB (s : State) (p : Port) (x : FrontEnd) : (s.setFront p x).monB = s.monB := rfl
@[simp] theorem State.setFront_sel (s : State) (p : Port) (x : FrontEnd) : (s.setFront p x).sel = s.sel := rfl
@[simp] theorem State.setFront_sched (s : State) (p : Port) (x : FrontEnd) : (s.setFront p x).sched = s.sched := rfl
@[simp] theorem State.setFront_chans (s : State) (p : Port) (x : FrontEnd) : (s.setFront p x).chans = s.chans := rfl
@[simp] theorem State.setFront_groups (s : State) (p : Port) (x : FrontEnd) : (s.setFront p x).groups = s.groups := rfl
@[simp] theorem State.setFront_supply (s : State) (p : Port) (x : FrontEnd) : (s.setFront p x).supply = s.supply := rfl
@[simp] theorem State.setFront_sessions (s : State) (p : Port) (x : FrontEnd) : (s.setFront p x).sessions = s.sessions := rfl
@[simp] theorem State.setFront_capFilters (s : State) (p : Port) (x : FrontEnd) : (s.setFront p x).capFilters = s.capFilters := rfl
@[simp] theorem State.setFront_arms (s : State) (p : Port) (x : FrontEnd) : (s.setFront p x).arms = s.arms := rfl
@[simp] theorem State.setFront_receiver (s : State) (p : Port) (x : FrontEnd) : (s.setFront p x).receiver = s.receiver := rfl
@[simp] theorem State.setFront_sending (s : State) (p : Port) (x : FrontEnd) : (s.setFront p x).sending = s.sending := rfl
@[simp] theorem State.setFront_hp1Out (s : State) (p : Port) (x : FrontEnd) : (s.setFront p x).hp1Out = s.hp1Out := rfl
@[simp] theorem State.setFront_hp1Acks (s : State) (p : Port) (x : FrontEnd) : (s.setFront p x).hp1Acks = s.hp1Acks := rfl
@[simp] theorem State.setFront_hp2Out (s : State) (p : Port) (x : FrontEnd) : (s.setFront p x).hp2Out = s.hp2Out := rfl
@[simp] theorem State.setFront_hp1Bus (s : State) (p : Port) (x : FrontEnd) : (s.setFront p x).hp1Bus = s.hp1Bus := rfl
@[simp] theorem State.setFront_hp2Bus (s : State) (p : Port) (x : FrontEnd) : (s.setFront p x).hp2Bus = s.hp2Bus := rfl
@[simp] theorem State.setFront_chan (s : State) (p : Port) (x : FrontEnd) (d : Chan) : (s.setFront p x).chan d = s.chan d := rfl
@[simp] theorem State.setFront_group (s : State) (p : Port) (x : FrontEnd) (d : GroupId) : (s.setFront p x).group d = s.group d := rfl
@[simp] theorem State.setFront_session (s : State) (p : Port) (x : FrontEnd) (d : Port) : (s.setFront p x).session d = s.session d := rfl
@[simp] theorem State.setFront_capFilter (s : State) (p : Port) (x : FrontEnd) (d : CapInput) : (s.setFront p x).capFilter d = s.capFilter d := rfl
@[simp] theorem State.setFront_arm (s : State) (p : Port) (x : FrontEnd) (d : Port) (j : CapInput) : (s.setFront p x).arm d j = s.arm d j := rfl

@[simp] theorem State.setCapFilter_pending (s : State) (i : CapInput) (x : CapFilter) : (s.setCapFilter i x).pending = s.pending := rfl
@[simp] theorem State.setCapFilter_now (s : State) (i : CapInput) (x : CapFilter) : (s.setCapFilter i x).now = s.now := rfl
@[simp] theorem State.setCapFilter_draws (s : State) (i : CapInput) (x : CapFilter) : (s.setCapFilter i x).draws = s.draws := rfl
@[simp] theorem State.setCapFilter_power (s : State) (i : CapInput) (x : CapFilter) : (s.setCapFilter i x).power = s.power := rfl
@[simp] theorem State.setCapFilter_resetSource (s : State) (i : CapInput) (x : CapFilter) : (s.setCapFilter i x).resetSource = s.resetSource := rfl
@[simp] theorem State.setCapFilter_resetRun (s : State) (i : CapInput) (x : CapFilter) : (s.setCapFilter i x).resetRun = s.resetRun := rfl
@[simp] theorem State.setCapFilter_pins (s : State) (i : CapInput) (x : CapFilter) : (s.setCapFilter i x).pins = s.pins := rfl
@[simp] theorem State.setCapFilter_straps (s : State) (i : CapInput) (x : CapFilter) : (s.setCapFilter i x).straps = s.straps := rfl
@[simp] theorem State.setCapFilter_ltb (s : State) (i : CapInput) (x : CapFilter) : (s.setCapFilter i x).ltb = s.ltb := rfl
@[simp] theorem State.setCapFilter_filterA (s : State) (i : CapInput) (x : CapFilter) : (s.setCapFilter i x).filterA = s.filterA := rfl
@[simp] theorem State.setCapFilter_filterB (s : State) (i : CapInput) (x : CapFilter) : (s.setCapFilter i x).filterB = s.filterB := rfl
@[simp] theorem State.setCapFilter_monA (s : State) (i : CapInput) (x : CapFilter) : (s.setCapFilter i x).monA = s.monA := rfl
@[simp] theorem State.setCapFilter_monB (s : State) (i : CapInput) (x : CapFilter) : (s.setCapFilter i x).monB = s.monB := rfl
@[simp] theorem State.setCapFilter_sel (s : State) (i : CapInput) (x : CapFilter) : (s.setCapFilter i x).sel = s.sel := rfl
@[simp] theorem State.setCapFilter_sched (s : State) (i : CapInput) (x : CapFilter) : (s.setCapFilter i x).sched = s.sched := rfl
@[simp] theorem State.setCapFilter_chans (s : State) (i : CapInput) (x : CapFilter) : (s.setCapFilter i x).chans = s.chans := rfl
@[simp] theorem State.setCapFilter_groups (s : State) (i : CapInput) (x : CapFilter) : (s.setCapFilter i x).groups = s.groups := rfl
@[simp] theorem State.setCapFilter_supply (s : State) (i : CapInput) (x : CapFilter) : (s.setCapFilter i x).supply = s.supply := rfl
@[simp] theorem State.setCapFilter_sessions (s : State) (i : CapInput) (x : CapFilter) : (s.setCapFilter i x).sessions = s.sessions := rfl
@[simp] theorem State.setCapFilter_arms (s : State) (i : CapInput) (x : CapFilter) : (s.setCapFilter i x).arms = s.arms := rfl
@[simp] theorem State.setCapFilter_fronts (s : State) (i : CapInput) (x : CapFilter) : (s.setCapFilter i x).fronts = s.fronts := rfl
@[simp] theorem State.setCapFilter_receiver (s : State) (i : CapInput) (x : CapFilter) : (s.setCapFilter i x).receiver = s.receiver := rfl
@[simp] theorem State.setCapFilter_sending (s : State) (i : CapInput) (x : CapFilter) : (s.setCapFilter i x).sending = s.sending := rfl
@[simp] theorem State.setCapFilter_hp1Out (s : State) (i : CapInput) (x : CapFilter) : (s.setCapFilter i x).hp1Out = s.hp1Out := rfl
@[simp] theorem State.setCapFilter_hp1Acks (s : State) (i : CapInput) (x : CapFilter) : (s.setCapFilter i x).hp1Acks = s.hp1Acks := rfl
@[simp] theorem State.setCapFilter_hp2Out (s : State) (i : CapInput) (x : CapFilter) : (s.setCapFilter i x).hp2Out = s.hp2Out := rfl
@[simp] theorem State.setCapFilter_hp1Bus (s : State) (i : CapInput) (x : CapFilter) : (s.setCapFilter i x).hp1Bus = s.hp1Bus := rfl
@[simp] theorem State.setCapFilter_hp2Bus (s : State) (i : CapInput) (x : CapFilter) : (s.setCapFilter i x).hp2Bus = s.hp2Bus := rfl
@[simp] theorem State.setCapFilter_chan (s : State) (i : CapInput) (x : CapFilter) (d : Chan) : (s.setCapFilter i x).chan d = s.chan d := rfl
@[simp] theorem State.setCapFilter_group (s : State) (i : CapInput) (x : CapFilter) (d : GroupId) : (s.setCapFilter i x).group d = s.group d := rfl
@[simp] theorem State.setCapFilter_session (s : State) (i : CapInput) (x : CapFilter) (d : Port) : (s.setCapFilter i x).session d = s.session d := rfl
@[simp] theorem State.setCapFilter_front (s : State) (i : CapInput) (x : CapFilter) (d : Port) : (s.setCapFilter i x).front d = s.front d := rfl
@[simp] theorem State.setCapFilter_arm (s : State) (i : CapInput) (x : CapFilter) (d : Port) (j : CapInput) : (s.setCapFilter i x).arm d j = s.arm d j := rfl

@[simp] theorem State.setArm_pending (s : State) (p : Port) (i : CapInput) (x : Arm) : (s.setArm p i x).pending = s.pending := rfl
@[simp] theorem State.setArm_now (s : State) (p : Port) (i : CapInput) (x : Arm) : (s.setArm p i x).now = s.now := rfl
@[simp] theorem State.setArm_draws (s : State) (p : Port) (i : CapInput) (x : Arm) : (s.setArm p i x).draws = s.draws := rfl
@[simp] theorem State.setArm_power (s : State) (p : Port) (i : CapInput) (x : Arm) : (s.setArm p i x).power = s.power := rfl
@[simp] theorem State.setArm_resetSource (s : State) (p : Port) (i : CapInput) (x : Arm) : (s.setArm p i x).resetSource = s.resetSource := rfl
@[simp] theorem State.setArm_resetRun (s : State) (p : Port) (i : CapInput) (x : Arm) : (s.setArm p i x).resetRun = s.resetRun := rfl
@[simp] theorem State.setArm_pins (s : State) (p : Port) (i : CapInput) (x : Arm) : (s.setArm p i x).pins = s.pins := rfl
@[simp] theorem State.setArm_straps (s : State) (p : Port) (i : CapInput) (x : Arm) : (s.setArm p i x).straps = s.straps := rfl
@[simp] theorem State.setArm_ltb (s : State) (p : Port) (i : CapInput) (x : Arm) : (s.setArm p i x).ltb = s.ltb := rfl
@[simp] theorem State.setArm_filterA (s : State) (p : Port) (i : CapInput) (x : Arm) : (s.setArm p i x).filterA = s.filterA := rfl
@[simp] theorem State.setArm_filterB (s : State) (p : Port) (i : CapInput) (x : Arm) : (s.setArm p i x).filterB = s.filterB := rfl
@[simp] theorem State.setArm_monA (s : State) (p : Port) (i : CapInput) (x : Arm) : (s.setArm p i x).monA = s.monA := rfl
@[simp] theorem State.setArm_monB (s : State) (p : Port) (i : CapInput) (x : Arm) : (s.setArm p i x).monB = s.monB := rfl
@[simp] theorem State.setArm_sel (s : State) (p : Port) (i : CapInput) (x : Arm) : (s.setArm p i x).sel = s.sel := rfl
@[simp] theorem State.setArm_sched (s : State) (p : Port) (i : CapInput) (x : Arm) : (s.setArm p i x).sched = s.sched := rfl
@[simp] theorem State.setArm_chans (s : State) (p : Port) (i : CapInput) (x : Arm) : (s.setArm p i x).chans = s.chans := rfl
@[simp] theorem State.setArm_groups (s : State) (p : Port) (i : CapInput) (x : Arm) : (s.setArm p i x).groups = s.groups := rfl
@[simp] theorem State.setArm_supply (s : State) (p : Port) (i : CapInput) (x : Arm) : (s.setArm p i x).supply = s.supply := rfl
@[simp] theorem State.setArm_sessions (s : State) (p : Port) (i : CapInput) (x : Arm) : (s.setArm p i x).sessions = s.sessions := rfl
@[simp] theorem State.setArm_capFilters (s : State) (p : Port) (i : CapInput) (x : Arm) : (s.setArm p i x).capFilters = s.capFilters := rfl
@[simp] theorem State.setArm_fronts (s : State) (p : Port) (i : CapInput) (x : Arm) : (s.setArm p i x).fronts = s.fronts := rfl
@[simp] theorem State.setArm_receiver (s : State) (p : Port) (i : CapInput) (x : Arm) : (s.setArm p i x).receiver = s.receiver := rfl
@[simp] theorem State.setArm_sending (s : State) (p : Port) (i : CapInput) (x : Arm) : (s.setArm p i x).sending = s.sending := rfl
@[simp] theorem State.setArm_hp1Out (s : State) (p : Port) (i : CapInput) (x : Arm) : (s.setArm p i x).hp1Out = s.hp1Out := rfl
@[simp] theorem State.setArm_hp1Acks (s : State) (p : Port) (i : CapInput) (x : Arm) : (s.setArm p i x).hp1Acks = s.hp1Acks := rfl
@[simp] theorem State.setArm_hp2Out (s : State) (p : Port) (i : CapInput) (x : Arm) : (s.setArm p i x).hp2Out = s.hp2Out := rfl
@[simp] theorem State.setArm_hp1Bus (s : State) (p : Port) (i : CapInput) (x : Arm) : (s.setArm p i x).hp1Bus = s.hp1Bus := rfl
@[simp] theorem State.setArm_hp2Bus (s : State) (p : Port) (i : CapInput) (x : Arm) : (s.setArm p i x).hp2Bus = s.hp2Bus := rfl
@[simp] theorem State.setArm_chan (s : State) (p : Port) (i : CapInput) (x : Arm) (d : Chan) : (s.setArm p i x).chan d = s.chan d := rfl
@[simp] theorem State.setArm_group (s : State) (p : Port) (i : CapInput) (x : Arm) (d : GroupId) : (s.setArm p i x).group d = s.group d := rfl
@[simp] theorem State.setArm_session (s : State) (p : Port) (i : CapInput) (x : Arm) (d : Port) : (s.setArm p i x).session d = s.session d := rfl
@[simp] theorem State.setArm_front (s : State) (p : Port) (i : CapInput) (x : Arm) (d : Port) : (s.setArm p i x).front d = s.front d := rfl
@[simp] theorem State.setArm_capFilter (s : State) (p : Port) (i : CapInput) (x : Arm) (d : CapInput) : (s.setArm p i x).capFilter d = s.capFilter d := rfl

@[simp] theorem State.setMonitor_pending (s : State) (r : RefId) (x : Monitor) : (s.setMonitor r x).pending = s.pending := by
  cases r <;> rfl
@[simp] theorem State.setMonitor_now (s : State) (r : RefId) (x : Monitor) : (s.setMonitor r x).now = s.now := by
  cases r <;> rfl
@[simp] theorem State.setMonitor_draws (s : State) (r : RefId) (x : Monitor) : (s.setMonitor r x).draws = s.draws := by
  cases r <;> rfl
@[simp] theorem State.setMonitor_power (s : State) (r : RefId) (x : Monitor) : (s.setMonitor r x).power = s.power := by
  cases r <;> rfl
@[simp] theorem State.setMonitor_resetSource (s : State) (r : RefId) (x : Monitor) : (s.setMonitor r x).resetSource = s.resetSource := by
  cases r <;> rfl
@[simp] theorem State.setMonitor_resetRun (s : State) (r : RefId) (x : Monitor) : (s.setMonitor r x).resetRun = s.resetRun := by
  cases r <;> rfl
@[simp] theorem State.setMonitor_pins (s : State) (r : RefId) (x : Monitor) : (s.setMonitor r x).pins = s.pins := by
  cases r <;> rfl
@[simp] theorem State.setMonitor_straps (s : State) (r : RefId) (x : Monitor) : (s.setMonitor r x).straps = s.straps := by
  cases r <;> rfl
@[simp] theorem State.setMonitor_ltb (s : State) (r : RefId) (x : Monitor) : (s.setMonitor r x).ltb = s.ltb := by
  cases r <;> rfl
@[simp] theorem State.setMonitor_filterA (s : State) (r : RefId) (x : Monitor) : (s.setMonitor r x).filterA = s.filterA := by
  cases r <;> rfl
@[simp] theorem State.setMonitor_filterB (s : State) (r : RefId) (x : Monitor) : (s.setMonitor r x).filterB = s.filterB := by
  cases r <;> rfl
@[simp] theorem State.setMonitor_sel (s : State) (r : RefId) (x : Monitor) : (s.setMonitor r x).sel = s.sel := by
  cases r <;> rfl
@[simp] theorem State.setMonitor_sched (s : State) (r : RefId) (x : Monitor) : (s.setMonitor r x).sched = s.sched := by
  cases r <;> rfl
@[simp] theorem State.setMonitor_chans (s : State) (r : RefId) (x : Monitor) : (s.setMonitor r x).chans = s.chans := by
  cases r <;> rfl
@[simp] theorem State.setMonitor_groups (s : State) (r : RefId) (x : Monitor) : (s.setMonitor r x).groups = s.groups := by
  cases r <;> rfl
@[simp] theorem State.setMonitor_supply (s : State) (r : RefId) (x : Monitor) : (s.setMonitor r x).supply = s.supply := by
  cases r <;> rfl
@[simp] theorem State.setMonitor_sessions (s : State) (r : RefId) (x : Monitor) : (s.setMonitor r x).sessions = s.sessions := by
  cases r <;> rfl
@[simp] theorem State.setMonitor_capFilters (s : State) (r : RefId) (x : Monitor) : (s.setMonitor r x).capFilters = s.capFilters := by
  cases r <;> rfl
@[simp] theorem State.setMonitor_arms (s : State) (r : RefId) (x : Monitor) : (s.setMonitor r x).arms = s.arms := by
  cases r <;> rfl
@[simp] theorem State.setMonitor_fronts (s : State) (r : RefId) (x : Monitor) : (s.setMonitor r x).fronts = s.fronts := by
  cases r <;> rfl
@[simp] theorem State.setMonitor_receiver (s : State) (r : RefId) (x : Monitor) : (s.setMonitor r x).receiver = s.receiver := by
  cases r <;> rfl
@[simp] theorem State.setMonitor_sending (s : State) (r : RefId) (x : Monitor) : (s.setMonitor r x).sending = s.sending := by
  cases r <;> rfl
@[simp] theorem State.setMonitor_hp1Out (s : State) (r : RefId) (x : Monitor) : (s.setMonitor r x).hp1Out = s.hp1Out := by
  cases r <;> rfl
@[simp] theorem State.setMonitor_hp1Acks (s : State) (r : RefId) (x : Monitor) : (s.setMonitor r x).hp1Acks = s.hp1Acks := by
  cases r <;> rfl
@[simp] theorem State.setMonitor_hp2Out (s : State) (r : RefId) (x : Monitor) : (s.setMonitor r x).hp2Out = s.hp2Out := by
  cases r <;> rfl
@[simp] theorem State.setMonitor_hp1Bus (s : State) (r : RefId) (x : Monitor) : (s.setMonitor r x).hp1Bus = s.hp1Bus := by
  cases r <;> rfl
@[simp] theorem State.setMonitor_hp2Bus (s : State) (r : RefId) (x : Monitor) : (s.setMonitor r x).hp2Bus = s.hp2Bus := by
  cases r <;> rfl
@[simp] theorem State.setMonitor_chan (s : State) (r : RefId) (x : Monitor) (d : Chan) : (s.setMonitor r x).chan d = s.chan d := by
  cases r <;> rfl
@[simp] theorem State.setMonitor_group (s : State) (r : RefId) (x : Monitor) (d : GroupId) : (s.setMonitor r x).group d = s.group d := by
  cases r <;> rfl
@[simp] theorem State.setMonitor_session (s : State) (r : RefId) (x : Monitor) (d : Port) : (s.setMonitor r x).session d = s.session d := by
  cases r <;> rfl
@[simp] theorem State.setMonitor_front (s : State) (r : RefId) (x : Monitor) (d : Port) : (s.setMonitor r x).front d = s.front d := by
  cases r <;> rfl
@[simp] theorem State.setMonitor_capFilter (s : State) (r : RefId) (x : Monitor) (d : CapInput) : (s.setMonitor r x).capFilter d = s.capFilter d := by
  cases r <;> rfl
@[simp] theorem State.setMonitor_arm (s : State) (r : RefId) (x : Monitor) (d : Port) (j : CapInput) : (s.setMonitor r x).arm d j = s.arm d j := by
  cases r <;> rfl

@[simp] theorem State.setRefFilter_pending (s : State) (r : RefId) (x : RefFilter) : (s.setRefFilter r x).pending = s.pending := by
  cases r <;> rfl
@[simp] theorem State.setRefFilter_now (s : State) (r : RefId) (x : RefFilter) : (s.setRefFilter r x).now = s.now := by
  cases r <;> rfl
@[simp] theorem State.setRefFilter_draws (s : State) (r : RefId) (x : RefFilter) : (s.setRefFilter r x).draws = s.draws := by
  cases r <;> rfl
@[simp] theorem State.setRefFilter_power (s : State) (r : RefId) (x : RefFilter) : (s.setRefFilter r x).power = s.power := by
  cases r <;> rfl
@[simp] theorem State.setRefFilter_resetSource (s : State) (r : RefId) (x : RefFilter) : (s.setRefFilter r x).resetSource = s.resetSource := by
  cases r <;> rfl
@[simp] theorem State.setRefFilter_resetRun (s : State) (r : RefId) (x : RefFilter) : (s.setRefFilter r x).resetRun = s.resetRun := by
  cases r <;> rfl
@[simp] theorem State.setRefFilter_pins (s : State) (r : RefId) (x : RefFilter) : (s.setRefFilter r x).pins = s.pins := by
  cases r <;> rfl
@[simp] theorem State.setRefFilter_straps (s : State) (r : RefId) (x : RefFilter) : (s.setRefFilter r x).straps = s.straps := by
  cases r <;> rfl
@[simp] theorem State.setRefFilter_ltb (s : State) (r : RefId) (x : RefFilter) : (s.setRefFilter r x).ltb = s.ltb := by
  cases r <;> rfl
@[simp] theorem State.setRefFilter_monA (s : State) (r : RefId) (x : RefFilter) : (s.setRefFilter r x).monA = s.monA := by
  cases r <;> rfl
@[simp] theorem State.setRefFilter_monB (s : State) (r : RefId) (x : RefFilter) : (s.setRefFilter r x).monB = s.monB := by
  cases r <;> rfl
@[simp] theorem State.setRefFilter_sel (s : State) (r : RefId) (x : RefFilter) : (s.setRefFilter r x).sel = s.sel := by
  cases r <;> rfl
@[simp] theorem State.setRefFilter_sched (s : State) (r : RefId) (x : RefFilter) : (s.setRefFilter r x).sched = s.sched := by
  cases r <;> rfl
@[simp] theorem State.setRefFilter_chans (s : State) (r : RefId) (x : RefFilter) : (s.setRefFilter r x).chans = s.chans := by
  cases r <;> rfl
@[simp] theorem State.setRefFilter_groups (s : State) (r : RefId) (x : RefFilter) : (s.setRefFilter r x).groups = s.groups := by
  cases r <;> rfl
@[simp] theorem State.setRefFilter_supply (s : State) (r : RefId) (x : RefFilter) : (s.setRefFilter r x).supply = s.supply := by
  cases r <;> rfl
@[simp] theorem State.setRefFilter_sessions (s : State) (r : RefId) (x : RefFilter) : (s.setRefFilter r x).sessions = s.sessions := by
  cases r <;> rfl
@[simp] theorem State.setRefFilter_capFilters (s : State) (r : RefId) (x : RefFilter) : (s.setRefFilter r x).capFilters = s.capFilters := by
  cases r <;> rfl
@[simp] theorem State.setRefFilter_arms (s : State) (r : RefId) (x : RefFilter) : (s.setRefFilter r x).arms = s.arms := by
  cases r <;> rfl
@[simp] theorem State.setRefFilter_fronts (s : State) (r : RefId) (x : RefFilter) : (s.setRefFilter r x).fronts = s.fronts := by
  cases r <;> rfl
@[simp] theorem State.setRefFilter_receiver (s : State) (r : RefId) (x : RefFilter) : (s.setRefFilter r x).receiver = s.receiver := by
  cases r <;> rfl
@[simp] theorem State.setRefFilter_sending (s : State) (r : RefId) (x : RefFilter) : (s.setRefFilter r x).sending = s.sending := by
  cases r <;> rfl
@[simp] theorem State.setRefFilter_hp1Out (s : State) (r : RefId) (x : RefFilter) : (s.setRefFilter r x).hp1Out = s.hp1Out := by
  cases r <;> rfl
@[simp] theorem State.setRefFilter_hp1Acks (s : State) (r : RefId) (x : RefFilter) : (s.setRefFilter r x).hp1Acks = s.hp1Acks := by
  cases r <;> rfl
@[simp] theorem State.setRefFilter_hp2Out (s : State) (r : RefId) (x : RefFilter) : (s.setRefFilter r x).hp2Out = s.hp2Out := by
  cases r <;> rfl
@[simp] theorem State.setRefFilter_hp1Bus (s : State) (r : RefId) (x : RefFilter) : (s.setRefFilter r x).hp1Bus = s.hp1Bus := by
  cases r <;> rfl
@[simp] theorem State.setRefFilter_hp2Bus (s : State) (r : RefId) (x : RefFilter) : (s.setRefFilter r x).hp2Bus = s.hp2Bus := by
  cases r <;> rfl
@[simp] theorem State.setRefFilter_chan (s : State) (r : RefId) (x : RefFilter) (d : Chan) : (s.setRefFilter r x).chan d = s.chan d := by
  cases r <;> rfl
@[simp] theorem State.setRefFilter_group (s : State) (r : RefId) (x : RefFilter) (d : GroupId) : (s.setRefFilter r x).group d = s.group d := by
  cases r <;> rfl
@[simp] theorem State.setRefFilter_session (s : State) (r : RefId) (x : RefFilter) (d : Port) : (s.setRefFilter r x).session d = s.session d := by
  cases r <;> rfl
@[simp] theorem State.setRefFilter_front (s : State) (r : RefId) (x : RefFilter) (d : Port) : (s.setRefFilter r x).front d = s.front d := by
  cases r <;> rfl
@[simp] theorem State.setRefFilter_capFilter (s : State) (r : RefId) (x : RefFilter) (d : CapInput) : (s.setRefFilter r x).capFilter d = s.capFilter d := by
  cases r <;> rfl
@[simp] theorem State.setRefFilter_arm (s : State) (r : RefId) (x : RefFilter) (d : Port) (j : CapInput) : (s.setRefFilter r x).arm d j = s.arm d j := by
  cases r <;> rfl

end Sys2Proof.Machine
end

