-- ==== Sys2Proof/Laws/Ops.lean ====
section
/-! SUPPORT. What each shared operation of Ops.lean can do, said once: notices, the placing of records, free orders. -/

namespace Sys2Proof.Machine

/-! ## The three session records -/

@[simp] theorem State.eachSession_session (f : Session → Session) (s : State) (p : Port) :
    (s.eachSession f).session p = f (s.session p) := by
  fin_cases p <;> simp [State.eachSession, State.setSession_session]

@[simp] theorem State.setNotice_session (f : Notices → Notices) (s : State) (p : Port) :
    (s.setNotice f).session p = { s.session p with notices := f (s.session p).notices } := by
  simp [State.setNotice]

theorem State.handTo_session (p : Port) (pos : Pos) (body : EventBody) (s : State) (q : Port) :
    (s.handTo p pos body).session q =
      if p = q ∧ (s.session p).attached = true then placeIn pos body (s.session q) else s.session q := by
  unfold State.handTo
  by_cases h : (s.session p).attached = true
  · by_cases e : p = q
    · subst e; simp [h]
    · simp [h, e, State.setSession_session]
  · simp [h]

@[simp] theorem State.handToEach_session (meets : Session → Bool) (pos : Pos) (body : EventBody) (s : State) (p : Port) :
    (s.handToEach meets pos body).session p =
      if ((s.session p).attached && meets (s.session p)) = true then placeIn pos body (s.session p) else s.session p := by
  simp [State.handToEach]

/-! ## Nothing but the session records changes -/

@[simp] theorem State.eachSession_pending (f : Session → Session) (s : State) : (s.eachSession f).pending = s.pending := rfl
@[simp] theorem State.setNotice_pending (f : Notices → Notices) (s : State) : (s.setNotice f).pending = s.pending := rfl
@[simp] theorem State.handToEach_pending (m : Session → Bool) (pos : Pos) (b : EventBody) (s : State) :
    (s.handToEach m pos b).pending = s.pending := rfl
@[simp] theorem State.handTo_pending (p : Port) (pos : Pos) (b : EventBody) (s : State) :
    (s.handTo p pos b).pending = s.pending := by
  unfold State.handTo; split <;> rfl
@[simp] theorem State.handToOwner_pending (p : Option Port) (pos : Pos) (b : EventBody) (s : State) :
    (s.handToOwner p pos b).pending = s.pending := by
  cases p <;> simp [State.handToOwner]
@[simp] theorem State.eachSession_now (f : Session → Session) (s : State) : (s.eachSession f).now = s.now := rfl
@[simp] theorem State.setNotice_now (f : Notices → Notices) (s : State) : (s.setNotice f).now = s.now := rfl
@[simp] theorem State.handToEach_now (m : Session → Bool) (pos : Pos) (b : EventBody) (s : State) :
    (s.handToEach m pos b).now = s.now := rfl
@[simp] theorem State.handTo_now (p : Port) (pos : Pos) (b : EventBody) (s : State) :
    (s.handTo p pos b).now = s.now := by
  unfold State.handTo; split <;> rfl
@[simp] theorem State.handToOwner_now (p : Option Port) (pos : Pos) (b : EventBody) (s : State) :
    (s.handToOwner p pos b).now = s.now := by
  cases p <;> simp [State.handToOwner]
@[simp] theorem State.eachSession_draws (f : Session → Session) (s : State) : (s.eachSession f).draws = s.draws := rfl
@[simp] theorem State.setNotice_draws (f : Notices → Notices) (s : State) : (s.setNotice f).draws = s.draws := rfl
@[simp] theorem State.handToEach_draws (m : Session → Bool) (pos : Pos) (b : EventBody) (s : State) :
    (s.handToEach m pos b).draws = s.draws := rfl
@[simp] theorem State.handTo_draws (p : Port) (pos : Pos) (b : EventBody) (s : State) :
    (s.handTo p pos b).draws = s.draws := by
  unfold State.handTo; split <;> rfl
@[simp] theorem State.handToOwner_draws (p : Option Port) (pos : Pos) (b : EventBody) (s : State) :
    (s.handToOwner p pos b).draws = s.draws := by
  cases p <;> simp [State.handToOwner]
@[simp] theorem State.eachSession_power (f : Session → Session) (s : State) : (s.eachSession f).power = s.power := rfl
@[simp] theorem State.setNotice_power (f : Notices → Notices) (s : State) : (s.setNotice f).power = s.power := rfl
@[simp] theorem State.handToEach_power (m : Session → Bool) (pos : Pos) (b : EventBody) (s : State) :
    (s.handToEach m pos b).power = s.power := rfl
@[simp] theorem State.handTo_power (p : Port) (pos : Pos) (b : EventBody) (s : State) :
    (s.handTo p pos b).power = s.power := by
  unfold State.handTo; split <;> rfl
@[simp] theorem State.handToOwner_power (p : Option Port) (pos : Pos) (b : EventBody) (s : State) :
    (s.handToOwner p pos b).power = s.power := by
  cases p <;> simp [State.handToOwner]
@[simp] theorem State.eachSession_resetSource (f : Session → Session) (s : State) : (s.eachSession f).resetSource = s.resetSource := rfl
@[simp] theorem State.setNotice_resetSource (f : Notices → Notices) (s : State) : (s.setNotice f).resetSource = s.resetSource := rfl
@[simp] theorem State.handToEach_resetSource (m : Session → Bool) (pos : Pos) (b : EventBody) (s : State) :
    (s.handToEach m pos b).resetSource = s.resetSource := rfl
@[simp] theorem State.handTo_resetSource (p : Port) (pos : Pos) (b : EventBody) (s : State) :
    (s.handTo p pos b).resetSource = s.resetSource := by
  unfold State.handTo; split <;> rfl
@[simp] theorem State.handToOwner_resetSource (p : Option Port) (pos : Pos) (b : EventBody) (s : State) :
    (s.handToOwner p pos b).resetSource = s.resetSource := by
  cases p <;> simp [State.handToOwner]
@[simp] theorem State.eachSession_resetRun (f : Session → Session) (s : State) : (s.eachSession f).resetRun = s.resetRun := rfl
@[simp] theorem State.setNotice_resetRun (f : Notices → Notices) (s : State) : (s.setNotice f).resetRun = s.resetRun := rfl
@[simp] theorem State.handToEach_resetRun (m : Session → Bool) (pos : Pos) (b : EventBody) (s : State) :
    (s.handToEach m pos b).resetRun = s.resetRun := rfl
@[simp] theorem State.handTo_resetRun (p : Port) (pos : Pos) (b : EventBody) (s : State) :
    (s.handTo p pos b).resetRun = s.resetRun := by
  unfold State.handTo; split <;> rfl
@[simp] theorem State.handToOwner_resetRun (p : Option Port) (pos : Pos) (b : EventBody) (s : State) :
    (s.handToOwner p pos b).resetRun = s.resetRun := by
  cases p <;> simp [State.handToOwner]
@[simp] theorem State.eachSession_pins (f : Session → Session) (s : State) : (s.eachSession f).pins = s.pins := rfl
@[simp] theorem State.setNotice_pins (f : Notices → Notices) (s : State) : (s.setNotice f).pins = s.pins := rfl
@[simp] theorem State.handToEach_pins (m : Session → Bool) (pos : Pos) (b : EventBody) (s : State) :
    (s.handToEach m pos b).pins = s.pins := rfl
@[simp] theorem State.handTo_pins (p : Port) (pos : Pos) (b : EventBody) (s : State) :
    (s.handTo p pos b).pins = s.pins := by
  unfold State.handTo; split <;> rfl
@[simp] theorem State.handToOwner_pins (p : Option Port) (pos : Pos) (b : EventBody) (s : State) :
    (s.handToOwner p pos b).pins = s.pins := by
  cases p <;> simp [State.handToOwner]
@[simp] theorem State.eachSession_straps (f : Session → Session) (s : State) : (s.eachSession f).straps = s.straps := rfl
@[simp] theorem State.setNotice_straps (f : Notices → Notices) (s : State) : (s.setNotice f).straps = s.straps := rfl
@[simp] theorem State.handToEach_straps (m : Session → Bool) (pos : Pos) (b : EventBody) (s : State) :
    (s.handToEach m pos b).straps = s.straps := rfl
@[simp] theorem State.handTo_straps (p : Port) (pos : Pos) (b : EventBody) (s : State) :
    (s.handTo p pos b).straps = s.straps := by
  unfold State.handTo; split <;> rfl
@[simp] theorem State.handToOwner_straps (p : Option Port) (pos : Pos) (b : EventBody) (s : State) :
    (s.handToOwner p pos b).straps = s.straps := by
  cases p <;> simp [State.handToOwner]
@[simp] theorem State.eachSession_ltb (f : Session → Session) (s : State) : (s.eachSession f).ltb = s.ltb := rfl
@[simp] theorem State.setNotice_ltb (f : Notices → Notices) (s : State) : (s.setNotice f).ltb = s.ltb := rfl
@[simp] theorem State.handToEach_ltb (m : Session → Bool) (pos : Pos) (b : EventBody) (s : State) :
    (s.handToEach m pos b).ltb = s.ltb := rfl
@[simp] theorem State.handTo_ltb (p : Port) (pos : Pos) (b : EventBody) (s : State) :
    (s.handTo p pos b).ltb = s.ltb := by
  unfold State.handTo; split <;> rfl
@[simp] theorem State.handToOwner_ltb (p : Option Port) (pos : Pos) (b : EventBody) (s : State) :
    (s.handToOwner p pos b).ltb = s.ltb := by
  cases p <;> simp [State.handToOwner]
@[simp] theorem State.eachSession_filterA (f : Session → Session) (s : State) : (s.eachSession f).filterA = s.filterA := rfl
@[simp] theorem State.setNotice_filterA (f : Notices → Notices) (s : State) : (s.setNotice f).filterA = s.filterA := rfl
@[simp] theorem State.handToEach_filterA (m : Session → Bool) (pos : Pos) (b : EventBody) (s : State) :
    (s.handToEach m pos b).filterA = s.filterA := rfl
@[simp] theorem State.handTo_filterA (p : Port) (pos : Pos) (b : EventBody) (s : State) :
    (s.handTo p pos b).filterA = s.filterA := by
  unfold State.handTo; split <;> rfl
@[simp] theorem State.handToOwner_filterA (p : Option Port) (pos : Pos) (b : EventBody) (s : State) :
    (s.handToOwner p pos b).filterA = s.filterA := by
  cases p <;> simp [State.handToOwner]
@[simp] theorem State.eachSession_filterB (f : Session → Session) (s : State) : (s.eachSession f).filterB = s.filterB := rfl
@[simp] theorem State.setNotice_filterB (f : Notices → Notices) (s : State) : (s.setNotice f).filterB = s.filterB := rfl
@[simp] theorem State.handToEach_filterB (m : Session → Bool) (pos : Pos) (b : EventBody) (s : State) :
    (s.handToEach m pos b).filterB = s.filterB := rfl
@[simp] theorem State.handTo_filterB (p : Port) (pos : Pos) (b : EventBody) (s : State) :
    (s.handTo p pos b).filterB = s.filterB := by
  unfold State.handTo; split <;> rfl
@[simp] theorem State.handToOwner_filterB (p : Option Port) (pos : Pos) (b : EventBody) (s : State) :
    (s.handToOwner p pos b).filterB = s.filterB := by
  cases p <;> simp [State.handToOwner]
@[simp] theorem State.eachSession_monA (f : Session → Session) (s : State) : (s.eachSession f).monA = s.monA := rfl
@[simp] theorem State.setNotice_monA (f : Notices → Notices) (s : State) : (s.setNotice f).monA = s.monA := rfl
@[simp] theorem State.handToEach_monA (m : Session → Bool) (pos : Pos) (b : EventBody) (s : State) :
    (s.handToEach m pos b).monA = s.monA := rfl
@[simp] theorem State.handTo_monA (p : Port) (pos : Pos) (b : EventBody) (s : State) :
    (s.handTo p pos b).monA = s.monA := by
  unfold State.handTo; split <;> rfl
@[simp] theorem State.handToOwner_monA (p : Option Port) (pos : Pos) (b : EventBody) (s : State) :
    (s.handToOwner p pos b).monA = s.monA := by
  cases p <;> simp [State.handToOwner]
@[simp] theorem State.eachSession_monB (f : Session → Session) (s : State) : (s.eachSession f).monB = s.monB := rfl
@[simp] theorem State.setNotice_monB (f : Notices → Notices) (s : State) : (s.setNotice f).monB = s.monB := rfl
@[simp] theorem State.handToEach_monB (m : Session → Bool) (pos : Pos) (b : EventBody) (s : State) :
    (s.handToEach m pos b).monB = s.monB := rfl
@[simp] theorem State.handTo_monB (p : Port) (pos : Pos) (b : EventBody) (s : State) :
    (s.handTo p pos b).monB = s.monB := by
  unfold State.handTo; split <;> rfl
@[simp] theorem State.handToOwner_monB (p : Option Port) (pos : Pos) (b : EventBody) (s : State) :
    (s.handToOwner p pos b).monB = s.monB := by
  cases p <;> simp [State.handToOwner]
@[simp] theorem State.eachSession_sel (f : Session → Session) (s : State) : (s.eachSession f).sel = s.sel := rfl
@[simp] theorem State.setNotice_sel (f : Notices → Notices) (s : State) : (s.setNotice f).sel = s.sel := rfl
@[simp] theorem State.handToEach_sel (m : Session → Bool) (pos : Pos) (b : EventBody) (s : State) :
    (s.handToEach m pos b).sel = s.sel := rfl
@[simp] theorem State.handTo_sel (p : Port) (pos : Pos) (b : EventBody) (s : State) :
    (s.handTo p pos b).sel = s.sel := by
  unfold State.handTo; split <;> rfl
@[simp] theorem State.handToOwner_sel (p : Option Port) (pos : Pos) (b : EventBody) (s : State) :
    (s.handToOwner p pos b).sel = s.sel := by
  cases p <;> simp [State.handToOwner]
@[simp] theorem State.eachSession_sched (f : Session → Session) (s : State) : (s.eachSession f).sched = s.sched := rfl
@[simp] theorem State.setNotice_sched (f : Notices → Notices) (s : State) : (s.setNotice f).sched = s.sched := rfl
@[simp] theorem State.handToEach_sched (m : Session → Bool) (pos : Pos) (b : EventBody) (s : State) :
    (s.handToEach m pos b).sched = s.sched := rfl
@[simp] theorem State.handTo_sched (p : Port) (pos : Pos) (b : EventBody) (s : State) :
    (s.handTo p pos b).sched = s.sched := by
  unfold State.handTo; split <;> rfl
@[simp] theorem State.handToOwner_sched (p : Option Port) (pos : Pos) (b : EventBody) (s : State) :
    (s.handToOwner p pos b).sched = s.sched := by
  cases p <;> simp [State.handToOwner]
@[simp] theorem State.eachSession_chans (f : Session → Session) (s : State) : (s.eachSession f).chans = s.chans := rfl
@[simp] theorem State.setNotice_chans (f : Notices → Notices) (s : State) : (s.setNotice f).chans = s.chans := rfl
@[simp] theorem State.handToEach_chans (m : Session → Bool) (pos : Pos) (b : EventBody) (s : State) :
    (s.handToEach m pos b).chans = s.chans := rfl
@[simp] theorem State.handTo_chans (p : Port) (pos : Pos) (b : EventBody) (s : State) :
    (s.handTo p pos b).chans = s.chans := by
  unfold State.handTo; split <;> rfl
@[simp] theorem State.handToOwner_chans (p : Option Port) (pos : Pos) (b : EventBody) (s : State) :
    (s.handToOwner p pos b).chans = s.chans := by
  cases p <;> simp [State.handToOwner]
@[simp] theorem State.eachSession_groups (f : Session → Session) (s : State) : (s.eachSession f).groups = s.groups := rfl
@[simp] theorem State.setNotice_groups (f : Notices → Notices) (s : State) : (s.setNotice f).groups = s.groups := rfl
@[simp] theorem State.handToEach_groups (m : Session → Bool) (pos : Pos) (b : EventBody) (s : State) :
    (s.handToEach m pos b).groups = s.groups := rfl
@[simp] theorem State.handTo_groups (p : Port) (pos : Pos) (b : EventBody) (s : State) :
    (s.handTo p pos b).groups = s.groups := by
  unfold State.handTo; split <;> rfl
@[simp] theorem State.handToOwner_groups (p : Option Port) (pos : Pos) (b : EventBody) (s : State) :
    (s.handToOwner p pos b).groups = s.groups := by
  cases p <;> simp [State.handToOwner]
@[simp] theorem State.eachSession_supply (f : Session → Session) (s : State) : (s.eachSession f).supply = s.supply := rfl
@[simp] theorem State.setNotice_supply (f : Notices → Notices) (s : State) : (s.setNotice f).supply = s.supply := rfl
@[simp] theorem State.handToEach_supply (m : Session → Bool) (pos : Pos) (b : EventBody) (s : State) :
    (s.handToEach m pos b).supply = s.supply := rfl
@[simp] theorem State.handTo_supply (p : Port) (pos : Pos) (b : EventBody) (s : State) :
    (s.handTo p pos b).supply = s.supply := by
  unfold State.handTo; split <;> rfl
@[simp] theorem State.handToOwner_supply (p : Option Port) (pos : Pos) (b : EventBody) (s : State) :
    (s.handToOwner p pos b).supply = s.supply := by
  cases p <;> simp [State.handToOwner]
@[simp] theorem State.eachSession_capFilters (f : Session → Session) (s : State) : (s.eachSession f).capFilters = s.capFilters := rfl
@[simp] theorem State.setNotice_capFilters (f : Notices → Notices) (s : State) : (s.setNotice f).capFilters = s.capFilters := rfl
@[simp] theorem State.handToEach_capFilters (m : Session → Bool) (pos : Pos) (b : EventBody) (s : State) :
    (s.handToEach m pos b).capFilters = s.capFilters := rfl
@[simp] theorem State.handTo_capFilters (p : Port) (pos : Pos) (b : EventBody) (s : State) :
    (s.handTo p pos b).capFilters = s.capFilters := by
  unfold State.handTo; split <;> rfl
@[simp] theorem State.handToOwner_capFilters (p : Option Port) (pos : Pos) (b : EventBody) (s : State) :
    (s.handToOwner p pos b).capFilters = s.capFilters := by
  cases p <;> simp [State.handToOwner]
@[simp] theorem State.eachSession_arms (f : Session → Session) (s : State) : (s.eachSession f).arms = s.arms := rfl
@[simp] theorem State.setNotice_arms (f : Notices → Notices) (s : State) : (s.setNotice f).arms = s.arms := rfl
@[simp] theorem State.handToEach_arms (m : Session → Bool) (pos : Pos) (b : EventBody) (s : State) :
    (s.handToEach m pos b).arms = s.arms := rfl
@[simp] theorem State.handTo_arms (p : Port) (pos : Pos) (b : EventBody) (s : State) :
    (s.handTo p pos b).arms = s.arms := by
  unfold State.handTo; split <;> rfl
@[simp] theorem State.handToOwner_arms (p : Option Port) (pos : Pos) (b : EventBody) (s : State) :
    (s.handToOwner p pos b).arms = s.arms := by
  cases p <;> simp [State.handToOwner]
@[simp] theorem State.eachSession_fronts (f : Session → Session) (s : State) : (s.eachSession f).fronts = s.fronts := rfl
@[simp] theorem State.setNotice_fronts (f : Notices → Notices) (s : State) : (s.setNotice f).fronts = s.fronts := rfl
@[simp] theorem State.handToEach_fronts (m : Session → Bool) (pos : Pos) (b : EventBody) (s : State) :
    (s.handToEach m pos b).fronts = s.fronts := rfl
@[simp] theorem State.handTo_fronts (p : Port) (pos : Pos) (b : EventBody) (s : State) :
    (s.handTo p pos b).fronts = s.fronts := by
  unfold State.handTo; split <;> rfl
@[simp] theorem State.handToOwner_fronts (p : Option Port) (pos : Pos) (b : EventBody) (s : State) :
    (s.handToOwner p pos b).fronts = s.fronts := by
  cases p <;> simp [State.handToOwner]
@[simp] theorem State.eachSession_receiver (f : Session → Session) (s : State) : (s.eachSession f).receiver = s.receiver := rfl
@[simp] theorem State.setNotice_receiver (f : Notices → Notices) (s : State) : (s.setNotice f).receiver = s.receiver := rfl
@[simp] theorem State.handToEach_receiver (m : Session → Bool) (pos : Pos) (b : EventBody) (s : State) :
    (s.handToEach m pos b).receiver = s.receiver := rfl
@[simp] theorem State.handTo_receiver (p : Port) (pos : Pos) (b : EventBody) (s : State) :
    (s.handTo p pos b).receiver = s.receiver := by
  unfold State.handTo; split <;> rfl
@[simp] theorem State.handToOwner_receiver (p : Option Port) (pos : Pos) (b : EventBody) (s : State) :
    (s.handToOwner p pos b).receiver = s.receiver := by
  cases p <;> simp [State.handToOwner]
@[simp] theorem State.eachSession_sending (f : Session → Session) (s : State) : (s.eachSession f).sending = s.sending := rfl
@[simp] theorem State.setNotice_sending (f : Notices → Notices) (s : State) : (s.setNotice f).sending = s.sending := rfl
@[simp] theorem State.handToEach_sending (m : Session → Bool) (pos : Pos) (b : EventBody) (s : State) :
    (s.handToEach m pos b).sending = s.sending := rfl
@[simp] theorem State.handTo_sending (p : Port) (pos : Pos) (b : EventBody) (s : State) :
    (s.handTo p pos b).sending = s.sending := by
  unfold State.handTo; split <;> rfl
@[simp] theorem State.handToOwner_sending (p : Option Port) (pos : Pos) (b : EventBody) (s : State) :
    (s.handToOwner p pos b).sending = s.sending := by
  cases p <;> simp [State.handToOwner]
@[simp] theorem State.eachSession_hp1Out (f : Session → Session) (s : State) : (s.eachSession f).hp1Out = s.hp1Out := rfl
@[simp] theorem State.setNotice_hp1Out (f : Notices → Notices) (s : State) : (s.setNotice f).hp1Out = s.hp1Out := rfl
@[simp] theorem State.handToEach_hp1Out (m : Session → Bool) (pos : Pos) (b : EventBody) (s : State) :
    (s.handToEach m pos b).hp1Out = s.hp1Out := rfl
@[simp] theorem State.handTo_hp1Out (p : Port) (pos : Pos) (b : EventBody) (s : State) :
    (s.handTo p pos b).hp1Out = s.hp1Out := by
  unfold State.handTo; split <;> rfl
@[simp] theorem State.handToOwner_hp1Out (p : Option Port) (pos : Pos) (b : EventBody) (s : State) :
    (s.handToOwner p pos b).hp1Out = s.hp1Out := by
  cases p <;> simp [State.handToOwner]
@[simp] theorem State.eachSession_hp1Acks (f : Session → Session) (s : State) : (s.eachSession f).hp1Acks = s.hp1Acks := rfl
@[simp] theorem State.setNotice_hp1Acks (f : Notices → Notices) (s : State) : (s.setNotice f).hp1Acks = s.hp1Acks := rfl
@[simp] theorem State.handToEach_hp1Acks (m : Session → Bool) (pos : Pos) (b : EventBody) (s : State) :
    (s.handToEach m pos b).hp1Acks = s.hp1Acks := rfl
@[simp] theorem State.handTo_hp1Acks (p : Port) (pos : Pos) (b : EventBody) (s : State) :
    (s.handTo p pos b).hp1Acks = s.hp1Acks := by
  unfold State.handTo; split <;> rfl
@[simp] theorem State.handToOwner_hp1Acks (p : Option Port) (pos : Pos) (b : EventBody) (s : State) :
    (s.handToOwner p pos b).hp1Acks = s.hp1Acks := by
  cases p <;> simp [State.handToOwner]
@[simp] theorem State.eachSession_hp2Out (f : Session → Session) (s : State) : (s.eachSession f).hp2Out = s.hp2Out := rfl
@[simp] theorem State.eachSession_hp1Bus (f : Session → Session) (s : State) : (s.eachSession f).hp1Bus = s.hp1Bus := rfl
@[simp] theorem State.eachSession_hp2Bus (f : Session → Session) (s : State) : (s.eachSession f).hp2Bus = s.hp2Bus := rfl
@[simp] theorem State.setNotice_hp2Out (f : Notices → Notices) (s : State) : (s.setNotice f).hp2Out = s.hp2Out := rfl
@[simp] theorem State.setNotice_hp1Bus (f : Notices → Notices) (s : State) : (s.setNotice f).hp1Bus = s.hp1Bus := rfl
@[simp] theorem State.setNotice_hp2Bus (f : Notices → Notices) (s : State) : (s.setNotice f).hp2Bus = s.hp2Bus := rfl
@[simp] theorem State.handToEach_hp2Out (m : Session → Bool) (pos : Pos) (b : EventBody) (s : State) :
    (s.handToEach m pos b).hp2Out = s.hp2Out := rfl
@[simp] theorem State.handToEach_hp1Bus (m : Session → Bool) (pos : Pos) (b : EventBody) (s : State) :
    (s.handToEach m pos b).hp1Bus = s.hp1Bus := rfl
@[simp] theorem State.handToEach_hp2Bus (m : Session → Bool) (pos : Pos) (b : EventBody) (s : State) :
    (s.handToEach m pos b).hp2Bus = s.hp2Bus := rfl
@[simp] theorem State.handTo_hp2Out (p : Port) (pos : Pos) (b : EventBody) (s : State) :
    (s.handTo p pos b).hp2Out = s.hp2Out := by
  unfold State.handTo; split <;> rfl
@[simp] theorem State.handTo_hp1Bus (p : Port) (pos : Pos) (b : EventBody) (s : State) :
    (s.handTo p pos b).hp1Bus = s.hp1Bus := by
  unfold State.handTo; split <;> rfl
@[simp] theorem State.handTo_hp2Bus (p : Port) (pos : Pos) (b : EventBody) (s : State) :
    (s.handTo p pos b).hp2Bus = s.hp2Bus := by
  unfold State.handTo; split <;> rfl
@[simp] theorem State.handToOwner_hp2Out (p : Option Port) (pos : Pos) (b : EventBody) (s : State) :
    (s.handToOwner p pos b).hp2Out = s.hp2Out := by
  cases p <;> simp [State.handToOwner]
@[simp] theorem State.handToOwner_hp1Bus (p : Option Port) (pos : Pos) (b : EventBody) (s : State) :
    (s.handToOwner p pos b).hp1Bus = s.hp1Bus := by
  cases p <;> simp [State.handToOwner]
@[simp] theorem State.handToOwner_hp2Bus (p : Option Port) (pos : Pos) (b : EventBody) (s : State) :
    (s.handToOwner p pos b).hp2Bus = s.hp2Bus := by
  cases p <;> simp [State.handToOwner]
@[simp] theorem State.eachSession_chan (f : Session → Session) (s : State) (d : Chan) :
    (s.eachSession f).chan d = s.chan d := rfl
@[simp] theorem State.setNotice_chan (f : Notices → Notices) (s : State) (d : Chan) :
    (s.setNotice f).chan d = s.chan d := rfl
@[simp] theorem State.handToEach_chan (m : Session → Bool) (pos : Pos) (b : EventBody) (s : State) (d : Chan) :
    (s.handToEach m pos b).chan d = s.chan d := rfl
@[simp] theorem State.handTo_chan (p : Port) (pos : Pos) (b : EventBody) (s : State) (d : Chan) :
    (s.handTo p pos b).chan d = s.chan d := by
  unfold State.handTo; split <;> rfl
@[simp] theorem State.handToOwner_chan (p : Option Port) (pos : Pos) (b : EventBody) (s : State) (d : Chan) :
    (s.handToOwner p pos b).chan d = s.chan d := by
  cases p <;> simp [State.handToOwner]
@[simp] theorem State.eachSession_group (f : Session → Session) (s : State) (d : GroupId) :
    (s.eachSession f).group d = s.group d := rfl
@[simp] theorem State.setNotice_group (f : Notices → Notices) (s : State) (d : GroupId) :
    (s.setNotice f).group d = s.group d := rfl
@[simp] theorem State.handToEach_group (m : Session → Bool) (pos : Pos) (b : EventBody) (s : State) (d : GroupId) :
    (s.handToEach m pos b).group d = s.group d := rfl
@[simp] theorem State.handTo_group (p : Port) (pos : Pos) (b : EventBody) (s : State) (d : GroupId) :
    (s.handTo p pos b).group d = s.group d := by
  unfold State.handTo; split <;> rfl
@[simp] theorem State.handToOwner_group (p : Option Port) (pos : Pos) (b : EventBody) (s : State) (d : GroupId) :
    (s.handToOwner p pos b).group d = s.group d := by
  cases p <;> simp [State.handToOwner]
@[simp] theorem State.eachSession_front (f : Session → Session) (s : State) (d : Port) :
    (s.eachSession f).front d = s.front d := rfl
@[simp] theorem State.setNotice_front (f : Notices → Notices) (s : State) (d : Port) :
    (s.setNotice f).front d = s.front d := rfl
@[simp] theorem State.handToEach_front (m : Session → Bool) (pos : Pos) (b : EventBody) (s : State) (d : Port) :
    (s.handToEach m pos b).front d = s.front d := rfl
@[simp] theorem State.handTo_front (p : Port) (pos : Pos) (b : EventBody) (s : State) (d : Port) :
    (s.handTo p pos b).front d = s.front d := by
  unfold State.handTo; split <;> rfl
@[simp] theorem State.handToOwner_front (p : Option Port) (pos : Pos) (b : EventBody) (s : State) (d : Port) :
    (s.handToOwner p pos b).front d = s.front d := by
  cases p <;> simp [State.handToOwner]
@[simp] theorem State.eachSession_capFilter (f : Session → Session) (s : State) (d : CapInput) :
    (s.eachSession f).capFilter d = s.capFilter d := rfl
@[simp] theorem State.setNotice_capFilter (f : Notices → Notices) (s : State) (d : CapInput) :
    (s.setNotice f).capFilter d = s.capFilter d := rfl
@[simp] theorem State.handToEach_capFilter (m : Session → Bool) (pos : Pos) (b : EventBody) (s : State) (d : CapInput) :
    (s.handToEach m pos b).capFilter d = s.capFilter d := rfl
@[simp] theorem State.handTo_capFilter (p : Port) (pos : Pos) (b : EventBody) (s : State) (d : CapInput) :
    (s.handTo p pos b).capFilter d = s.capFilter d := by
  unfold State.handTo; split <;> rfl
@[simp] theorem State.handToOwner_capFilter (p : Option Port) (pos : Pos) (b : EventBody) (s : State) (d : CapInput) :
    (s.handToOwner p pos b).capFilter d = s.capFilter d := by
  cases p <;> simp [State.handToOwner]
@[simp] theorem State.eachSession_arm (f : Session → Session) (s : State) (d : Port) (j : CapInput) :
    (s.eachSession f).arm d j = s.arm d j := rfl
@[simp] theorem State.setNotice_arm (f : Notices → Notices) (s : State) (d : Port) (j : CapInput) :
    (s.setNotice f).arm d j = s.arm d j := rfl
@[simp] theorem State.handToEach_arm (m : Session → Bool) (pos : Pos) (b : EventBody) (s : State) (d : Port) (j : CapInput) :
    (s.handToEach m pos b).arm d j = s.arm d j := rfl
@[simp] theorem State.handTo_arm (p : Port) (pos : Pos) (b : EventBody) (s : State) (d : Port) (j : CapInput) :
    (s.handTo p pos b).arm d j = s.arm d j := by
  unfold State.handTo; split <;> rfl
@[simp] theorem State.handToOwner_arm (p : Option Port) (pos : Pos) (b : EventBody) (s : State) (d : Port) (j : CapInput) :
    (s.handToOwner p pos b).arm d j = s.arm d j := by
  cases p <;> simp [State.handToOwner]

/-! ## Records handed over (R131, R132) -/

/-- A session record to which records have been handed over, one after another. -/
inductive Placed : Session → Session → Prop
  | refl (r : Session) : Placed r r
  | place {r r' : Session} (h : Placed r r') (pos : Pos) (body : EventBody) (attached : r'.attached = true) :
    Placed r (placeIn pos body r')

theorem Placed.trans {a b c : Session} (h : Placed a b) (k : Placed b c) : Placed a c := by
  induction k with
  | refl => exact h
  | place _ pos body ha ih => exact .place ih pos body ha

/-- What a placing leaves as it is. -/
theorem placeIn_keeps (pos : Pos) (body : EventBody) (r : Session) :
    (placeIn pos body r).attached = r.attached ∧ (placeIn pos body r).keepalive = r.keepalive ∧
      (placeIn pos body r).expireAt = r.expireAt ∧ (placeIn pos body r).subs = r.subs ∧
      (placeIn pos body r).notices = r.notices ∧ (placeIn pos body r).lastEnd = r.lastEnd := by
  unfold placeIn; split <;> simp

/-- A placing only adds to the queue. -/
theorem placeIn_prefix (pos : Pos) (body : EventBody) (r : Session) : r.queue <+: (placeIn pos body r).queue := by
  unfold placeIn; split <;> simp

theorem Placed.keeps {a b : Session} (h : Placed a b) :
    b.attached = a.attached ∧ b.keepalive = a.keepalive ∧ b.expireAt = a.expireAt ∧ b.subs = a.subs ∧
      b.notices = a.notices ∧ b.lastEnd = a.lastEnd := by
  induction h with
  | refl => simp
  | @place r' _ pos body _ ih =>
    obtain ⟨h1, h2, h3, h4, h5, h6⟩ := placeIn_keeps pos body r'
    exact ⟨h1.trans ih.1, h2.trans ih.2.1, h3.trans ih.2.2.1, h4.trans ih.2.2.2.1, h5.trans ih.2.2.2.2.1,
      h6.trans ih.2.2.2.2.2⟩

theorem Placed.queue_prefix {a b : Session} (h : Placed a b) : a.queue <+: b.queue := by
  induction h with
  | refl => exact List.prefix_rfl
  | place _ pos body _ ih => exact ih.trans (placeIn_prefix pos body _)

/-- R131: a DETACHED port receives nothing. -/
theorem Placed.detached {a b : Session} (h : Placed a b) (ha : a.attached = false) : b = a := by
  induction h with
  | refl => rfl
  | place h pos body k ih =>
    subst ih; rw [ha] at k; cases k

theorem State.handTo_placed (p : Port) (pos : Pos) (body : EventBody) (s : State) (q : Port) :
    Placed (s.session q) ((s.handTo p pos body).session q) := by
  rw [State.handTo_session]
  split
  · next h => exact .place (.refl _) pos body (h.1 ▸ h.2)
  · exact .refl _

theorem State.handToOwner_placed (p : Option Port) (pos : Pos) (body : EventBody) (s : State) (q : Port) :
    Placed (s.session q) ((s.handToOwner p pos body).session q) := by
  cases p with
  | none => exact .refl _
  | some p => exact State.handTo_placed p pos body s q

theorem State.handToEach_placed (meets : Session → Bool) (pos : Pos) (body : EventBody) (s : State) (q : Port) :
    Placed (s.session q) ((s.handToEach meets pos body).session q) := by
  rw [State.handToEach_session]
  split
  · next h => exact .place (.refl _) pos body (by simp at h; exact h.1)
  · exact .refl _

/-! ## Free orders (log 7) -/

theorem shuffle_state {α : Type} (n : Nat) (l : List α) (s : State) :
    ∃ k, (shuffle n l s).2 = { s with draws := k } := by
  induction n generalizing l s with
  | zero => exact ⟨s.draws, by simp [shuffle]⟩
  | succ n ih =>
    match l with
    | [] => exact ⟨s.draws, by simp [shuffle]⟩
    | [_] => exact ⟨s.draws, by simp [shuffle]⟩
    | x :: y :: l =>
      simp only [shuffle, State.draw]
      obtain ⟨k, hk⟩ := ih ((x :: y :: l).eraseIdx (Config.freeOrder s.draws % (l.length + 2)))
        { s with draws := s.draws + 1 }
      exact ⟨k, by rw [hk]⟩

theorem shuffle_perm {α : Type} (n : Nat) (l : List α) (s : State) : (shuffle n l s).1.Perm l := by
  induction n generalizing l s with
  | zero => simp [shuffle]
  | succ n ih =>
    match l with
    | [] => simp [shuffle]
    | [_] => simp [shuffle]
    | x :: y :: l =>
      simp only [shuffle, State.draw]
      have hi : Config.freeOrder s.draws % (l.length + 2) < (x :: y :: l).length :=
        Nat.mod_lt _ (Nat.succ_pos _)
      rw [List.getElem?_eq_getElem hi]
      exact ((ih _ _).cons _).trans (List.getElem_cons_eraseIdx_perm hi)

/-- A free order holds the same things. -/
theorem State.inFreeOrder_perm {α : Type} (l : List α) (s : State) : (s.inFreeOrder l).1.Perm l :=
  shuffle_perm _ _ _

/-- A free order changes only the count of free choices. -/
theorem State.inFreeOrder_state {α : Type} (l : List α) (s : State) :
    ∃ k, (s.inFreeOrder l).2 = { s with draws := k } :=
  shuffle_state _ _ _

/-- Nothing is chosen where there is nothing to choose. -/
theorem State.inFreeOrder_short {α : Type} (l : List α) (s : State) (h : l.length ≤ 1) : s.inFreeOrder l = (l, s) := by
  match l with
  | [] => rfl
  | [_] => rfl
  | _ :: _ :: _ => simp at h

end Sys2Proof.Machine
end

