-- ==== Sys2Proof/Laws/Front.lean ====
section
/-! SUPPORT. What a step, a command in reset, and the receiving of a request can do, said once. -/

namespace Sys2Proof.Machine

/-- A command at the front of the queue is run on the state with the queue's rest. -/
theorem step_of_pending {s : State} {c : Instr} {rest : List Instr} (h : s.pending = c :: rest) :
    step s = exec c { s with pending := rest } := by
  unfold step; rw [h]

/-- An empty queue is one count. -/
theorem step_of_idle {s : State} (h : s.pending = []) : step s = .next (tick s) := by
  unfold step; rw [h]

/-- Every command answers a next state. -/
theorem exec_next (c : Instr) (s : State) : ∃ t, exec c s = .next t := by
  cases c <;> exact ⟨_, rfl⟩

/-- Every step answers a next state. -/
theorem step_next (s : State) : ∃ t, step s = .next t := by
  unfold step
  split
  · exact ⟨_, rfl⟩
  · exact exec_next _ _

@[simp] theorem State.whileRunning_running {s : State} (h : s.power = .running) (f : State → State) :
    s.whileRunning f = f s := by
  unfold State.whileRunning; rw [h]

/-- R188: what reaches the part in reset has no effect (log 18). -/
theorem State.whileRunning_reset {s : State} (h : s.power ≠ .running) (f : State → State) : s.whileRunning f = s := by
  unfold State.whileRunning
  split
  · next e => exact absurd e h
  · rfl

/-- R171: a request received while the buffer is PENDING is held. -/
theorem submit_held {p : Port} {f : Frame} {s : State} {r : Response} {n : Nat} (hb : (s.front p).buffer = .pending r n)
    (hf : f.body ≠ .checkError) : submit p f s = s.setFront p { s.front p with held := some f } := by
  unfold submit countMismatch holdRequest
  split
  · next e => exact absurd e hf
  · dsimp only; rw [hb]

/-- R171: a request received while the buffer is not PENDING is taken. -/
theorem submit_taken {p : Port} {f : Frame} {s : State} (hb : ∀ r n, (s.front p).buffer ≠ .pending r n)
    (hf : f.body ≠ .checkError) :
    submit p f s = setPending p (responseOf f.seq (replyTo p f.body s)) (replyTo p f.body s).state := by
  unfold submit countMismatch takeRequest
  split
  · next e => exact absurd e hf
  · dsimp only
    split
    · next r n e => exact absurd e (hb r n)
    · rfl

/-- A buffer that is not PENDING has nothing to compose. -/
theorem composed_idle {p : Port} {s : State} (hb : ∀ r n, (s.front p).buffer ≠ .pending r n) : composed p s = s := by
  unfold composed
  split
  · next r n e => exact absurd e (hb r n)
  · rfl

/-- R132: every record has 16 bytes (11.9). -/
theorem recordBytes_length (r : EventRecord) : (recordBytes r).length = 16 := by
  unfold recordBytes posBytes bytes16 bytes32
  cases r.body <;> rfl

end Sys2Proof.Machine
end

