-- ==== Sys2Proof/Laws/Clock.lean ====
section
/-! SUPPORT. What one count can do, said once: what the samples of a count change, and what is left of a count at which
nothing, one thing alone, or an advance alone comes. -/

namespace Sys2Proof.Machine

/-! ## The samples of a count -/

/-- What the beginning of a count may change: the count, the timebase, the filters' runs, the receiver, the fronts. -/
def Sampled (s t : State) : Prop :=
  t = { s with
        now := t.now, ltb := t.ltb, filterA := t.filterA, filterB := t.filterB, capFilters := t.capFilters, chans := t.chans
        supply := t.supply, resetRun := t.resetRun, receiver := t.receiver, fronts := t.fronts }

theorem Sampled.refl (s : State) : Sampled s s := rfl

theorem Sampled.trans {a b c : State} (h : Sampled a b) (k : Sampled b c) : Sampled a c := by
  unfold Sampled at *
  cases a; cases b; cases c
  simp only [State.mk.injEq, true_and] at *
  simp_all

theorem Sampled.foldl {α : Type} {f : State → α → State} (hf : ∀ s x, Sampled s (f s x)) (l : List α) :
    ∀ s, Sampled s (l.foldl f s) := by
  induction l with
  | nil => exact fun s => Sampled.refl s
  | cons x l ih => exact fun s => (hf s x).trans (ih _)

theorem closeMoment_sampled (s : State) (p : Port) : Sampled s (closeMoment s p) := by
  unfold closeMoment; split <;> rfl

theorem sampleRef_sampled (r : RefId) (s : State) : Sampled s (sampleRef r s) := by cases r <;> rfl

theorem sampleCap_sampled (i : CapInput) (s : State) : Sampled s (sampleCap i s) := rfl

theorem sampleFbk_sampled (c : Chan) (s : State) : Sampled s (sampleFbk c s) := rfl

theorem sampleRxd_sampled (s : State) : Sampled s (sampleRxd s) := by
  unfold sampleRxd; split
  · split <;> rfl
  · rfl

theorem closeMoments_sampled (s : State) : Sampled s (allPorts.foldl closeMoment s) :=
  Sampled.foldl closeMoment_sampled _ _

theorem sampleInputs_sampled (s : State) : Sampled s (sampleInputs s) := by
  have hr := (sampleRef_sampled .a s).trans (sampleRef_sampled .b (sampleRef .a s))
  have hc := Sampled.foldl (f := fun s i => sampleCap i s) (fun s i => sampleCap_sampled i s) allInputs
  have hf := Sampled.foldl (f := fun s c => sampleFbk c s) (fun s c => sampleFbk_sampled c s) allChans
  have hs : ∀ s, Sampled s (sampleRxd (sampleSupply s)) := fun s =>
    Sampled.trans (b := sampleSupply s) rfl (sampleRxd_sampled _)
  exact ((hr.trans (hc _)).trans (hf _)).trans (hs _)

/-- R3, R66, R85, R141, R188: the beginning of a count leaves everything else as it is. -/
theorem nextCount_sampled (s : State) : Sampled s (nextCount s) := by
  have hc : ∀ u : State, Sampled u (sampleReset { u with now := u.now + 1, ltb := countLtb u.ltb }) := fun _ => rfl
  exact ((closeMoments_sampled s).trans (hc _)).trans (sampleInputs_sampled _)

@[simp] theorem nextCount_power (s : State) : (nextCount s).power = s.power := by rw [nextCount_sampled s]
@[simp] theorem nextCount_pending (s : State) : (nextCount s).pending = s.pending := by rw [nextCount_sampled s]
@[simp] theorem nextCount_draws (s : State) : (nextCount s).draws = s.draws := by rw [nextCount_sampled s]
@[simp] theorem nextCount_pins (s : State) : (nextCount s).pins = s.pins := by rw [nextCount_sampled s]
@[simp] theorem nextCount_sel (s : State) : (nextCount s).sel = s.sel := by rw [nextCount_sampled s]
@[simp] theorem nextCount_monA (s : State) : (nextCount s).monA = s.monA := by rw [nextCount_sampled s]
@[simp] theorem nextCount_monB (s : State) : (nextCount s).monB = s.monB := by rw [nextCount_sampled s]
@[simp] theorem nextCount_sched (s : State) : (nextCount s).sched = s.sched := by rw [nextCount_sampled s]
@[simp] theorem nextCount_groups (s : State) : (nextCount s).groups = s.groups := by rw [nextCount_sampled s]
@[simp] theorem nextCount_sessions (s : State) : (nextCount s).sessions = s.sessions := by rw [nextCount_sampled s]
@[simp] theorem nextCount_arms (s : State) : (nextCount s).arms = s.arms := by rw [nextCount_sampled s]
@[simp] theorem nextCount_sending (s : State) : (nextCount s).sending = s.sending := by rw [nextCount_sampled s]

/-! ## What a count makes of what comes -/

theorem inFreeOrder_nil {α : Type} (s : State) : s.inFreeOrder ([] : List α) = ([], s) := rfl

theorem inFreeOrder_one {α : Type} (x : α) (s : State) : s.inFreeOrder [x] = ([x], s) := rfl

theorem handleDue_due {s : State} {d : Due} (h : isDue s d = true) : handleDue s d = handle d s := by
  unfold handleDue; rw [if_pos h]

theorem isDue_of_mem {s : State} {d : Due} (h : d ∈ dueNow s) : isDue s d = true := (List.mem_filter.mp h).2

theorem qualifyLevels_quiet {s : State} (h : dueNow s = []) : qualifyLevels s = s := by
  unfold qualifyLevels; rw [h]; rfl

theorem chosenBefore_nil (s : State) : chosenBefore [] s = ([], s) := rfl

theorem handleInOrder_nil (s : State) : handleInOrder [] [] s = s := rfl

theorem without_nil (taken : List Due) : without [] taken = [] := rfl

theorem vacatingNone_nil (s : State) : vacatingNone s [] = [] := rfl

theorem handleMove_alone (m : Due) (s : State) : handleMove m [] s = handleDue s m := by
  unfold handleMove handleDue; cases m <;> rfl

theorem handleRest_nil (s : State) : handleRest [] s = s := rfl

/-- One thing is left: it is handled. -/
theorem handleRest_one (d : Due) (s : State) : handleRest [d] s = handleDue s d := by
  simp only [handleRest, inFreeOrder_one, handleInOrder, moveAhead, Bool.and_false, Bool.false_eq_true, if_false,
    List.nil_append, List.filter_nil, chosenBefore_nil, handleMove_alone, List.foldl_nil, ite_self]

/-- Nothing comes. -/
theorem handleAll_quiet {s : State} (h : dueNow s = []) : handleAll s = s := by
  simp only [handleAll, qualifyLevels_quiet h, h, handleRest_nil]

theorem qualifyLevels_edge {s : State} {d : Due} (h : dueNow s = [d]) (he : withoutEdge s d = false) :
    qualifyLevels s = s := by
  unfold qualifyLevels; rw [h]; simp [he]

/-- One thing comes that is more than a level without an edge: it is handled. -/
theorem handleAll_alone {s : State} {d : Due} (h : dueNow s = [d]) (he : withoutEdge s d = false) :
    handleAll s = handle d s := by
  have hd : isDue s d = true := isDue_of_mem (h ▸ List.mem_singleton_self d)
  simp only [handleAll, qualifyLevels_edge h he, h, handleRest_one, handleDue_due hd]

/-- R2: an advance comes alone: the timebase's own work, then the offer of the position. -/
theorem handleWithAdvance_alone {s : State} (h : dueNow s = []) :
    handleWithAdvance s = offerPosition (timebaseWork s) := by
  simp only [handleWithAdvance, qualifyLevels_quiet h, h, List.filter_nil, chosenBefore_nil, without_nil, inFreeOrder_nil,
    vacatingNone_nil, ite_self, List.foldl_nil, handleInOrder_nil]

/-! ## One count of a running part -/

theorem tick_running {s : State} (h : s.power = .running) : tick s = runningCount s := by
  unfold tick; rw [h]

/-- R188: a low of 40 counts begins a device reset, whatever else comes. -/
theorem runningCount_reset {s : State} (h : resetLow (nextCount s) = true) :
    runningCount s = resetPinLow (nextCount s) := by
  unfold runningCount; simp [h]

theorem runningCount_advance {s : State} (h : resetLow (nextCount s) = false) (ha : advances s.ltb = true) :
    runningCount s = handleWithAdvance (nextCount s) := by
  unfold runningCount; simp [h, ha]

theorem runningCount_step {s : State} (h : resetLow (nextCount s) = false) (ha : advances s.ltb = false) :
    runningCount s = handleAll (nextCount s) := by
  unfold runningCount; simp [h, ha]

/-- Nothing comes: the count has passed. -/
theorem tick_quiet {s : State} (hp : s.power = .running) (h : resetLow (nextCount s) = false) (ha : advances s.ltb = false)
    (hd : dueNow (nextCount s) = []) : tick s = nextCount s := by
  rw [tick_running hp, runningCount_step h ha, handleAll_quiet hd]

/-- R2: an advance comes alone. -/
theorem tick_advance {s : State} (hp : s.power = .running) (h : resetLow (nextCount s) = false)
    (ha : advances s.ltb = true) (hd : dueNow (nextCount s) = []) :
    tick s = offerPosition (timebaseWork (nextCount s)) := by
  rw [tick_running hp, runningCount_advance h ha, handleWithAdvance_alone hd]

/-! ## Counts that a command carries -/

theorem runClock_succ (n : Nat) (s : State) : runClock (n + 1) s = tick (runClock n s) := rfl

theorem countsToAdvance_pos (l : Ltb) : 1 ≤ countsToAdvance l := Nat.le_max_left _ _

/-- The counts up to the next advance are those before it and its own. -/
theorem advanceNow_eq {s : State} (h : s.ltb.lock ≠ .stopped) :
    advanceNow s = tick (runClock (countsToAdvance s.ltb - 1) s) := by
  have e : countsToAdvance s.ltb = countsToAdvance s.ltb - 1 + 1 := by have := countsToAdvance_pos s.ltb; omega
  unfold advanceNow
  split
  · next hs => exact absurd hs h
  · rw [e, runClock_succ]; rfl

/-- With no count to pass, the level has been shown long enough already. -/
theorem levelAfterCounts_zero (full : Nat) (shown : Nat → State → State) (d : Due) {s : State} (h : s.power = .running) :
    levelAfterCounts full 0 shown d s = handleDue (shown full s) d := by
  unfold levelAfterCounts
  simp only [Nat.zero_min, Nat.sub_zero, runClock, State.whileRunning_running h, if_true]

/-! ## Bytes on RXD -/

/-- With no count between start and stop bit the bytes are received at the present count. -/
theorem bytesOnWire_zero (bytes : List RxByte) {s : State} (h : s.power = .running) :
    bytesOnWire 0 bytes s = receiveBytes bytes s := by
  unfold bytesOnWire wireCounts; simp only [h]

/-- One count of a byte under way on a part that goes on running. -/
theorem bytesOnWire_succ (n : Nat) (bytes : List RxByte) {s : State} (h : (tick (setRxd false s)).power = .running) :
    bytesOnWire (n + 1) bytes s = bytesOnWire n bytes (tick (setRxd false s)) := by
  unfold bytesOnWire; simp only [wireCounts, h]

/-- A device reset that begins in the counts of a byte ends the command; RXD follows its wire. -/
theorem bytesOnWire_reset (n : Nat) (bytes : List RxByte) {s : State} {hold : Bool}
    (h : (tick (setRxd false s)).power = .inReset hold) :
    bytesOnWire (n + 1) bytes s = bytes.foldl (fun s b => setRxd b.stopBit s) (tick (setRxd false s)) := by
  unfold bytesOnWire; simp only [wireCounts, h]

end Sys2Proof.Machine
end

