-- ==== Sys2Proof/Laws/PerInstr.lean ====
section
/-! SUPPORT. What is said of every command, one lemma per constructor. `RequestWire`: the request that a command is has a
payload that its frame can carry (10.2: LEN is 2 to 34), and the request alone gives back the command with its port and
SEQ. -/

namespace Sys2Proof.Laws

/-- A command that is a request is `requestInstr` of that request, and the request fits a request frame (10.2). -/
def RequestWire.Statement (i : Instr) : Prop :=
  ∀ r, Machine.requestOf i = some r →
    (∃ p seq, Machine.requestInstr p seq r = i) ∧ (Machine.requestPayload r).length + 2 ≤ 34

/-- The payload of every request fits its frame. -/
theorem requestPayload_fits (r : Request) : (Machine.requestPayload r).length + 2 ≤ 34 := by
  cases r <;> simp [Machine.requestPayload, Machine.bytes16, Machine.bytes32]

/-- The one request of a request command. -/
theorem RequestWire.of_request {p : Port} {seq : Byte} {r : Request} {i : Instr} (hi : Machine.requestInstr p seq r = i)
    (ho : Machine.requestOf i = some r) : RequestWire.Statement i := fun _ h => by
  obtain rfl := Option.some.inj (ho.symm.trans h)
  exact ⟨⟨p, seq, hi⟩, requestPayload_fits r⟩

/-- A command that is no request. -/
theorem RequestWire.of_none {i : Instr} (h : Machine.requestOf i = none) : RequestWire.Statement i := fun _ hr => by
  rw [h] at hr
  cases hr

theorem RequestWire.nop (p : Port) (seq : Byte) :
    RequestWire.Statement (.nop p seq) :=
  RequestWire.of_request rfl rfl

theorem RequestWire.attach (p : Port) (seq keepalive subs : Byte) :
    RequestWire.Statement (.attach p seq keepalive subs) :=
  RequestWire.of_request rfl rfl

theorem RequestWire.detach (p : Port) (seq : Byte) :
    RequestWire.Statement (.detach p seq) :=
  RequestWire.of_request rfl rfl

theorem RequestWire.resetPort (p : Port) (seq : Byte) :
    RequestWire.Statement (.resetPort p seq) :=
  RequestWire.of_request rfl rfl

theorem RequestWire.readStatus (p : Port) (seq : Byte) :
    RequestWire.Statement (.readStatus p seq) :=
  RequestWire.of_request rfl rfl

theorem RequestWire.clearNotices (p : Port) (seq notices : Byte) :
    RequestWire.Statement (.clearNotices p seq notices) :=
  RequestWire.of_request rfl rfl

theorem RequestWire.setDevice (p : Port) (seq : Byte) (a : SetDeviceArgs) :
    RequestWire.Statement (.setDevice p seq a) :=
  RequestWire.of_request rfl rfl

theorem RequestWire.readDevice (p : Port) (seq : Byte) :
    RequestWire.Statement (.readDevice p seq) :=
  RequestWire.of_request rfl rfl

theorem RequestWire.claim (p : Port) (seq : Byte) (chans : BitVec 16) :
    RequestWire.Statement (.claim p seq chans) :=
  RequestWire.of_request rfl rfl

theorem RequestWire.release (p : Port) (seq : Byte) (chans : BitVec 16) (mode : Byte) :
    RequestWire.Statement (.release p seq chans mode) :=
  RequestWire.of_request rfl rfl

theorem RequestWire.setChannel (p : Port) (seq : Byte) (a : SetChannelArgs) :
    RequestWire.Statement (.setChannel p seq a) :=
  RequestWire.of_request rfl rfl

theorem RequestWire.readChannel (p : Port) (seq channel : Byte) :
    RequestWire.Statement (.readChannel p seq channel) :=
  RequestWire.of_request rfl rfl

theorem RequestWire.clearFault (p : Port) (seq channel : Byte) :
    RequestWire.Statement (.clearFault p seq channel) :=
  RequestWire.of_request rfl rfl

theorem RequestWire.schedule (p : Port) (seq : Byte) (a : ScheduleArgs) :
    RequestWire.Statement (.schedule p seq a) :=
  RequestWire.of_request rfl rfl

theorem RequestWire.cancel (p : Port) (seq form : Byte) (tag : BitVec 16) (channel : Byte) :
    RequestWire.Statement (.cancel p seq form tag channel) :=
  RequestWire.of_request rfl rfl

theorem RequestWire.readSchedule (p : Port) (seq start : Byte) :
    RequestWire.Statement (.readSchedule p seq start) :=
  RequestWire.of_request rfl rfl

theorem RequestWire.armCapture (p : Port) (seq input edge count : Byte) :
    RequestWire.Statement (.armCapture p seq input edge count) :=
  RequestWire.of_request rfl rfl

theorem RequestWire.disarmCapture (p : Port) (seq input : Byte) :
    RequestWire.Statement (.disarmCapture p seq input) :=
  RequestWire.of_request rfl rfl

theorem RequestWire.takeEvents (p : Port) (seq count : Byte) :
    RequestWire.Statement (.takeEvents p seq count) :=
  RequestWire.of_request rfl rfl

theorem RequestWire.ackEvents (p : Port) (seq : Byte) (number : BitVec 16) :
    RequestWire.Statement (.ackEvents p seq number) :=
  RequestWire.of_request rfl rfl

theorem RequestWire.advance :
    RequestWire.Statement .advance := RequestWire.of_none rfl

theorem RequestWire.referenceEdge (r : RefId) (after : Nat) :
    RequestWire.Statement (.referenceEdge r after) := RequestWire.of_none rfl

theorem RequestWire.monitorSilenceLimitExpiry (r : RefId) :
    RequestWire.Statement (.monitorSilenceLimitExpiry r) := RequestWire.of_none rfl

theorem RequestWire.holdoverExpired :
    RequestWire.Statement .holdoverExpired := RequestWire.of_none rfl

theorem RequestWire.captureEdge (i : CapInput) (d : EdgeDir) (after : Nat) :
    RequestWire.Statement (.captureEdge i d after) := RequestWire.of_none rfl

theorem RequestWire.captureHoldOffEnd (i : CapInput) :
    RequestWire.Statement (.captureHoldOffEnd i) := RequestWire.of_none rfl

theorem RequestWire.feedbackChange (c : Chan) (f : NewFeedback) :
    RequestWire.Statement (.feedbackChange c f) := RequestWire.of_none rfl

theorem RequestWire.verifyTimerExpiry (c : Chan) :
    RequestWire.Statement (.verifyTimerExpiry c) := RequestWire.of_none rfl

theorem RequestWire.supplyEntryToLow :
    RequestWire.Statement .supplyEntryToLow := RequestWire.of_none rfl

theorem RequestWire.supplyLeavingLow :
    RequestWire.Statement .supplyLeavingLow := RequestWire.of_none rfl

theorem RequestWire.keepaliveExpiry (p : Port) :
    RequestWire.Statement (.keepaliveExpiry p) := RequestWire.of_none rfl

theorem RequestWire.pendingOpenExecution (c : Chan) :
    RequestWire.Statement (.pendingOpenExecution c) := RequestWire.of_none rfl

theorem RequestWire.drainComplete (c : Chan) :
    RequestWire.Statement (.drainComplete c) := RequestWire.of_none rfl

theorem RequestWire.powerOnReset :
    RequestWire.Statement .powerOnReset := RequestWire.of_none rfl

theorem RequestWire.pinReset :
    RequestWire.Statement .pinReset := RequestWire.of_none rfl

theorem RequestWire.resetRelease (straps : Straps) (fbk : BitVec 12) (suplowN : Bool) :
    RequestWire.Statement (.resetRelease straps fbk suplowN) := RequestWire.of_none rfl

theorem RequestWire.hp0RequestFrame (bytes : OnWire (List Byte)) :
    RequestWire.Statement (.hp0RequestFrame bytes) := RequestWire.of_none rfl

theorem RequestWire.hp0StrayByte (b : OnWire RxByte) :
    RequestWire.Statement (.hp0StrayByte b) := RequestWire.of_none rfl

theorem RequestWire.hp0DamagedFrame (bytes : OnWire (List RxByte)) :
    RequestWire.Statement (.hp0DamagedFrame bytes) := RequestWire.of_none rfl

theorem RequestWire.hp0ByteGapTimeout :
    RequestWire.Statement .hp0ByteGapTimeout := RequestWire.of_none rfl

theorem RequestWire.hp0DiscardingQuietEnd :
    RequestWire.Statement .hp0DiscardingQuietEnd := RequestWire.of_none rfl

theorem RequestWire.hp0TransmissionComplete :
    RequestWire.Statement .hp0TransmissionComplete := RequestWire.of_none rfl

theorem RequestWire.hp1WriteTransaction (addr : BitVec 7) (bytes : List Byte) :
    RequestWire.Statement (.hp1WriteTransaction addr bytes) := RequestWire.of_none rfl

theorem RequestWire.hp1ReadTransaction (addr : BitVec 7) (clocked : Nat) :
    RequestWire.Statement (.hp1ReadTransaction addr clocked) := RequestWire.of_none rfl

theorem RequestWire.hp2RequestTransaction (bytes : List Byte) :
    RequestWire.Statement (.hp2RequestTransaction bytes) := RequestWire.of_none rfl

theorem RequestWire.hp2ReadTransaction (clocked : Nat) :
    RequestWire.Statement (.hp2ReadTransaction clocked) := RequestWire.of_none rfl

theorem RequestWire.hp2BadCommandByte (first : Byte) (rest : List Byte) :
    RequestWire.Statement (.hp2BadCommandByte first rest) := RequestWire.of_none rfl

theorem RequestWire.hp2CsHighTooShort (bytes : List Byte) :
    RequestWire.Statement (.hp2CsHighTooShort bytes) := RequestWire.of_none rfl

theorem RequestWire.responseComposed (p : Port) :
    RequestWire.Statement (.responseComposed p) := RequestWire.of_none rfl

theorem RequestWire.referenceLevelQualified (r : RefId) (high : Bool) :
    RequestWire.Statement (.referenceLevelQualified r high) := RequestWire.of_none rfl

theorem RequestWire.captureFirstQualification (i : CapInput) (high : Bool) :
    RequestWire.Statement (.captureFirstQualification i high) := RequestWire.of_none rfl

end Sys2Proof.Laws
end

