-- ==== Sys2Proof/Laws/Timebase.lean ====
section
/-! SUPPORT. What the operations of the Line Timebase and of the Reference Selector can do, said once: they change those two
blocks, hand records over and set notices; nothing else. -/

namespace Sys2Proof.Machine

/-- A session record with notices set to some value. -/
def Session.withNotices (r : Session) (n : Notices) : Session := { r with notices := n }

theorem placeIn_withNotices (pos : Pos) (body : EventBody) (r : Session) (n : Notices) :
    placeIn pos body (r.withNotices n) = (placeIn pos body r).withNotices n := by
  unfold placeIn Session.withNotices; dsimp only; split <;> rfl

theorem Placed.withNotices {a b : Session} (h : Placed a b) (n : Notices) : Placed (a.withNotices n) (b.withNotices n) := by
  induction h with
  | refl => exact .refl _
  | place h pos body ha ih => rw [← placeIn_withNotices]; exact .place ih pos body ha

/-- The parts of the state that the timebase's work never changes. -/
def State.beside (s : State) : State :=
  { s with ltb := Ltb.reset, sel := Selector.reset, sessions := Vector.replicate 3 Session.reset }

/-- What a piece of the timebase's work keeps: everything but the timebase, the selector and the sessions; of the sessions
all but the records placed and the notices. -/
structure TimebaseKeeps (s t : State) : Prop where
  beside : t.beside = s.beside
  sessions : ∀ p, ∃ n, Placed ((s.session p).withNotices n) (t.session p)

theorem TimebaseKeeps.refl (s : State) : TimebaseKeeps s s := ⟨rfl, fun p => ⟨(s.session p).notices, .refl _⟩⟩

theorem TimebaseKeeps.trans {a b c : State} (h : TimebaseKeeps a b) (k : TimebaseKeeps b c) : TimebaseKeeps a c := by
  refine ⟨k.beside.trans h.beside, fun p => ?_⟩
  obtain ⟨n, hn⟩ := h.sessions p
  obtain ⟨m, hm⟩ := k.sessions p
  exact ⟨m, (hn.withNotices m).trans hm⟩

/-- The next state is the old one with another timebase, selector and sessions. -/
theorem TimebaseKeeps.eq {s t : State} (h : TimebaseKeeps s t) :
    t = { s with ltb := t.ltb, sel := t.sel, sessions := t.sessions } := by
  have e := h.beside
  simp only [State.beside, State.mk.injEq] at e
  cases s; cases t; simp_all

theorem setLtb_keeps (s : State) (l : Ltb) : TimebaseKeeps s { s with ltb := l } :=
  ⟨rfl, fun p => ⟨(s.session p).notices, .refl _⟩⟩

theorem setSel_keeps (s : State) (v : Selector) : TimebaseKeeps s { s with sel := v } :=
  ⟨rfl, fun p => ⟨(s.session p).notices, .refl _⟩⟩

theorem setNotice_keeps (f : Notices → Notices) (s : State) : TimebaseKeeps s (s.setNotice f) :=
  ⟨rfl, fun p => ⟨f (s.session p).notices, by rw [State.setNotice_session]; exact .refl _⟩⟩

theorem Placed.told {a b : Session} (h : Placed a b) : ∃ n, Placed (a.withNotices n) b := ⟨a.notices, h⟩

theorem handToEach_keeps (meets : Session → Bool) (pos : Pos) (body : EventBody) (s : State) :
    TimebaseKeeps s (s.handToEach meets pos body) :=
  ⟨rfl, fun p => (State.handToEach_placed meets pos body s p).told⟩

theorem timebaseRecord_keeps (new old : LockState) (cause : TimebaseCause) (s : State) :
    TimebaseKeeps s (timebaseRecord new old cause s) := by
  unfold timebaseRecord State.handToTimebase
  exact handToEach_keeps _ _ _ s

theorem loadOffset_keeps (s : State) : TimebaseKeeps s (loadOffset s) := setSel_keeps s _

theorem restartAcquisition_keeps (s : State) : TimebaseKeeps s (restartAcquisition s) := setLtb_keeps s _

theorem changeLock_keeps (new : LockState) (cause : TimebaseCause) (s : State) :
    TimebaseKeeps s (changeLock new cause s) := by
  have h := (setLtb_keeps s { s.ltb with lock := new }).trans (timebaseRecord_keeps new s.ltb.lock cause _)
  unfold changeLock
  dsimp only
  split
  · exact h.trans (setNotice_keeps _ _)
  · exact h

theorem autoSwitch_keeps (s : State) : TimebaseKeeps s (autoSwitch s) := by
  have h := (setSel_keeps s { s.sel with selected := otherRef s.sel.selected }).trans (loadOffset_keeps _)
  unfold autoSwitch
  dsimp only
  refine (h.trans ?_).trans ((timebaseRecord_keeps _ _ _ _).trans (setNotice_keeps _ _))
  split
  · exact setLtb_keeps _ _
  · exact restartAcquisition_keeps _
  · exact restartAcquisition_keeps _
  · exact .refl _

theorem testStanding_keeps (s : State) : TimebaseKeeps s (testStanding s) := by
  unfold testStanding
  split
  · exact autoSwitch_keeps s
  · exact .refl s

theorem enterHoldover_keeps (cause : TimebaseCause) (s : State) : TimebaseKeeps s (enterHoldover cause s) :=
  (setLtb_keeps s _).trans (changeLock_keeps .holdover cause _)

theorem enterLost_keeps (s : State) : TimebaseKeeps s (enterLost s) :=
  (((restartAcquisition_keeps s).trans (loadOffset_keeps _)).trans (changeLock_keeps _ _ _)).trans (testStanding_keeps _)

theorem crossForward_keeps (s : State) : TimebaseKeeps s (crossForward s) := by
  unfold crossForward
  dsimp only
  split
  · split
    · exact (setLtb_keeps s _).trans (enterLost_keeps _)
    · exact setLtb_keeps s _
  · exact .refl s

theorem crossBackward_keeps (s : State) : TimebaseKeeps s (crossBackward s) := by
  unfold crossBackward
  split
  · exact setLtb_keeps s _
  · exact .refl s

theorem closeWindow_keeps (s : State) : TimebaseKeeps s (closeWindow s) :=
  (setLtb_keeps s _).trans (loadOffset_keeps _)

theorem enterMissed_keeps (s : State) :
    TimebaseKeeps s
      (if missedSwitchDue (enterHoldover .missed s) then autoSwitch (enterHoldover .missed s)
        else enterHoldover .missed s) := by
  split
  · exact (enterHoldover_keeps .missed s).trans (autoSwitch_keeps _)
  · exact enterHoldover_keeps .missed s

/-- What a window evaluation can do. -/
theorem evaluateWindow_keeps (s : State) : TimebaseKeeps s (evaluateWindow s) := by
  have h := closeWindow_keeps s
  unfold evaluateWindow
  dsimp only
  split
  · split
    · exact h.trans (setLtb_keeps _ _)
    · split
      · exact (h.trans (setLtb_keeps _ _)).trans (enterMissed_keeps _)
      · exact h.trans (setLtb_keeps _ _)
  · split
    · split
      · exact (h.trans (setLtb_keeps _ _)).trans ((setLtb_keeps _ _).trans (changeLock_keeps .locked .relocked _))
      · exact h.trans (setLtb_keeps _ _)
    · exact h.trans (setLtb_keeps _ _)
  · exact .refl s

/-- What the timebase's own work for an advance can do. -/
theorem timebaseWork_keeps (s : State) : TimebaseKeeps s (timebaseWork s) := by
  unfold timebaseWork
  dsimp only
  split <;> split
  · exact (evaluateWindow_keeps s).trans (crossForward_keeps _)
  · exact crossForward_keeps s
  · exact evaluateWindow_keeps s
  · exact .refl s

theorem acquire_keeps (t : Nat) (s : State) : TimebaseKeeps s (acquire t s).1 := by
  unfold acquire lockFromAcquisition
  dsimp only
  split
  · exact setLtb_keeps s _
  · split
    · exact ((setLtb_keeps s _).trans (setLtb_keeps _ _)).trans (changeLock_keeps _ _ _)
    · exact ((setLtb_keeps s _).trans (setLtb_keeps _ _)).trans (changeLock_keeps _ _ _)

theorem acceptEdge_keeps (t : Nat) (s : State) : TimebaseKeeps s (acceptEdge t s).1 := by
  unfold acceptEdge
  dsimp only
  split
  · exact setLtb_keeps s _
  · split
    · exact (setLtb_keeps s _).trans (crossForward_keeps _)
    · exact (setLtb_keeps s _).trans (crossBackward_keeps _)

/-- What the timebase can make of an edge of the selected reference. -/
theorem timebaseEdge_keeps (t : Nat) (s : State) : TimebaseKeeps s (timebaseEdge t s).1 := by
  unfold timebaseEdge
  split
  · exact acquire_keeps t s
  · exact acquire_keeps t s
  · split
    · exact acceptEdge_keeps t s
    · exact setLtb_keeps s _

theorem changeSelection_keeps (r : RefId) (s : State) : TimebaseKeeps s (changeSelection r s) := by
  unfold changeSelection
  dsimp only
  have h := (setSel_keeps s { s.sel with selected := r }).trans (loadOffset_keeps _)
  split
  · exact ((h.trans (setLtb_keeps _ _)).trans (setLtb_keeps _ _)).trans (enterHoldover_keeps _ _)
  · exact (h.trans (setLtb_keeps _ _)).trans (setLtb_keeps _ _)
  · exact (h.trans (setLtb_keeps _ _)).trans (restartAcquisition_keeps _)
  · exact (h.trans (setLtb_keeps _ _)).trans (restartAcquisition_keeps _)

/-- What SET DEVICE can do to the selector and the timebase. -/
theorem setSelector_keeps (mode : RefMode) (oa ob : LineStep) (s : State) :
    TimebaseKeeps s (setSelector mode oa ob s) := by
  unfold setSelector
  dsimp only
  have h := setSel_keeps s { s.sel with mode := mode, offsetA := oa, offsetB := ob }
  split
  · split
    · exact (h.trans (changeSelection_keeps _ _)).trans (testStanding_keeps _)
    · split
      · exact (h.trans (loadOffset_keeps _)).trans (testStanding_keeps _)
      · exact h.trans (testStanding_keeps _)
  · split
    · exact h.trans (changeSelection_keeps _ _)
    · split
      · exact h.trans (loadOffset_keeps _)
      · exact h

end Sys2Proof.Machine
end

