-- ==== Sys2Proof/Laws/Work.lean ====
section
/-! SUPPORT. What the channel commands, the tasks and the work of one handling can do, said once: they change channel records,
vacated positions and the entry store, and hand records over; nothing else. And the induction over tasks, packaged once. -/

namespace Sys2Proof.Machine

/-- The parts of the state that the work never changes. -/
def State.rest (s : State) : State :=
  { s with
    chans := resetChannels 0
    groups := Vector.replicate 4 Group.reset
    sessions := Vector.replicate 3 Session.reset
    sched := Schedule.reset }

/-- What a piece of work keeps: everything but channels, groups, sessions and store; of the sessions all but the records
placed; of a channel its configuration and its feedback; of a group its break gap; of the store its tag counter. -/
structure WorkKeeps (s t : State) : Prop where
  rest : t.rest = s.rest
  sessions : ∀ p, Placed (s.session p) (t.session p)
  cfg : ∀ c, (t.chan c).cfg = (s.chan c).cfg
  feedback : ∀ c, (t.chan c).feedback = (s.chan c).feedback ∧ (t.chan c).fbkRun = (s.chan c).fbkRun
  gap : ∀ g, (t.group g).gap = (s.group g).gap
  tagCounter : t.sched.tagCounter = s.sched.tagCounter

namespace WorkKeeps

theorem refl (s : State) : WorkKeeps s s :=
  ⟨rfl, fun _ => .refl _, fun _ => rfl, fun _ => ⟨rfl, rfl⟩, fun _ => rfl, rfl⟩

theorem trans {a b c : State} (h : WorkKeeps a b) (k : WorkKeeps b c) : WorkKeeps a c :=
  ⟨k.rest.trans h.rest, fun p => (h.sessions p).trans (k.sessions p), fun d => (k.cfg d).trans (h.cfg d),
    fun d => ⟨(k.feedback d).1.trans (h.feedback d).1, (k.feedback d).2.trans (h.feedback d).2⟩,
    fun g => (k.gap g).trans (h.gap g), k.tagCounter.trans h.tagCounter⟩

variable {s t : State} (h : WorkKeeps s t)
include h

theorem pending : t.pending = s.pending := (congrArg State.pending h.rest :)
theorem now : t.now = s.now := (congrArg State.now h.rest :)
theorem draws : t.draws = s.draws := (congrArg State.draws h.rest :)
theorem power : t.power = s.power := (congrArg State.power h.rest :)
theorem resetSource : t.resetSource = s.resetSource := (congrArg State.resetSource h.rest :)
theorem resetRun : t.resetRun = s.resetRun := (congrArg State.resetRun h.rest :)
theorem pins : t.pins = s.pins := (congrArg State.pins h.rest :)
theorem straps : t.straps = s.straps := (congrArg State.straps h.rest :)
theorem ltb : t.ltb = s.ltb := (congrArg State.ltb h.rest :)
theorem filterA : t.filterA = s.filterA := (congrArg State.filterA h.rest :)
theorem filterB : t.filterB = s.filterB := (congrArg State.filterB h.rest :)
theorem monA : t.monA = s.monA := (congrArg State.monA h.rest :)
theorem monB : t.monB = s.monB := (congrArg State.monB h.rest :)
theorem sel : t.sel = s.sel := (congrArg State.sel h.rest :)
theorem supply : t.supply = s.supply := (congrArg State.supply h.rest :)
theorem capFilters : t.capFilters = s.capFilters := (congrArg State.capFilters h.rest :)
theorem arms : t.arms = s.arms := (congrArg State.arms h.rest :)
theorem fronts : t.fronts = s.fronts := (congrArg State.fronts h.rest :)
theorem receiver : t.receiver = s.receiver := (congrArg State.receiver h.rest :)
theorem sending : t.sending = s.sending := (congrArg State.sending h.rest :)
theorem hp1Out : t.hp1Out = s.hp1Out := (congrArg State.hp1Out h.rest :)
theorem hp1Acks : t.hp1Acks = s.hp1Acks := (congrArg State.hp1Acks h.rest :)
theorem hp2Out : t.hp2Out = s.hp2Out := (congrArg State.hp2Out h.rest :)
theorem hp1Bus : t.hp1Bus = s.hp1Bus := (congrArg State.hp1Bus h.rest :)
theorem hp2Bus : t.hp2Bus = s.hp2Bus := (congrArg State.hp2Bus h.rest :)
theorem front (p : Port) : t.front p = s.front p := (congrArg (·.get p) h.fronts :)
theorem arm (p : Port) (i : CapInput) : t.arm p i = s.arm p i := (congrArg (fun a => (a.get p).get i) h.arms :)
theorem capFilter (i : CapInput) : t.capFilter i = s.capFilter i := (congrArg (·.get i) h.capFilters :)

end WorkKeeps

/-! ## The operations that the work is made of -/

theorem setChan_keeps (s : State) (c : Chan) (x : Channel) (hc : x.cfg = (s.chan c).cfg)
    (hf : x.feedback = (s.chan c).feedback) (hr : x.fbkRun = (s.chan c).fbkRun) : WorkKeeps s (s.setChan c x) := by
  refine ⟨rfl, fun _ => .refl _, fun d => ?_, fun d => ?_, fun _ => rfl, rfl⟩
  · rw [State.setChan_chan]; split
    · next e => subst e; exact hc
    · rfl
  · rw [State.setChan_chan]; split
    · next e => subst e; exact ⟨hf, hr⟩
    · exact ⟨rfl, rfl⟩

theorem vacate_keeps (g : GroupId) (s : State) : WorkKeeps s (vacate g s) := by
  refine ⟨rfl, fun _ => .refl _, fun _ => rfl, fun _ => ⟨rfl, rfl⟩, fun d => ?_, rfl⟩
  rw [vacate, State.setGroup_group]; split
  · next e => subst e; rfl
  · rfl

theorem setSched_keeps (s : State) (d : Schedule) (h : d.tagCounter = s.sched.tagCounter) :
    WorkKeeps s { s with sched := d } :=
  ⟨rfl, fun _ => .refl _, fun _ => rfl, fun _ => ⟨rfl, rfl⟩, fun _ => rfl, h⟩

theorem handTo_keeps (p : Port) (pos : Pos) (body : EventBody) (s : State) : WorkKeeps s (s.handTo p pos body) := by
  refine ⟨?_, State.handTo_placed p pos body s, fun _ => by simp, fun _ => by simp, fun _ => by simp, by simp⟩
  unfold State.handTo; split <;> rfl

theorem handToOwner_keeps (p : Option Port) (pos : Pos) (body : EventBody) (s : State) :
    WorkKeeps s (s.handToOwner p pos body) := by
  cases p with
  | none => exact .refl s
  | some p => exact handTo_keeps p pos body s

theorem handToFault_keeps (pos : Pos) (body : EventBody) (s : State) : WorkKeeps s (s.handToFault pos body) :=
  ⟨rfl, State.handToEach_placed _ pos body s, fun _ => by simp [State.handToFault],
    fun _ => by simp [State.handToFault], fun _ => by simp [State.handToFault], rfl⟩

theorem updateOccupancy_keeps (c : Chan) (s : State) : WorkKeeps s (updateOccupancy c s) := by
  unfold updateOccupancy
  dsimp only
  split
  · exact .refl s
  · have h := setChan_keeps s c { s.chan c with occupant := occupies (s.chan c) } rfl rfl rfl
    split
    · exact h.trans (vacate_keeps _ _)
    · exact h

theorem driveOff_keeps (pos : Pos) (ch : Channel) : (driveOff pos ch).cfg = ch.cfg ∧
    (driveOff pos ch).feedback = ch.feedback ∧ (driveOff pos ch).fbkRun = ch.fbkRun := ⟨rfl, rfl, rfl⟩

theorem enterOpening_keeps (now : Nat) (ch : Channel) : (enterOpening now ch).cfg = ch.cfg ∧
    (enterOpening now ch).feedback = ch.feedback ∧ (enterOpening now ch).fbkRun = ch.fbkRun := by
  unfold enterOpening; split <;> exact ⟨rfl, rfl, rfl⟩

theorem closeChannel_keeps (now : Nat) (pos : Pos) (ch : Channel) : (closeChannel now pos ch).cfg = ch.cfg ∧
    (closeChannel now pos ch).feedback = ch.feedback ∧ (closeChannel now pos ch).fbkRun = ch.fbkRun := by
  unfold closeChannel; dsimp only; split <;> exact ⟨rfl, rfl, rfl⟩

theorem overrideChannel_keeps (now : Nat) (pos : Pos) (ch : Channel) : (overrideChannel now pos ch).cfg = ch.cfg ∧
    (overrideChannel now pos ch).feedback = ch.feedback ∧ (overrideChannel now pos ch).fbkRun = ch.fbkRun := by
  unfold overrideChannel
  dsimp only
  split
  · split <;> exact ⟨rfl, rfl, rfl⟩
  · exact enterOpening_keeps now (driveOff pos ch)

theorem faultChannel_keeps (pos : Pos) (cause : FaultCause) (ch : Channel) : (faultChannel pos cause ch).cfg = ch.cfg ∧
    (faultChannel pos cause ch).feedback = ch.feedback ∧ (faultChannel pos cause ch).fbkRun = ch.fbkRun := by
  unfold faultChannel; dsimp only; split <;> exact ⟨rfl, rfl, rfl⟩

theorem closeCommand_keeps (c : Chan) (s : State) : WorkKeeps s (closeCommand c s).2 := by
  unfold closeCommand
  split
  · obtain ⟨h1, h2, h3⟩ := closeChannel_keeps s.now s.ltb.pos (s.chan c)
    exact (setChan_keeps s c _ h1 h2 h3).trans (updateOccupancy_keeps c _)
  · exact .refl s

theorem openCommand_keeps (c : Chan) (s : State) : WorkKeeps s (openCommand c s).2 := by
  unfold openCommand
  split
  · obtain ⟨h1, h2, h3⟩ := enterOpening_keeps s.now (driveOff s.ltb.pos (s.chan c))
    exact (setChan_keeps s c _ h1 h2 h3).trans (updateOccupancy_keeps c _)
  · exact .refl s

theorem overrideOpen_keeps (c : Chan) (s : State) : WorkKeeps s (overrideOpen c s) := by
  unfold overrideOpen
  split
  · obtain ⟨h1, h2, h3⟩ := overrideChannel_keeps s.now s.ltb.pos (s.chan c)
    exact (setChan_keeps s c _ h1 h2 h3).trans (updateOccupancy_keeps c _)
  · exact .refl s

theorem faultRecord_keeps (c : Chan) (cause : FaultCause) (s : State) : WorkKeeps s (faultRecord c cause s) := by
  unfold faultRecord
  dsimp only
  split
  · exact handTo_keeps _ _ _ s
  · exact handToFault_keeps _ _ s

theorem endClaim_keeps (c : Chan) (cause : EndedCause) (s : State) : WorkKeeps s (endClaim c cause s) :=
  (setChan_keeps s c _ (by rfl) (by rfl) (by rfl)).trans (handToOwner_keeps _ _ _ _)

theorem removeWhere_keeps (f : Entry → Bool) (s : State) : WorkKeeps s (s.removeWhere f) := setSched_keeps s _ rfl

theorem removeChannelEntries_keeps (c : Chan) (s : State) : WorkKeeps s (removeChannelEntries c s) :=
  (removeWhere_keeps _ s).trans (setChan_keeps _ c _ (by rfl) (by rfl) (by rfl))

theorem insertPending_keeps (e : Entry) (due fire : Pos) (s : State) : WorkKeeps s (s.insertPending e due fire) :=
  setSched_keeps s _ rfl

theorem insertWaiting_keeps (e : Entry) (s : State) : WorkKeeps s (s.insertWaiting e) := setSched_keeps s _ rfl

theorem drainTest_keeps (c : Chan) (s : State) : WorkKeeps s (drainTest c s).1 := by
  unfold drainTest
  dsimp only
  split
  · exact .refl s
  · split
    · exact (removeChannelEntries_keeps c s).trans (endClaim_keeps c _ _)
    · split
      · exact .refl s
      · split
        · exact endClaim_keeps c _ s
        · exact endClaim_keeps c _ s
        · exact setChan_keeps s c _ (by rfl) (by rfl) (by rfl)
        · exact .refl s

theorem endFiring_keeps (e : Entry) (due : Pos) (s : State) : WorkKeeps s (endFiring e due s).1 := by
  unfold endFiring
  split
  · split
    · exact insertPending_keeps _ _ _ s
    · exact .refl s
  · exact .refl s

theorem resolveDeferred_keeps (inLoop : Bool) (tag : Tag) (s : State) : WorkKeeps s (resolveDeferred inLoop tag s).1 := by
  unfold resolveDeferred
  split
  · exact .refl s
  · have h : WorkKeeps s
        { s with sched := { s.sched with deferred := s.sched.deferred.filter fun y => decide (y.entry.tag ≠ tag) } } :=
      setSched_keeps s _ rfl
    dsimp only
    split
    · split
      · exact h
      · exact h.trans (insertPending_keeps _ _ _ _)
    · exact h

theorem resolveHeld_keeps (inLoop : Bool) (c : Chan) (tag : Tag) (body : Nat → EventBody) (s : State) :
    WorkKeeps s (resolveHeld inLoop c tag body s).1 :=
  (handToOwner_keeps _ _ _ s).trans (resolveDeferred_keeps inLoop tag _)

theorem clearPendingOpen_keeps (c : Chan) (s : State) : WorkKeeps s (clearPendingOpen c s) :=
  setChan_keeps s c _ (by rfl) (by rfl) (by rfl)

/-- What the execution of a pending open can do. -/
theorem executePendingOpen_keeps (inLoop : Bool) (c : Chan) (p : PendingOpen) (already : Bool) (s : State) :
    WorkKeeps s (executePendingOpen inLoop c p already s).1 := by
  unfold executePendingOpen
  dsimp only
  split
  · exact (clearPendingOpen_keeps c s).trans (resolveHeld_keeps inLoop c _ _ _)
  · exact clearPendingOpen_keeps c s

theorem examinePendingOpen_keeps (inLoop : Bool) (c : Chan) (s : State) :
    WorkKeeps s (examinePendingOpen inLoop c s).1 := by
  have h := openCommand_keeps c s
  unfold examinePendingOpen
  split
  · exact .refl s
  · split
    · next e => rw [e] at h; exact h.trans (executePendingOpen_keeps inLoop c _ false _)
    · next e => rw [e] at h; exact h.trans (executePendingOpen_keeps inLoop c _ true _)
    · next e => rw [e] at h; exact h

theorem missedRecord_keeps (e : Entry) (reason : MissReason) (s : State) : WorkKeeps s (missedRecord e reason s) :=
  handTo_keeps _ _ _ s

theorem doneRecord_keeps (e : Entry) (already : Bool) (s : State) : WorkKeeps s (doneRecord e already s) :=
  handTo_keeps _ _ _ s

theorem issueMissed_keeps (x : PendingEntry) (reason : MissReason) (s : State) :
    WorkKeeps s (issueMissed x reason s).1 :=
  (missedRecord_keeps x.entry reason s).trans (endFiring_keeps x.entry x.due _)

theorem afterDone_keeps (x : PendingEntry) (s : State) : WorkKeeps s (afterDone x s).1 := by
  unfold afterDone
  split
  · exact insertPending_keeps _ _ _ s
  · exact endFiring_keeps _ _ s

theorem issueDone_keeps (x : PendingEntry) (already : Bool) (s : State) : WorkKeeps s (issueDone x already s).1 :=
  (doneRecord_keeps x.entry already s).trans (afterDone_keeps x _)

theorem handOff_keeps (x : PendingEntry) (c : Chan) (s : State) : WorkKeeps s (handOff x c s).1 := by
  have h : WorkKeeps s (s.setChan c { s.chan c with pendingOpen := some (.held x.entry.tag x.entry.label) }) :=
    setChan_keeps s c _ (by rfl) (by rfl) (by rfl)
  unfold handOff
  dsimp only
  split
  · split
    · exact h.trans (setSched_keeps _ _ rfl)
    · exact h
  · exact h

theorem issueAnswered_keeps (x : PendingEntry) (c : Chan) (a : Answer) (s : State) :
    WorkKeeps s (issueAnswered x c a s).1 := by
  unfold issueAnswered
  split
  · exact issueDone_keeps x false s
  · exact issueDone_keeps x true s
  · split
    · exact handOff_keeps x c s
    · exact issueMissed_keeps x _ s

theorem issue_keeps (x : PendingEntry) (s : State) : WorkKeeps s (issue x s).1 := by
  unfold issue
  dsimp only
  split
  · exact issueMissed_keeps x _ s
  · split
    · exact issueMissed_keeps x _ s
    · split
      · exact issueDone_keeps x false s
      · split
        · exact (closeCommand_keeps _ s).trans (issueAnswered_keeps x _ _ _)
        · exact (openCommand_keeps _ s).trans (issueAnswered_keeps x _ _ _)

theorem fireHead_keeps (s : State) : WorkKeeps s (fireHead s).1 := by
  unfold fireHead
  split
  · exact .refl s
  · next x l _ =>
    split
    · exact (setSched_keeps s { s.sched with pending := l } rfl).trans (issue_keeps x _)
    · exact .refl s

/-- What one task can do. -/
theorem Task.run_keeps (inLoop : Bool) (t : Task) (s : State) : WorkKeeps s (t.run inLoop s).1 := by
  cases t with
  | fire => exact fireHead_keeps s
  | fireOn => exact fireHead_keeps s
  | examine c => exact examinePendingOpen_keeps inLoop c s
  | drain c => exact drainTest_keeps c s
  | changed c => exact updateOccupancy_keeps c s

/-! ## The induction over tasks, once -/

/-- A relation that every task meets, and that is reflexive and transitive, is met by the work. -/
theorem work_rel (R : State → State → Prop) (refl : ∀ s, R s s) (trans : ∀ a b c, R a b → R b c → R a c)
    (task : ∀ inLoop (t : Task) s, R s (t.run inLoop s).1) (tasks : List Task) (s : State) : R s (work tasks s) := by
  unfold work
  generalize workFuel = n
  induction n generalizing tasks s with
  | zero => exact refl s
  | succ n ih =>
    cases tasks with
    | nil => exact refl s
    | cons t ts => exact trans _ _ _ (task _ t s) (ih _ _)

/-- A property that every task keeps is kept by the work. -/
theorem work_inv (P : State → Prop) (task : ∀ inLoop (t : Task) s, P s → P (t.run inLoop s).1) (tasks : List Task)
    (s : State) (h : P s) : P (work tasks s) :=
  work_rel (fun a b => P a → P b) (fun _ h => h) (fun _ _ _ f g h => g (f h)) task tasks s h

/-- What the work of one handling can do. -/
theorem work_keeps (tasks : List Task) (s : State) : WorkKeeps s (work tasks s) :=
  work_rel WorkKeeps WorkKeeps.refl (fun _ _ _ => WorkKeeps.trans) Task.run_keeps tasks s

/-- No task, no work. -/
@[simp] theorem work_nil (s : State) : work [] s = s := rfl

/-- One task done, with the tasks that come next in front of the rest. The number of tasks is below the bound of log 12. -/
theorem runTasks_cons (n : Nat) (t : Task) (ts : List Task) (s : State) :
    runTasks (n + 1) (t :: ts) s = runTasks n ((t.run (ts.contains .fireOn) s).2 ++ ts) (t.run (ts.contains .fireOn) s).1 :=
  rfl

/-- What an entry to FAULT can do. -/
theorem enterFault_keeps (c : Chan) (cause : FaultCause) (s : State) : WorkKeeps s (enterFault c cause s) := by
  obtain ⟨h1, h2, h3⟩ := faultChannel_keeps s.ltb.pos cause (s.chan c)
  have h := (setChan_keeps s c _ h1 h2 h3).trans (faultRecord_keeps c cause _)
  unfold enterFault
  dsimp only
  split
  · exact (h.trans (resolveHeld_keeps false c _ _ _)).trans (work_keeps _ _)
  · exact h.trans (work_keeps _ _)

/-! ## Claims and release -/

theorem overrideWork_keeps (c : Chan) (s : State) : WorkKeeps s (overrideWork c s) := by
  unfold overrideWork
  split
  · exact (overrideOpen_keeps c s).trans (work_keeps _ _)
  · exact .refl s

theorem gracefulRelease_keeps (c : Chan) (s : State) : WorkKeeps s (gracefulRelease c s) := by
  unfold gracefulRelease
  dsimp only
  split
  · refine WorkKeeps.trans ?_ (work_keeps _ _)
    exact WorkKeeps.trans (setChan_keeps s c _ (by rfl) (by rfl) (by rfl)) (setSched_keeps _ _ (by rfl))
  · exact .refl s

theorem freeByForce_keeps (c : Chan) (s : State) : WorkKeeps s (freeByForce c s) := by
  unfold freeByForce
  dsimp only
  split
  · exact (setChan_keeps s c _ (by rfl) (by rfl) (by rfl)).trans (overrideWork_keeps c _)
  · exact setChan_keeps s c _ (by rfl) (by rfl) (by rfl)

theorem forcedRelease_keeps (c : Chan) (s : State) : WorkKeeps s (forcedRelease c s) :=
  (((removeChannelEntries_keeps c s).trans (freeByForce_keeps c _)).trans (handToOwner_keeps _ _ _ _)).trans
    (setChan_keeps _ c _ (by rfl) (by rfl) (by rfl))

/-- A relation that is reflexive and transitive and that one turn meets is met by a fold. -/
theorem foldl_rel {α : Type} (R : State → State → Prop) (refl : ∀ s, R s s) (trans : ∀ a b c, R a b → R b c → R a c)
    (f : State → α → State) (turn : ∀ s x, R s (f s x)) (l : List α) (s : State) : R s (l.foldl f s) := by
  induction l generalizing s with
  | nil => exact refl s
  | cons x l ih => exact trans _ _ _ (turn s x) (ih _)

theorem releaseChans_keeps (mode : ReleaseMode) (set : List Chan) (s : State) : WorkKeeps s (releaseChans mode set s) := by
  refine foldl_rel WorkKeeps WorkKeeps.refl (fun _ _ _ => WorkKeeps.trans) _ (fun s c => ?_) set s
  cases mode with
  | graceful => exact gracefulRelease_keeps c s
  | forced => exact forcedRelease_keeps c s

theorem releaseForSessionEnd_keeps (p : Port) (s : State) : WorkKeeps s (releaseForSessionEnd p s) := by
  refine foldl_rel WorkKeeps WorkKeeps.refl (fun _ _ _ => WorkKeeps.trans) _ (fun s c => ?_) allChans s
  unfold endHold
  split
  · exact (freeByForce_keeps c s).trans (setChan_keeps _ c _ (by rfl) (by rfl) (by rfl))
  · exact .refl s

theorem claimChans_keeps (p : Port) (set : List Chan) (s : State) : WorkKeeps s (claimChans p set s) := by
  refine foldl_rel WorkKeeps WorkKeeps.refl (fun _ _ _ => WorkKeeps.trans) _ (fun s c => ?_) set s
  unfold claimChan
  split
  · exact setChan_keeps _ c _ (by rfl) (by rfl) (by rfl)
  · exact .refl s

end Sys2Proof.Machine
end

