-- ==== Sys2Proof/Tests/Slice0.lean ====
section
/-! SUPPORT. The model's own tests: the refusals of WellFormed; the spec's worked examples, each named by its place; and, for
every statement with hypotheses, a state and operands that meet them together (`witness_<statement>`). -/

namespace Sys2Proof.Tests

open Sys2Proof.Machine

-- One test at a time: elaborated side by side, they wait for the model's declarations with a thread each.
set_option Elab.async false

/-! ## States to test on -/

/-- A state with a channel record changed. -/
def onChan (c : Chan) (f : Channel → Channel) (s : State) : State := s.setChan c (f (s.chan c))

/-- A state with a session record changed. -/
def onSession (p : Port) (f : Session → Session) (s : State) : State := s.setSession p (f (s.session p))

/-- The port is ATTACHED. -/
def attached (p : Port) (s : State) : State := onSession p (fun r => { r with attached := true }) s

/-- The port is ATTACHED and holds the channel. -/
def holding (p : Port) (c : Chan) (s : State) : State := onChan c (fun ch => { ch with claim := .held p }) (attached p s)

/-- The channel is CLOSED with its drive on. -/
def closedChan (c : Chan) (s : State) : State := onChan c (fun ch => { ch with state := .closed, drive := true }) s

/-- The channel's feedback mode is PRESENT, in this state of Table 4-2, with the verify timer of a moving one. -/
def verified (c : Chan) (x : ChanState) (feedback : Bool) (s : State) : State :=
  onChan c (fun ch =>
    { ch with
      state := x, drive := drivenState x, feedback := feedback, verifyAt := if movingState x then some 40000 else none
      cfg := { ch.cfg with present := true } }) s

/-- The channel is a member of the group, and an occupant or not. -/
def inGroup (c : Chan) (g : GroupId) (occupant : Bool) (s : State) : State :=
  onChan c (fun ch => { ch with cfg := { ch.cfg with group := some g }, occupant := occupant }) s

/-- A timebase at this lock state and position, P 80,000. -/
def atLine (lock : LockState) (pos : Pos) (s : State) : State :=
  { s with ltb := { s.ltb with lock := lock, pos := pos, started := true } }

/-- The accumulator stands one count before an advance, P being 80,000. -/
def dueSoon (s : State) : State := { s with ltb := { s.ltb with acc := 78976 } }

/-- LOCKED at cycle 5, step 100, one count before the advance. -/
def running : State := dueSoon (atLine .locked (posOf 5 100) State.reset)

/-- A buffer and a held request put into a port's front end. -/
def buffered (p : Port) (b : Buffer) (held : Option Frame) (s : State) : State :=
  s.setFront p { s.front p with buffer := b, held := held }

/-- The OK response to a NOP with SEQ 0x11 (R173's example). -/
def nopResponse : Response := { seq := 0x11, status := .ok, payload := [] }

/-- The held request NOP with SEQ 0x12. -/
def heldNop : Frame := { seq := 0x12, body := .good .nop }

/-- An entry of port 0 under tag 9, tolerance ANY. -/
def entryOf (a : Action) (rep : Option Repeat) : Entry :=
  { tag := 9, owner := 0, action := a, label := 7, tol := .any, rep := rep, trig := none, lastRun := false, adm := 1 }

/-- The entry PENDING, due and firing at the position that the next advance of `running` reaches. -/
def nextUp (e : Entry) : PendingEntry := { entry := e, due := posOf 5 101, fire := posOf 5 101 }

/-- The state with one entry PENDING. -/
def withPending (x : PendingEntry) (s : State) : State := { s with sched := { s.sched with pending := [x] } }

/-- A state in which the filter of REFA has qualified low. -/
def lowA (s : State) : State := s.setRefFilter .a { RefFilter.reset with level := some false }

/-- SET DEVICE with its settings at the tops of their ranges. -/
def deviceArgs (mode : Byte) : SetDeviceArgs :=
  { mode := mode, offsetA := 1023, offsetB := 1023, limit := 255, shed := 1, gap1 := 1023, gap2 := 0, gap3 := 0, gap4 := 0 }

/-- SET CHANNEL of a channel, its configuration in range. -/
def channelArgs (channel group feedback : Byte) : SetChannelArgs :=
  { channel := channel, closeLead := 1023, openLead := 0, onDwell := 0, offDwell := 65535, group := group, safe := 0
    feedback := feedback, verify := 255 }

/-- SCHEDULE of a MARK, RELATIVE, ten cycles ahead. -/
def markArgs : ScheduleArgs :=
  { kind := 3, channel := 0xFF, label := 7, tolerance := 2, form := 1, dueCycle := 10, dueStep := 0, input := 0, edge := 0
    delay := 0, width := 0, repeatFlag := 0, interval := 0, count := 0 }

/-! ## Reading an outcome -/

/-- A property of the next state, decided. -/
def after (o : Host.Outcome State Fault Refusal) (f : State → Bool) : Bool :=
  match o with
  | .next t => f t
  | .fault _ => false
  | .refused _ => false

/-- The status of the response that is being composed on a port. -/
def statusOf (p : Port) (s : State) : Option Status :=
  match (s.front p).buffer with
  | .pending r _ => some r.status
  | _ => none

/-- Commands one after another. -/
def runAll : List Instr → State → State
  | [], s => s
  | c :: l, s =>
    match exec c s with
    | .next t => runAll l t
    | _ => s

/-! ## WellFormed refuses -/

theorem test_refuses_no_frame : (Instr.hp0RequestFrame ⟨[0x02, 0x11, 0x00], 0⟩).wellFormed = false := by decide +kernel

theorem test_refuses_good_stray_byte : (Instr.hp0StrayByte ⟨rxGood 0xC3, 0⟩).wellFormed = false := by decide +kernel

theorem test_refuses_undamaged_frame : (Instr.hp0DamagedFrame ⟨[rxGood 0x02, rxGood 0x11], 0⟩).wellFormed = false := by decide +kernel

theorem test_refuses_command_byte :
    (Instr.hp2BadCommandByte 0x5A []).wellFormed = false ∧ (Instr.hp2BadCommandByte 0xA5 []).wellFormed = false := by
  decide +kernel

theorem test_refuses_no_whole_byte : (Instr.hp2CsHighTooShort []).wellFormed = false := by decide +kernel

/-! ## No row gives bits -/

theorem test_no_word_spells_a_command : decodeTableWord 8 0x5A = none := rfl

theorem test_fetch_word_changes_nothing : State.reset.withFetchWord 8 0x5A = State.reset := rfl

/-! ## Frames and records (10.2, 11.9) -/

/-- 10.2, "two CRC values". -/
theorem test_crc_values : crc [0x02, 0x00, 0x15] = 0x48 ∧ crc [0x02, 0x11, 0x00] = 0xB9 := by decide +kernel

/-- 10.2: the NOP request of the example is read, and its response has the same CRC. -/
theorem test_nop_frame :
    checkFrame [0x02, 0x11, 0x00, 0xB9] = some { seq := 0x11, body := .good .nop }
      ∧ responseFrame nopResponse = [0x02, 0x11, 0x00, 0xB9] := by decide +kernel

/-- R174, R154: a wrong CRC, and a code of no request. -/
theorem test_bad_frames :
    checkFrame [0x02, 0x11, 0x00, 0xB8] = some { seq := 0x11, body := .checkError }
      ∧ checkFrame ([0x02, 0x11, 0x15] ++ [crc [0x02, 0x11, 0x15]]) = some { seq := 0x11, body := .badRequest } := by
  decide +kernel

/-- 11.9, "one DONE record", with sequence 5. -/
theorem test_done_record :
    recordBytes { seq := 5, pos := posOf 300 458, body := .done 0x0123 7 .pulse true (some 4) false true 2 }
      = [0x01, 0x00, 0x05, 0x00, 0x00, 0x01, 0x2C, 0x01, 0xCA, 0x01, 0x23, 0x07, 0x82, 0x04, 0x02, 0x02] := by decide +kernel

/-! ## The timebase (01, 02) -/

/-- 1.2, "step lengths at 50 Hz": the first step lasts 79 counts and leaves 896, the second 78 and leaves 768. -/
theorem test_step_lengths :
    let l := (atLine .locked (posOf 5 100) State.reset).ltb
    let second := countLtb^[79] l
    countsToAdvance l = 79 ∧ (countLtb^[78] l).pos = posOf 5 100 ∧ second.pos = posOf 5 101 ∧ second.acc = 896
      ∧ countsToAdvance second = 78 ∧ (countLtb^[78] second).pos = posOf 5 102 ∧ (countLtb^[78] second).acc = 768 := by
  decide +kernel

/-- R3: from reset, eight counts low and eight high are an edge at the sixteenth count; seven low ones are none. -/
theorem test_edge_after_reset :
    (runAll [.referenceEdge .a 16] State.reset).monA.lastEdge = some 16
      ∧ (runAll [.referenceEdge .a 15] State.reset).monA.lastEdge = none := by decide +kernel

/-- R15: the command is the crossing from step 1023; at another step it is nothing. -/
theorem test_holdover_expires_at_crossing :
    let s := fun step => { dueSoon (atLine .holdover (posOf 29 step) State.reset) with
      ltb := { (dueSoon (atLine .holdover (posOf 29 step) State.reset)).ltb with holdCount := 24 } }
    (runAll [.holdoverExpired] (s 1023)).ltb.lock = .lost ∧ (runAll [.holdoverExpired] (s 1023)).ltb.pos = posOf 30 0
      ∧ (runAll [.holdoverExpired] (s 1022)).ltb = (s 1022).ltb := by decide +kernel

/-- 1.5, "reacquisition moves". -/
theorem test_reacquisition_moves :
    nearestPosition 0 (posOf 9000 700) = posOf 9001 0 ∧ nearestPosition 0 (posOf 9000 300) = posOf 9000 0 := by
  decide +kernel

/-- 1.6, "snaps at a cycle boundary", forward. -/
theorem test_snap_over_boundary :
    snapTarget 10 (posOf 500 1015) = posOf 501 10 ∧ inWindow 10 1002 = true ∧ inWindow 10 1001 = false
      ∧ inWindow 10 41 = true ∧ inWindow 10 42 = false := by decide +kernel

/-- R24: the limit of 120,000 counts of 2.6. -/
theorem test_silence_limit :
    silenceLimit { qualified := true, good := 8, lastEdge := some 0, lastInterval := some 80000 } = 120000 := by decide +kernel

/-- 8.2, "fractions at 50 Hz". -/
theorem test_stamp_fractions :
    stampFraction { Ltb.reset with acc := 40960 } = 131 ∧ stampFraction { Ltb.reset with acc := 31616 } = 101 := by
  decide +kernel

/-! ## The schedule and the channels (03, 04, 05) -/

/-- 3.4, "a pulse that repeats": the fire positions of both phases. -/
theorem test_pulse_fire_positions :
    let s := onChan 4 (fun ch => { ch with cfg := { ch.cfg with closeLead := 12, openLead := 8 } }) State.reset
    fireOf s (.pulse 4 300 false) (posOf 2000 256) = posOf 2000 244
      ∧ fireOf s (.pulse 4 300 true) (posOf 2000 256) = posOf 2000 548 := by decide +kernel

/-- 12.1: a close meets the other contactor in the group, and then the break gap of 200 steps after 5000/482. -/
theorem test_changeover :
    let other := inGroup 1 0 false (inGroup 0 0 true (closedChan 0 (atLine .locked (posOf 5000 260) State.reset)))
    let vacated := (inGroup 1 0 false (inGroup 0 0 false State.reset)).setGroup 0 { vacated := some (posOf 5000 482), gap := 200 }
    closeAnswer other 1 = .refused .interlock
      ∧ closeAnswer (atLine .locked (posOf 5000 660) vacated) 1 = .refused .gap
      ∧ closeAnswer (atLine .locked (posOf 5000 681) vacated) 1 = .refused .gap
      ∧ closeAnswer (atLine .locked (posOf 5000 682) vacated) 1 = .accepted := by decide +kernel

/-- 4.7, "a deferred open under feedback verification": the SECOND phase meets CLOSING and becomes a held open, which
executes at the feedback change. -/
theorem test_deferred_open :
    let s := withPending (nextUp (entryOf (.pulse 2 20 true) none)) (holding 0 2 (verified 2 .closing false running))
    let t := runAll [.advance] s
    let u := runAll [.feedbackChange 2 ⟨true, 0⟩] t
    (t.chan 2).pendingOpen = some (.held 9 7) ∧ t.sched.pending = [] ∧ (t.session 0).queue = []
      ∧ (u.chan 2).state = .opening ∧ (u.chan 2).drive = false
      ∧ (u.session 0).queue =
        [{ seq := 0, pos := posOf 5 101, body := .done 9 7 .pulse true (some 2) false true 0 }] := by decide +kernel

/-! ## Requests (06, 09) -/

/-- 6.2, "all or nothing". -/
theorem test_claim_all_or_nothing :
    let s := holding 1 2 (holding 0 1 State.reset)
    let t := runAll [.claim 0 1 0b111] s
    let u := runAll [.claim 0 2 0b011] s
    statusOf 0 t = some .heldByOther ∧ (t.chan 0).claim = .free ∧ statusOf 0 u = some .ok ∧ (u.chan 0).claim = .held 0 := by
  decide +kernel

/-- 9.11, rows 1 to 7 and 10, each response composed before the next request. -/
theorem test_first_requests :
    let c := Instr.responseComposed 1
    let close : ScheduleArgs := { markArgs with kind := 0, channel := 4 }
    let s2 := runAll [.claim 1 2 0x10] State.reset
    let s3 := runAll [c, .attach 1 3 20 1] s2
    let s4 := runAll [c, .schedule 1 4 { close with dueStep := 1500 }] s3
    let s5 := runAll [c, .schedule 1 5 close] s4
    let s6 := runAll [c, .claim 1 6 0x10] s5
    let s7 := runAll [c, .schedule 1 7 close] s6
    statusOf 1 s2 = some .notAttached ∧ statusOf 1 s3 = some .ok ∧ (s3.session 1).expireAt = some 8000000
      ∧ statusOf 1 s4 = some .badParameter ∧ statusOf 1 s5 = some .notOwner ∧ statusOf 1 s6 = some .ok
      ∧ statusOf 1 s7 = some .notStarted := by decide +kernel

/-- 9.11 row 1: READ STATUS after power-on. -/
theorem test_status_after_reset :
    statusPayload 1 State.reset
      = [0, 0, 0, 0, 0, 0, 0, 0, 0, 0, 0x01, 0x38, 0x80, 0, 0, 0, 0, 0, 0, 0, 0, 0x08, 0, 0, 0, 0, 24] := by
  decide +kernel

/-! ## Ports and capture (08, 10) -/

/-- 10.4, "one exchange on HP1": the address 0x29, a partial read, a whole read, a read of an empty buffer, a write with an
extra byte. -/
theorem test_hp1_exchange :
    let s := { State.reset with straps := { addr0 := true, addr1 := false, baud0 := false, baud1 := false } }
    let a := runAll [.hp1WriteTransaction 0x29 [0x02, 0x11, 0x00, 0xB9]] s
    let b := runAll [.responseComposed 1, .hp1ReadTransaction 0x29 2] a
    let c := runAll [.hp1ReadTransaction 0x29 4] b
    let d := runAll [.hp1ReadTransaction 0x29 5] c
    let e := runAll [.hp1WriteTransaction 0x29 ([0x02, 0x12, 0x00] ++ [crc [0x02, 0x12, 0x00]] ++ [0x00])] d
    a.hp1Acks = 5 ∧ b.hp1Out = [0x02, 0x11] ∧ (b.front 1).buffer = .ready nopResponse
      ∧ c.hp1Out = [0x02, 0x11, 0x00, 0xB9] ∧ (c.front 1).buffer = .empty ∧ d.hp1Out = [0x02, 0x00, 0x15, 0x48, 0xFF]
      ∧ e.hp1Acks = 5 ∧ (e.front 1).frameErrors = 1 ∧ (e.front 1).buffer = .empty := by decide +kernel

/-- R182: a read of no byte waits for the PENDING response, which it leaves READY; one request behind another waits for both. -/
theorem test_hp1_read_of_no_byte :
    let t := runAll [.hp1ReadTransaction 0x28 0] (buffered 1 (.pending nopResponse 800) none running)
    let u := runAll [.hp1ReadTransaction 0x28 0] (buffered 1 (.pending nopResponse 800) (some heldNop) running)
    (t.front 1).buffer = .ready nopResponse ∧ t.hp1Out = [] ∧ t.hp1Acks = 1
      ∧ (u.front 1).buffer = .ready { seq := 0x12, status := .ok, payload := [] } ∧ (u.front 1).held = none := by
  decide +kernel

/-- R177: a byte 0x00 whose stop bit is low leaves RXD low; the quiet that ends DISCARDING begins afresh while it is low. -/
theorem test_break_on_rxd :
    let zero : RxByte := { data := 0, parityBit := false, stopBit := false }
    let t := runAll [.hp0StrayByte ⟨zero, 0⟩] { State.reset with receiver := .receiving [] 0 }
    t.receiver = .discarding 0 ∧ (t.front 0).frameErrors = 1 ∧ t.pins.rxd = false ∧ (tick t).receiver = .discarding 1
      ∧ (tick { t with pins := { t.pins with rxd := true } }).receiver = .discarding 0 := by decide +kernel

/-- R178: a start bit after a gap of exactly 8000 counts, whose byte is received 3 counts on, is of the frame; one count later
the partial frame is discarded, and the byte is stray. -/
theorem test_gap_to_start_bit :
    let at8000 := { State.reset with now := 8000, receiver := .receiving [] 0 }
    let t := runAll [.hp0StrayByte ⟨rxGood 0x02, 3⟩] at8000
    let u := runAll [.hp0StrayByte ⟨rxGood 0x02, 3⟩] (tick at8000)
    t.receiver = .receiving [0x02] 8003 ∧ (t.front 0).frameErrors = 0
      ∧ u.receiver = .idle ∧ (u.front 0).frameErrors = 2 ∧ u.now = 8004 := by decide +kernel

/-- R177: a start bit within the 2 ms of quiet begins them afresh, and its byte is discarded uncounted; after them it is
examined in IDLE. -/
theorem test_start_bit_in_quiet :
    let at8000 := { State.reset with now := 8000, receiver := .discarding 0 }
    let t := runAll [.hp0StrayByte ⟨rxGood 0xC3, 3⟩] at8000
    let u := runAll [.hp0StrayByte ⟨rxGood 0xC3, 3⟩] (tick at8000)
    t.receiver = .discarding 8003 ∧ (t.front 0).frameErrors = 0 ∧ u.receiver = .receiving [] 8004 := by decide +kernel

/-- R176: 0xC3 on the line, least significant bit first: start, 1 1 0 0 0 0 1 1, parity 0, stop. -/
theorem test_serial_bits :
    serialBits (rxGood 0xC3) = [false, true, true, false, false, false, false, true, true, false, true]
      ∧ readSerial (serialBits (rxGood 0xC3)) = some (rxGood 0xC3) := by decide +kernel

/-- R122, R172: a window and a composition that run out inside the two counts of an ADVANCE. -/
theorem test_timers_run_in_an_advance :
    let two := { running with ltb := { running.ltb with acc := 77952 } }
    let t := runAll [.advance] (onSession 2 (fun r => { r with keepalive := 1, expireAt := some 1 }) (attached 2 two))
    let u := runAll [.advance] (buffered 1 (.pending nopResponse 1) none two)
    t.now = 2 ∧ (t.session 2).attached = false ∧ (t.session 2).lastEnd = .expired
      ∧ (u.front 1).buffer = .ready nopResponse := by decide +kernel

/-- R120: a record placed behind the ATTACH at its own moment: the response shows next sequence 1. -/
theorem test_attach_with_record :
    let s := verified 3 .opened false State.reset
    let t := runAll [.attach 1 9 0 2, .feedbackChange 3 ⟨true, 0⟩, .responseComposed 1] s
    (t.session 1).queue.map (·.seq) = [0]
      ∧ (t.front 1).buffer = .ready { seq := 9, status := .ok, payload := [0, 0, 8, 0, 1] } := by decide +kernel

/-- R141: an edge at count 100; the input low from count 160 on, which a command at count 183 shows. The eighth count behind the
hold-off, 188, is the edge. -/
theorem test_level_over_end_of_hold_off :
    let s := { State.reset with now := 183 }.setCapFilter 1 { level := some true, run := SampleRun.none, holdOff := some 180 }
    let t := runAll [.captureEdge 1 .falling 4] s
    t.now = 187 ∧ (t.capFilter 1).level = some true ∧ ((tick t).capFilter 1).level = some false
      ∧ ((tick t).capFilter 1).holdOff = some 268 := by decide +kernel

/-- R46, R95: beside a snap forward a held SET DEVICE cannot come between its move and its offer, and a verify timer cannot
come before its move. -/
theorem test_order_around_a_snap :
    let s := withPending (nextUp (entryOf .mark none)) (attached 0 (lowA (atLine .locked (posOf 5 1000) State.reset)))
    let s := showRef .a true 8 (buffered 1 (.pending nopResponse 1) (some { seq := 1, body := .good (.setDevice (deviceArgs 1)) }) s)
    movesLine s (.refLevel .a true) = true ∧ mayPrecedeOffer s (.compose 1) = false ∧ mayPrecedeWork s (.compose 1) = true
      ∧ mayVacate s (.compose 1) = false ∧ mayVacate s (.verify 3) = true ∧ mayPrecedeOffer s (.verify 3) = true := by
  decide +kernel

/-- R95: at the count of a snap forward from step 1000 the last occupant's feedback opens. It waits for the move, and before
or behind its offer it vacates the group at step 0 of the next cycle. -/
theorem test_vacated_behind_a_snap :
    let s := showRef .a true 8 (lowA (atLine .locked (posOf 5 1000) State.reset))
    let s := onChan 3 (fun ch => { ch with state := .fault .uncommanded, feedback := true, fbkRun := ⟨false, 4000⟩ })
      (inGroup 3 1 true s)
    let edge := Due.refLevel .a true
    let opens := Due.fbkLevel 3 false
    dueNow s = [edge, opens] ∧ mayVacate s opens = true ∧ moveAhead [edge] (handleDue s opens) = true
      ∧ ((handleMove edge [opens] s).group 1).vacated = some (posOf 6 0)
      ∧ ((handleDue (handleMove edge [] s) opens).group 1).vacated = some (posOf 6 0) := by decide +kernel

/-- R95, R106: a held CANCEL can lead to a release open, which may vacate a group. -/
theorem test_held_cancel_may_vacate :
    mayVacate (buffered 1 (.pending nopResponse 1) (some { seq := 1, body := .good (.cancel 2 0 0) }) State.reset) (.compose 1)
      = true := by decide +kernel

/-- 8.5, first row: both arms report the rising edge, and the trigger makes a PENDING entry, due 200 steps on, fire 180. -/
theorem test_capture_three_ports :
    let e : Entry :=
      { tag := 77, owner := 1, action := .close 5, label := 0, tol := .any, rep := none
        trig := some { input := 1, edge := .rise, delay := 200 }, lastRun := false, adm := 1 }
    let s := onChan 5 (fun ch => { ch with cfg := { ch.cfg with closeLead := 20 } })
      (attached 0 (attached 2 (atLine .locked (posOf 4000 300) State.reset)))
    let s := { s with sched := { s.sched with waiting := [e] } }
    let s := ((s.setArm 0 1 (.armed .rise 2)).setArm 2 1 (.armed .both 0)).setCapFilter 1
      { CapFilter.reset with level := some false }
    let t := runAll [.captureEdge 1 .rising 0] s
    t.arm 0 1 = .armed .rise 1 ∧ t.arm 2 1 = .armed .both 0 ∧ t.sched.waiting = []
      ∧ t.sched.pending.map (fun x => (x.due, x.fire)) = [(posOf 4000 500, posOf 4000 480)]
      ∧ (t.session 0).queue.map (·.body) = [.capture 1 .rising 0 .locked 1]
      ∧ (t.session 2).queue.map (·.body) = [.capture 1 .rising 0 .locked 255] := by decide +kernel

/-! ## The invariants, as conjunctions that can be decided -/

/-- `Consecutive`, computed. -/
def consecutive (next : BitVec 16) : List EventRecord → Bool
  | [] => true
  | [r] => decide (r.seq + 1 = next)
  | r :: r' :: l => decide (r.seq + 1 = r'.seq) && consecutive next (r' :: l)

theorem consecutive_sound (next : BitVec 16) : ∀ l, consecutive next l = true → Consecutive next l
  | [], _ => trivial
  | [r], h => of_decide_eq_true (p := r.seq + 1 = next) h
  | _ :: r' :: l, h => by
    rw [consecutive, Bool.and_eq_true] at h
    exact ⟨of_decide_eq_true h.1, consecutive_sound next (r' :: l) h.2⟩

theorem sessionOk_of {r : Session}
    (h : r.queue.length ≤ 16 ∧ consecutive r.nextSeq r.queue = true ∧ (0 < r.lost → r.queue.length = 16) ∧ r.lost ≤ 255
      ∧ r.attn = (!r.queue.isEmpty)
      ∧ (r.attached = false →
          r.queue = [] ∧ r.lost = 0 ∧ r.keepalive = 0 ∧ r.subs = { timebase := false, fault := false })
      ∧ (r.expireAt.isSome = true ↔ r.keepalive ≠ 0)) : SessionOk r :=
  ⟨h.1, consecutive_sound _ _ h.2.1, h.2.2.1, h.2.2.2.1, h.2.2.2.2.1, h.2.2.2.2.2.1, h.2.2.2.2.2.2⟩

theorem timebaseOk_of {l : Ltb}
    (h : (l.started = false ↔ l.lock = .stopped) ∧ (l.lock = .stopped → l.pos = 0 ∧ l.acc = 0)
      ∧ (l.history.length = 8 ∧ ∀ i ∈ l.history, 57143 ≤ i ∧ i ≤ 100000) ∧ l.period = meanOf l.history
      ∧ (l.lock = .locked → l.missCount < 2) ∧ (l.lock = .holdover → l.relockCount < 2)
      ∧ (∀ i ∈ l.acq.run, 57143 ≤ i ∧ i ≤ 100000) ∧ (l.lock = .stopped ∨ l.lock = .lost → l.acq.run.length < 8)) :
    TimebaseOk l :=
  ⟨h.1, h.2.1, h.2.2.1, h.2.2.2.1, h.2.2.2.2.1, h.2.2.2.2.2.1, h.2.2.2.2.2.2.1, h.2.2.2.2.2.2.2⟩

/-- `ChannelOk`, computed. -/
def channelSound (ch : Channel) : Bool :=
  decide (ch.drive = drivenState ch.state) && decide (ch.verifyAt.isSome = movingState ch.state)
    && decide (movingState ch.state = true → ch.cfg.present = true)
    && decide (inFault ch.state = true → ch.pendingOpen = none)
    && decide (ch.cfg.group = none → ch.occupant = false)
    && decide (ch.cfg.group.isSome = true → drivenState ch.state = true ∨ movingState ch.state = true → ch.occupant = true)

theorem channelSound_ok {ch : Channel} (h : channelSound ch = true) : ChannelOk ch := by
  simp only [channelSound, Bool.and_eq_true, decide_eq_true_eq] at h
  exact ⟨h.1.1.1.1.1, h.1.1.1.1.2, h.1.1.1.2, h.1.1.2, h.1.2, h.2⟩

/-- `OneDrive`, computed. -/
def drivesApart (s : State) : Bool :=
  allChans.all fun c => allChans.all fun d =>
    decide (c = d) || !(s.chan c).drive || !(s.chan d).drive || !(s.chan c).cfg.group.isSome
      || decide ((s.chan c).cfg.group ≠ (s.chan d).cfg.group)

theorem mem_allChans (c : Chan) : c ∈ allChans := by revert c; decide

theorem drivesApart_ok {s : State} (h : drivesApart s = true) : OneDrive s := by
  intro c d ne hc hd hg
  have := List.all_eq_true.mp (List.all_eq_true.mp h c (mem_allChans c)) d (mem_allChans d)
  simpa [ne, hc, hd, hg] using this

theorem switchingOk_of {s : State} (h : (∀ c, channelSound (s.chan c) = true) ∧ drivesApart s = true) : SwitchingOk s :=
  ⟨fun c => channelSound_ok (h.1 c), drivesApart_ok h.2⟩

theorem ownershipOk_of {s : State}
    (h : (∀ e ∈ allEntries s.sched, ∀ c, chanOf e.action = some c → ownerOf (s.chan c).claim = some e.owner)
      ∧ (∀ c, (s.chan c).claim = .free → (s.chan c).pendingOpen = none)
      ∧ (∀ p, (s.session p).attached = false → ∀ c, s.holds p c = false)
      ∧ (∀ p, (s.session p).attached = false → ∀ e ∈ allEntries s.sched, e.owner ≠ p)
      ∧ (∀ p, (s.session p).attached = false → ∀ i, s.arm p i = .idle)) : OwnershipOk s :=
  ⟨h.1, h.2.1, h.2.2.1, h.2.2.2.1, h.2.2.2.2⟩

theorem tagsOk_of {s : State}
    (h : (liveTags s ++ heldTags s).Nodup ∧ ((allEntries s.sched).map (·.tag)).Nodup
      ∧ (∀ x ∈ s.sched.deferred,
          ∃ c, chanOf x.entry.action = some c ∧ heldTag (s.chan c).pendingOpen = some x.entry.tag)
      ∧ (∀ e ∈ allEntries s.sched, e.tag ≠ 0)) : TagsOk s :=
  ⟨h.1, h.2.1, h.2.2.1, h.2.2.2⟩

/-! ## Every statement's hypotheses are met -/

/-- A state at work: LOCKED, mode AUTO, channel 0 CLOSED in group 1 with a full queue behind it, channel 1 CLOSING with a held
open and its DEFERRED entry, a PENDING and a WAITING entry, one arm record. -/
def atWork : State :=
  let rep : Repeat := { interval := 4, count := 5, remaining := 4 }
  let records := (List.range 16).map fun n =>
    ({ seq := BitVec.ofNat 16 (65530 + n), pos := 0, body := .supply false [] } : EventRecord)
  let s := inGroup 0 0 true (closedChan 0 (holding 0 0 (verified 1 .closing false (holding 0 1 running))))
  let s := onChan 1 (fun ch => { ch with pendingOpen := some (.held 11 7) }) s
  let s := onSession 0 (fun r => { r with queue := records, nextSeq := 10, lost := 255, attn := true }) s
  { s.setArm 0 0 (.armed .rise 1) with
    pending := [.advance]
    sel := { s.sel with mode := .auto }
    sched :=
      { s.sched with
        pending := [nextUp (entryOf (.openUp 0) none)]
        waiting := [{ entryOf .mark none with tag := 10, trig := some { input := 0, edge := .both, delay := 4 } }]
        deferred := [{ entry := { entryOf (.pulse 1 50 true) (some rep) with tag := 11 }, due := posOf 5 50 }] } }

theorem atWork_sessions : SessionsOk atWork := fun p => sessionOk_of (by revert p; decide +kernel)
theorem atWork_timebase : TimebaseOk atWork.ltb := timebaseOk_of (by decide +kernel)
theorem atWork_switching : SwitchingOk atWork := switchingOk_of (by decide +kernel)
theorem atWork_ownership : OwnershipOk atWork := ownershipOk_of (by decide +kernel)
theorem atWork_tags : TagsOk atWork := tagsOk_of (by decide +kernel)

/-- Nothing due; one thing due, without and with a filter; a low of 40 counts; and a part in reset, held and released. -/
theorem witness_IdleStepIsOneCount :
    let silent := State.reset.setMonitor .a { qualified := false, good := 0, lastEdge := some 0, lastInterval := none }
    let silent := { silent with now := 149999 }
    let edge := { State.reset.setCapFilter 3 { level := some false, run := { level := true, count := 7 }, holdOff := none } with
      pins := { State.reset.pins with cap := 8 } }
    let low := { State.reset with
      pins := { State.reset.pins with resetN := false }, resetRun := { level := false, count := 39 } }
    let held := { State.reset with power := .inReset false, resetRun := { level := true, count := 7 } }
    State.reset.pending = [] ∧ State.reset.power = .running ∧ (nextCount State.reset).resetRun ≠ { level := false, count := 40 }
      ∧ dueNow (nextCount State.reset) = [] ∧ advances State.reset.ltb = false
      ∧ silent.pending = [] ∧ dueNow (nextCount silent) = [.silence .a] ∧ advances silent.ltb = false
      ∧ edge.pending = [] ∧ dueNow (nextCount edge) = [.capLevel 3 true]
      ∧ clearOfHoldOff 8 1 ((nextCount edge).capFilter 3) = 8
      ∧ (nextCount low).resetRun = { level := false, count := 40 } ∧ low.pending = []
      ∧ held.power = .inReset false ∧ held.pending = [] := by decide +kernel

theorem witness_SessionsStayInOrder : SessionsOk atWork ∧ ∃ t, step atWork = .next t := ⟨atWork_sessions, step_next _⟩

theorem witness_TimebaseStaysInOrder :
    TimebaseOk atWork.ltb ∧ EmptyWhileStopped atWork ∧ ∃ t, step atWork = .next t :=
  ⟨atWork_timebase, by unfold EmptyWhileStopped; decide +kernel, step_next _⟩

theorem witness_StoreStaysWithin : StoreOk atWork ∧ ∃ t, step atWork = .next t :=
  ⟨by unfold StoreOk; decide +kernel, step_next _⟩

theorem witness_SwitchingStaysExclusive : SwitchingOk atWork ∧ ∃ t, step atWork = .next t :=
  ⟨atWork_switching, step_next _⟩

theorem witness_OwnershipStays : SwitchingOk atWork ∧ OwnershipOk atWork ∧ ∃ t, step atWork = .next t :=
  ⟨atWork_switching, atWork_ownership, step_next _⟩

theorem witness_TagsStayDistinct :
    StoreOk atWork ∧ SwitchingOk atWork ∧ OwnershipOk atWork ∧ TagsOk atWork ∧ ∃ t, step atWork = .next t :=
  ⟨by unfold StoreOk; decide +kernel, atWork_switching, atWork_ownership, atWork_tags, step_next _⟩

theorem witness_StandingConditionStaysFalse : standingCondition atWork = false ∧ ∃ t, step atWork = .next t :=
  ⟨by decide +kernel, step_next _⟩

theorem witness_FramesAreTheirRequests :
    State.reset.power = .running ∧ (wireCounts 2 State.reset).power = .running
      ∧ (wireCounts 2 State.reset).receiver = .idle := by decide +kernel

/-- Each clause in turn; on HP0 with the transmitter busy, and idle; and the response to an ATTACH in its own count. -/
theorem witness_ResponseBuffer :
    let pending := fun p h => buffered p (.pending nopResponse 800) h State.reset
    takesRequest ((pending 1 none).front 1).buffer = false
      ∧ ((pending 1 none).front 1).buffer = .pending nopResponse 800 ∧ ((pending 1 none).front 1).held = none
      ∧ { pending 0 none with sending := some { bytes := [0xC3], since := 0 } }.sending.isSome = true
      ∧ (pending 0 none).sending = none ∧ ((pending 0 none).front 0).buffer = .pending nopResponse 800
      ∧ ((pending 2 (some heldNop)).front 2).held = some { seq := 0x12, body := .good .nop }
      ∧ takesRequest (State.reset.front 2).buffer = true ∧ (pending 1 none).power = .running
      ∧ after (exec (.attach 1 9 0 0) State.reset) (fun t =>
        decide ((t.front 1).buffer = .pending { seq := 9, status := .ok, payload := [0, 0, 8, 0, 0] } (t.now + 800))) = true := by
  decide +kernel

theorem witness_CrcMismatchAnswered :
    checkFrame [0x02, 0x11, 0x00, 0xB8] = some { seq := 0x11, body := .checkError }
      ∧ State.reset.power = .running ∧ CanTake 0 (wireCounts 2 State.reset)
      ∧ (wireCounts 2 State.reset).receiver = .idle ∧ CanTake 1 State.reset ∧ CanTake 2 State.reset := by
  unfold CanTake; decide +kernel

/-- Refused by its block, refused DETACHED, and a frame of 32 payload bytes, which no request has. -/
theorem witness_RefusedRequestChangesNothing :
    CanTake 0 State.reset ∧ (replyTo 0 (.good (.claim 0)) (attached 0 State.reset)).status ≠ .ok
      ∧ CanTake 0 (attached 0 State.reset)
      ∧ (State.reset.session 0).attached = false
      ∧ requestCode (.ackEvents 0) ∉ [(0x00 : Byte), 0x01, 0x03, 0x04, 0x05, 0x07]
      ∧ (List.replicate 32 (0 : Byte)).length ≤ 32
      ∧ ((0x41 : Byte).toNat, 32) ∉
        [(0x00, 0), (0x01, 2), (0x02, 0), (0x03, 0), (0x04, 0), (0x05, 1), (0x06, 15), (0x07, 0), (0x10, 2), (0x11, 3),
          (0x12, 13), (0x13, 1), (0x14, 1), (0x20, 20), (0x21, 4), (0x22, 1), (0x30, 3), (0x31, 1), (0x40, 1), (0x41, 2)]
      ∧ CanTake 0 (wireCounts 2 State.reset) ∧ (wireCounts 2 State.reset).receiver = .idle ∧ CanTake 1 State.reset
      ∧ CanTake 2 State.reset := by
  unfold CanTake; decide +kernel

/-- The first values out of range, on a DETACHED port and on an ATTACHED one, and the last in range. -/
theorem witness_RefusedRequestChangesNothing_payload :
    let s := attached 0 State.reset
    requestCode (.attach 0 4) ∈ [(0x00 : Byte), 0x01, 0x03, 0x04, 0x05, 0x07]
      ∧ (s.session 0).attached = true
      ∧ (∀ r ∈ [Request.attach 0 4, .clearNotices 16, .claim 0x1000, .release 1 2, .readChannel 12, .clearFault 12,
          .setDevice { deviceArgs 0 with offsetA := 1024 }, .schedule { markArgs with dueStep := 1024 }, .cancel 3 0 0,
          .readSchedule 48, .armCapture 4 1 0, .armCapture 0 4 0, .disarmCapture 4, .takeEvents 5],
        badPayload s r = true)
      ∧ ∀ r ∈ [Request.attach 0 3, .clearNotices 15, .claim 0xFFF, .release 1 1, .readChannel 11, .clearFault 11,
          .setDevice (deviceArgs 0), .cancel 2 0 0, .readSchedule 47, .armCapture 3 3 0, .disarmCapture 3, .takeEvents 4],
        badPayload s r = false := by decide +kernel

/-- DETACHED and ATTACHED; the last channel, the last start index, and both ends of the event count. -/
theorem witness_ReadingRequestsChangeNothing :
    CanTake 1 State.reset ∧ CanTake 1 (attached 1 State.reset) ∧ ((attached 1 State.reset).session 1).attached = true
      ∧ (byteOf (11 : Chan).val = 11) ∧ (47 : Byte).toNat < 48 ∧ 1 ≤ (1 : Byte).toNat ∧ (4 : Byte).toNat ≤ 4 := by
  unfold CanTake; decide +kernel

theorem witness_AttachOpensOrRenews :
    CanTake 0 State.reset ∧ (State.reset.session 0).attached = false ∧ CanTake 0 (attached 0 State.reset)
      ∧ ((attached 0 State.reset).session 0).attached = true ∧ (3 : Byte).toNat < 4 := by
  unfold CanTake; decide +kernel

theorem witness_SessionEnds :
    let s := onSession 2 (fun r => { r with expireAt := some 400000 }) (attached 2 State.reset)
    let t := onSession 2 (fun r => { r with expireAt := some 400000 }) (inGroup 0 0 true (closedChan 0 (holding 2 0 State.reset)))
    (s.session 2).attached = true ∧ s.power = .running ∧ takesRequest (s.front 2).buffer = true
      ∧ (∀ c, s.holds 2 c = false) ∧ (s.session 2).expireAt.isSome = true
      ∧ (t.session 2).attached = true ∧ t.power = .running ∧ takesRequest (t.front 2).buffer = true
      ∧ t.holds 2 0 = true ∧ (t.session 2).expireAt.isSome = true := by decide +kernel

theorem witness_SessionEnds_switching :
    SwitchingOk (onSession 2 (fun r => { r with expireAt := some 400000 }) (attached 2 State.reset))
      ∧ SwitchingOk (onSession 2 (fun r => { r with expireAt := some 400000 })
          (inGroup 0 0 true (closedChan 0 (holding 2 0 State.reset)))) :=
  ⟨switchingOk_of (by decide +kernel), switchingOk_of (by decide +kernel)⟩

theorem witness_SessionStays :
    CanAct 0 (holding 0 11 State.reset) ∧ (holding 0 11 State.reset).holds 0 11 = true
      ∧ CanTake 0 State.reset ∧ (State.reset.session 0).attached = false
      ∧ (State.reset.session 0).expireAt = none := by
  unfold CanAct CanTake; decide +kernel

/-- A set of the four notices, and one with the lowest unused bit. -/
theorem witness_ClearNoticesRemoves :
    CanTake 0 State.reset ∧ ¬16 ≤ (15 : Byte).toNat ∧ 16 ≤ (16 : Byte).toNat := by
  unfold CanTake; decide +kernel

/-- DETACHED; the oldest, and the newest, of a full queue with lost records; a number that no record carries. -/
theorem witness_AckEventsRemoves :
    CanTake 0 State.reset ∧ (State.reset.session 0).attached = false ∧ CanTake 0 atWork
      ∧ (atWork.session 0).attached = true ∧ (atWork.session 0).lost = 255
      ∧ ((atWork.session 0).queue.map (·.seq)).head? = some 65530
      ∧ ((atWork.session 0).queue.map (·.seq)).getLast? = some 9
      ∧ ∀ r ∈ (atWork.session 0).queue, r.seq ≠ 10 := by
  unfold CanTake; decide +kernel

theorem witness_AckEventsRemoves_session : SessionOk (atWork.session 0) ∧ SessionOk (State.reset.session 0) :=
  ⟨atWork_sessions 0, sessionOk_of (by decide +kernel)⟩

/-- The settings at the tops of their ranges; another port holds a claim, and none does. -/
theorem witness_SetDeviceWrites :
    CanAct 0 (attached 0 State.reset) ∧ (deviceOf (deviceArgs 2)).isSome = true
      ∧ (deviceOf (deviceArgs 0)).map (·.offsetA) = some 1023
      ∧ CanAct 0 (holding 1 11 (attached 0 State.reset))
      ∧ ownerOf ((holding 1 11 (attached 0 State.reset)).chan 11).claim = some 1
      ∧ ∀ c, ownerOf ((attached 0 State.reset).chan c).claim = none := by
  unfold CanAct CanTake; decide +kernel

/-- Entering AUTO in LOST with only the other reference QUALIFIED; a change of selection in HOLDOVER; none in LOCKED. -/
theorem witness_SetDeviceWrites_selection :
    let lost := { attached 0 (atLine .lost (posOf 5 9) State.reset) with monB := { Monitor.reset with qualified := true } }
    let out := attached 0 (atLine .holdover (posOf 5 9) State.reset)
    CanAct 0 lost ∧ (deviceOf (deviceArgs 2)).map (·.mode) = some .auto ∧ lost.sel.mode ≠ .auto ∧ lost.ltb.lock = .lost
      ∧ (lost.monitor lost.sel.selected).qualified = false ∧ (lost.monitor (otherRef lost.sel.selected)).qualified = true
      ∧ (∀ c, ownerOf (lost.chan c).claim = none) ∧ CanAct 0 out ∧ (deviceOf (deviceArgs 1)).map (·.mode) = some .fixedB
      ∧ out.sel.selected = .a ∧ (∀ c, ownerOf (out.chan c).claim = none) ∧ CanAct 0 (attached 0 running)
      ∧ running.ltb.lock = .locked ∧ (deviceOf (deviceArgs 0)).map (·.mode) = some .fixedA ∧ running.sel.selected = .a := by
  unfold CanAct CanTake; decide +kernel

theorem witness_SetDeviceLeavesLock :
    let onB : State := { holding 0 0 running with sel := { State.reset.sel with mode := .fixedB, selected := .b } }
    CanAct 0 (holding 0 0 running) ∧ CanAct 0 onB ∧ running.ltb.lock = .locked ∧ onB.ltb.lock = .locked
      ∧ (∀ c q, ownerOf (onB.chan c).claim = some q → q = 0)
      ∧ (deviceOf (deviceArgs 0)).map (·.mode) = some .fixedA ∧ onB.sel.selected = .b
      ∧ (deviceOf (deviceArgs 1)).map (·.mode) = some .fixedB ∧ (holding 0 0 running).sel.selected = .a := by
  unfold CanAct CanTake; decide +kernel

/-- The empty set, channel 12, a channel of another port, one that is RELEASING, and all twelve free. -/
theorem witness_ClaimAllOrNothing :
    let s := attached 0 (holding 1 0 (onChan 1 (fun ch => { ch with claim := .releasing 0 }) State.reset))
    CanAct 0 s ∧ ownerOf (s.chan 0).claim = some 1 ∧ (s.chan 1).claim = .releasing 0 ∧ (s.chan 2).claim = .free
      ∧ 4096 ≤ (0x1000 : BitVec 16).toNat ∧ ¬4096 ≤ (0x0FFF : BitVec 16).toNat ∧ CanAct 0 (attached 0 State.reset)
      ∧ ∀ c, ((attached 0 State.reset).chan c).claim = .free := by
  unfold CanAct CanTake; decide +kernel

/-- Channel 0 CLOSED under safe state OPEN, and channel 11 CLOSED under HOLD. -/
def forcing : State :=
  onChan 11 (fun ch => { ch with cfg := { ch.cfg with safe := .hold } })
    (closedChan 11 (holding 0 11 (closedChan 0 (holding 0 0 running))))

theorem witness_ForcedReleaseFrees :
    CanAct 0 forcing ∧ (0x0801 : BitVec 16) ≠ 0 ∧ (0x0801 : BitVec 16).toNat < 4096
      ∧ (∀ c ∈ chansOf 0x0801, forcing.holds 0 c = true) ∧ (forcing.chan 0).cfg.safe = .openIt
      ∧ (forcing.chan 11).cfg.safe = .hold := by
  unfold CanAct CanTake; decide +kernel

theorem witness_ForcedReleaseFrees_switching : SwitchingOk forcing := switchingOk_of (by decide +kernel)

/-- In FAULT; with an entry left; OPEN; CLOSED under HOLD; CLOSING; CLOSED within its dwell; CLOSED, in both feedback modes. -/
theorem witness_GracefulReleaseDrains :
    let s := holding 0 3 running
    let fault := onChan 3 (fun ch => { ch with state := .fault .uncommanded }) s
    let entry := withPending (nextUp (entryOf (.openUp 3) none)) s
    let hold := onChan 3 (fun ch => { ch with cfg := { ch.cfg with safe := .hold } }) (closedChan 3 s)
    let dwell := onChan 3 (fun ch => { ch with settled := false, changePos := posOf 5 100, cfg := { ch.cfg with onDwell := 1 } })
      (closedChan 3 s)
    (∀ t ∈ [s, fault, entry, hold, verified 3 .closing false s, dwell, closedChan 3 s, verified 3 .closed true s],
        (t.power = .running ∧ takesRequest (t.front 0).buffer = true) ∧ (t.session 0).attached = true
          ∧ (t.chan 3).claim = .held 0)
      ∧ inFault (fault.chan 3).state = true ∧ entry.namesChannel 3 = true ∧ (s.chan 3).state = .opened
      ∧ (hold.chan 3).cfg.safe = .hold ∧ dwellMet dwell (dwell.chan 3) (dwell.chan 3).cfg.onDwell = false := by
  decide +kernel

/-- Not owned; RELEASING; with an entry; with its drive on and another group; and passing. -/
theorem witness_SetChannelConfigures :
    let s := holding 0 11 running
    chanOfByte (channelArgs 11 4 0).channel = some 11 ∧ (configOf (channelArgs 11 4 0)).isSome = true
      ∧ (configOf (channelArgs 11 4 0)).map (·.group) = some (some 3) ∧ chanOfByte 12 = none
      ∧ (∀ t ∈ [attached 0 running, onChan 11 (fun ch => { ch with claim := .releasing 0 }) s,
            withPending (nextUp (entryOf (.openUp 11) none)) s, closedChan 11 s, s],
          (t.power = .running ∧ takesRequest (t.front 0).buffer = true) ∧ (t.session 0).attached = true)
      ∧ (attached 0 running).holds 0 11 = false ∧ (withPending (nextUp (entryOf (.openUp 11) none)) s).namesChannel 11 = true
      ∧ ((closedChan 11 s).chan 11).drive = true ∧ s.holds 0 11 = true ∧ s.namesChannel 11 = false := by
  decide +kernel

/-- A channel in FAULT, the only occupant of its group, that leaves it, and one that stays. -/
theorem witness_SetChannelConfigures_leaves :
    let s := onChan 11 (fun ch => { ch with state := .fault .openUnconfirmed }) (inGroup 11 3 true (holding 0 11 running))
    (configOf (channelArgs 11 0 0)).map (·.group) = some none ∧ (configOf (channelArgs 11 4 0)).map (·.group) = some (some 3)
      ∧ (s.chan 11).cfg.group = some 3 ∧ (s.chan 11).occupant = true ∧ (∀ d, isOccupant s 3 d = true → d = 11)
      ∧ inFault (s.chan 11).state = true ∧ (s.chan 11).drive = false ∧ (s.chan 11).claim = .held 0 := by decide +kernel

/-- The four rows of Table 4-3. -/
theorem witness_FeedbackModeTransitions :
    let s := holding 0 4 running
    let contact := onChan 4 (fun ch => { ch with feedback := true }) s
    (∀ t ∈ [contact, closedChan 4 s, verified 4 .closing false s, verified 4 .opening true s],
        (t.power = .running ∧ takesRequest (t.front 0).buffer = true) ∧ (t.session 0).attached = true
          ∧ (t.chan 4).claim = .held 0 ∧ t.namesChannel 4 = false ∧ (t.chan 4).pendingOpen = none
          ∧ (t.chan 4).cfg.group = none)
      ∧ (configOf (channelArgs 4 0 1)).map (fun g => (g.group, g.present)) = some (none, true)
      ∧ (configOf (channelArgs 4 0 0)).map (fun g => (g.group, g.present)) = some (none, false)
      ∧ chanOfByte (4 : Byte) = some 4 := by decide +kernel

theorem witness_FeedbackModeTransitions_switching :
    SwitchingOk (onChan 4 (fun ch => { ch with feedback := true }) (holding 0 4 running))
      ∧ SwitchingOk (closedChan 4 (holding 0 4 running)) ∧ SwitchingOk (verified 4 .closing false (holding 0 4 running))
      ∧ SwitchingOk (verified 4 .opening true (holding 0 4 running)) :=
  ⟨switchingOk_of (by decide +kernel), switchingOk_of (by decide +kernel), switchingOk_of (by decide +kernel),
    switchingOk_of (by decide +kernel)⟩

/-- Channel 11 in FAULT with its group, an occupant by its contact. -/
def faulted (feedback present : Bool) : State :=
  onChan 11 (fun ch =>
    { ch with state := .fault .openUnconfirmed, feedback := feedback, cfg := { ch.cfg with present := present } })
    (inGroup 11 3 true (holding 0 11 running))

/-- Not owned, not in FAULT, with its contact closed, and passing. -/
theorem witness_ClearFaultReopens :
    chanOfByte (11 : Byte) = some 11
      ∧ (∀ t ∈ [attached 0 running, holding 0 11 running, faulted true true, faulted true false, faulted false true],
          (t.power = .running ∧ takesRequest (t.front 0).buffer = true) ∧ (t.session 0).attached = true
            ∧ isReleasing (t.chan 11).claim = false) := by decide +kernel

theorem witness_ClearFaultReopens_switching :
    SwitchingOk (attached 0 running) ∧ SwitchingOk (holding 0 11 running) ∧ SwitchingOk (faulted true true)
      ∧ SwitchingOk (faulted true false) ∧ SwitchingOk (faulted false true) :=
  ⟨switchingOk_of (by decide +kernel), switchingOk_of (by decide +kernel), switchingOk_of (by decide +kernel),
    switchingOk_of (by decide +kernel), switchingOk_of (by decide +kernel)⟩

/-- A refused SCHEDULE: DETACHED; and STOPPED, with its parameters in range. -/
theorem witness_ScheduleCheckOrder :
    (replyTo 0 (.good (.schedule markArgs)) State.reset).status = .notAttached
      ∧ (replyTo 0 (.good (.schedule markArgs)) (attached 0 State.reset)).status = .notStarted
      ∧ (replyTo 0 (.good (.schedule markArgs)) (attached 0 running)).status = .ok := by decide +kernel

/-- With a due position, and with a trigger. -/
theorem witness_ScheduleAdmits :
    let s := attached 0 running
    let triggered : ScheduleArgs := { markArgs with form := 2, dueCycle := 0, edge := 1, delay := 4 }
    CanAct 0 s ∧ StoreOk s
      ∧ (scheduleParams s markArgs).map (fun q => (scheduleRefusal 0 q s, dueOf q.timing s.ltb.pos))
          = some (none, some (posOf 15 0))
      ∧ (scheduleParams s triggered).map (fun q => (scheduleRefusal 0 q s, dueOf q.timing s.ltb.pos))
          = some (none, none) := by
  unfold CanAct CanTake StoreOk; decide +kernel

/-- The three forms; a tag that is found and one that is not; no RELEASING channel. -/
theorem witness_CancelRemoves :
    CanAct 0 atWork ∧ cancelOf 0 9 0 = some (.tag 9) ∧ cancelOf 0 1 0 = some (.tag 1) ∧ cancelOf 1 0 11 = some (.channel 11)
      ∧ cancelOf 2 0 0 = some .all ∧ (allEntries atWork.sched).map (·.tag) = [9, 10, 11]
      ∧ ∀ c, (atWork.chan c).claim ≠ .releasing 0 := by
  unfold CanAct CanTake; decide +kernel

theorem witness_CancelRemoves_ownership : OwnershipOk atWork := atWork_ownership

/-- DETACHED; input 3 and input 4; the selections 0 to 3. -/
theorem witness_ArmAndDisarm :
    CanTake 0 State.reset ∧ (State.reset.session 0).attached = false ∧ CanTake 0 (attached 0 State.reset)
      ∧ ¬4 ≤ (3 : Byte).toNat ∧ 4 ≤ (4 : Byte).toNat := by
  unfold CanTake; decide +kernel

/-! ### The line -/

/-- LOCKED or HOLDOVER one count before the advance to the evaluation point 32, with this window record and counts. -/
def beforeWindow (lock : LockState) (accepted : Bool) (rejected miss relock : Nat) : State :=
  let s := dueSoon (atLine lock (posOf 5 31) State.reset)
  { s with ltb := { s.ltb with accepted := accepted, rejected := rejected, missCount := miss, relockCount := relock } }

/-- STOPPED; one count and two counts before the advance; nothing to fire; and a capture edge at the evaluation point. -/
theorem witness_AdvanceMovesOneStep :
    let two := { running with ltb := { running.ltb with acc := 77952 } }
    let edge := { beforeWindow .locked false 0 1 0 with pins := { State.reset.pins with cap := 8 } }
    let edge := edge.setCapFilter 3 { level := some false, run := { level := true, count := 7 }, holdOff := none }
    State.reset.power = .running ∧ State.reset.ltb.lock = .stopped
      ∧ running.ltb.lock ≠ .stopped ∧ running.ltb.acc < running.ltb.period ∧ countsToAdvance two.ltb = 2
      ∧ QuietCounts 1 two ∧ QuietAdvance running ∧ Ahead (advanceCount running).ltb.pos (advanceCount running).sched.pending
      ∧ AdvanceComes edge ∧ dueNow (advanceCount edge) = [.capLevel 3 true]
      ∧ ((advanceCount edge).capFilter 3).level = some false := by
  unfold QuietAdvance AdvanceAlone AdvanceComes QuietCounts Ahead; decide +kernel

/-- A good window and a miss, each at both counts, in both lock states. -/
theorem witness_WindowEvaluated :
    (∀ s ∈ [beforeWindow .locked true 3 1 0, beforeWindow .locked true 4 0 0, beforeWindow .locked false 0 1 0,
        beforeWindow .holdover true 3 0 0, beforeWindow .holdover true 3 0 1, beforeWindow .holdover true 4 0 1],
      AdvanceAlone s ∧ stepOf (advanceCount s).ltb.pos = (advanceCount s).sel.working + 32
        ∧ stepOf (advanceCount s).ltb.pos ≠ 0
        ∧ ((advanceCount s).ltb.lock = .locked ∨ (advanceCount s).ltb.lock = .holdover)
        ∧ NothingToFire (advanceCount s).ltb.pos (advanceCount s)) := by
  unfold AdvanceAlone AdvanceComes NothingToFire Ahead; decide +kernel

/-- An edge of REFA now: at both ends of the window and outside it, in a window that has accepted one, and in HOLDOVER over a
boundary, forward one short of the limit and at it, and back. -/
def edgesInLock : List State :=
  let at1 := fun (lock : LockState) (pos : Pos) => lowA (atLine lock pos State.reset)
  let holding := fun (pos : Pos) (h : Nat) (o : LineStep) =>
    { at1 .holdover pos with
      ltb := { (at1 .holdover pos).ltb with holdCount := h }, sel := { State.reset.sel with working := o } }
  [at1 .locked (posOf 5 992), at1 .locked (posOf 5 31), at1 .locked (posOf 5 991), at1 .locked (posOf 5 32),
    { at1 .locked (posOf 5 0) with ltb := { (at1 .locked (posOf 5 0)).ltb with accepted := true } },
    holding (posOf 5 1000) 23 0, holding (posOf 5 1000) 24 0, holding (posOf 6 3) 1 1020]

theorem witness_EdgeInLock :
    (∀ s ∈ edgesInLock, EdgeComes .a 0 s ∧ (edgeCount .a 0 s).sel.selected = .a
      ∧ ((edgeCount .a 0 s).ltb.lock = .locked
        ∨ (edgeCount .a 0 s).ltb.lock = .holdover ∧ (edgeCount .a 0 s).sel.mode ≠ .auto)) := by
  unfold EdgeComes LevelComes; decide +kernel

/-- Behind an advance of its count; and with one MARK to fire at a snap over the boundary. -/
theorem witness_EdgeInLock_advance :
    let x := { nextUp (entryOf .mark none) with fire := posOf 6 0 }
    EdgeComes .a 1 (lowA running) ∧ advanceWith 8 1 (showRef .a true) (lowA running) = true
      ∧ (edgeCount .a 1 (lowA running)).ltb.pos = posOf 5 101
      ∧ OneMark (posOf 6 0) x [] (withPending x (attached 0 (lowA (atLine .locked (posOf 5 1000) State.reset))))
      ∧ NothingToFire (posOf 6 0) (lowA (atLine .locked (posOf 5 1000) State.reset)) := by
  unfold EdgeComes LevelComes OneMark NothingToFire Ahead; decide +kernel

/-- Acquisition with this start edge and run, at count 57,143. -/
def acquiring (start : Option Nat) (run : List Nat) (s : State) : State :=
  { lowA s with now := 57143, ltb := { s.ltb with acq := { start := start, run := run } } }

/-- No start edge; the eighth good interval, 57,143 counts, in STOPPED and in LOST; and a bad one. -/
theorem witness_EdgeInAcquisition :
    let seven := List.replicate 7 57143
    (∀ s ∈ [acquiring none [] State.reset, acquiring (some 0) seven State.reset, acquiring (some 57143) seven State.reset,
        acquiring (some 0) seven (atLine .lost (posOf 5 512) State.reset),
        acquiring (some 0) seven (atLine .lost (posOf 5 511) State.reset)],
      EdgeComes .a 0 s ∧ (edgeCount .a 0 s).sel.selected = .a ∧ (edgeCount .a 0 s).sel.mode ≠ .auto
        ∧ ((edgeCount .a 0 s).ltb.lock = .stopped ∨ (edgeCount .a 0 s).ltb.lock = .lost)
        ∧ (edgeCount .a 0 s).ltb.acq.run.length < 8) := by
  unfold EdgeComes LevelComes; decide +kernel

/-- A first edge, a good interval, and the edge of the reference that is not selected. -/
theorem witness_EdgeUpdatesMonitor :
    let s := { lowA State.reset with now := 57143 }
    let t := s.setMonitor .a { qualified := false, good := 7, lastEdge := some 0, lastInterval := some 57143 }
    let u := { s with sel := { s.sel with selected := .b } }
    (∀ x ∈ [s, t, u], EdgeComes .a 0 x)
      ∧ ((edgeCount .a 0 t).monitor .a).lastEdge = some 0 ∧ ((edgeCount .a 0 s).monitor .a).lastEdge = none
      ∧ (edgeCount .a 0 u).sel.selected ≠ .a ∧ (edgeCount .a 0 u).sel.mode ≠ .auto := by
  unfold EdgeComes LevelComes; decide +kernel

/-- No last edge; a last edge; and one whose silence switches to the other reference, in HOLDOVER. -/
theorem witness_SilenceLimitExpires :
    let m : Monitor := { qualified := true, good := 8, lastEdge := some 0, lastInterval := some 80000 }
    let s := State.reset.setMonitor .a m
    let t := { (atLine .holdover (posOf 5 100) s).setMonitor .b m with sel := { State.reset.sel with mode := .auto } }
    State.reset.power = .running ∧ standingCondition State.reset = false ∧ (State.reset.monitor .a).lastEdge = none
      ∧ s.power = .running ∧ standingCondition s = false ∧ (s.monitor .a).lastEdge ≠ none
      ∧ t.power = .running ∧ standingCondition t = false ∧ (t.monitor .a).lastEdge ≠ none
      ∧ t.sel.mode = .auto ∧ t.ltb.lock ≠ .locked ∧ t.sel.selected = .a ∧ (t.monitor .b).qualified = true := by
  decide +kernel

/-- The crossing, one count off, in a fixed mode; one short of the limit; another step; and not in HOLDOVER. -/
theorem witness_HoldoverExpires :
    let s := fun (step : LineStep) (h : Nat) =>
      { dueSoon (atLine .holdover (posOf 29 step) State.reset) with
        ltb := { (dueSoon (atLine .holdover (posOf 29 step) State.reset)).ltb with holdCount := h } }
    let u := advanceCount (s 1023 24)
    (s 1023 24).power = .running ∧ (s 1023 24).ltb.lock = .holdover ∧ (s 1023 24).ltb.limit ≤ (s 1023 24).ltb.holdCount + 1
      ∧ stepOf (s 1023 24).ltb.pos = 1023 ∧ AdvanceAlone (s 1023 24) ∧ stepOf u.ltb.pos = 0 ∧ u.sel.working + 32 ≠ 0
      ∧ u.ltb.lock = .holdover ∧ u.ltb.limit ≤ u.ltb.holdCount + 1 ∧ u.sel.mode ≠ .auto ∧ NothingToFire u.ltb.pos u
      ∧ ¬(s 1023 23).ltb.limit ≤ (s 1023 23).ltb.holdCount + 1 ∧ stepOf (s 1022 24).ltb.pos ≠ 1023
      ∧ running.ltb.lock ≠ .holdover := by
  unfold AdvanceAlone AdvanceComes NothingToFire Ahead; decide +kernel

/-! ### The firing of entries -/

/-- An entry under a tolerance. -/
def tolerant (tol : Tolerance) (e : Entry) : Entry := { e with tol := tol }

/-- Supply low. -/
def lowSupply (s : State) : State := { s with supply := { s.supply with low := true } }

/-- LOCK_ONLY in HOLDOVER; and a CLOSE with the supply low. -/
theorem witness_IssueMissed :
    let x := nextUp (tolerant .lockOnly (entryOf .mark none))
    let y := nextUp (entryOf (.close 3) none)
    FiresNext x [] (withPending x (attached 0 (dueSoon (atLine .holdover (posOf 5 100) State.reset)))) ∧ x.entry.rep = none
      ∧ isSecond x.entry.action = false ∧ x.entry.tol = .lockOnly
      ∧ FiresNext y [] (withPending y (lowSupply (holding 0 3 running))) ∧ y.entry.rep = none
      ∧ isClosing y.entry.action = true ∧ y.entry.tol = .any := by
  unfold FiresNext QuietAdvance AdvanceAlone AdvanceComes Ahead; decide +kernel

/-- The states of a channel at which a CLOSE meets each of its tests in turn. -/
def closeTests : List State :=
  let s := holding 0 3 running
  [onChan 3 (fun ch => { ch with state := .fault .uncommanded }) s, verified 3 .closing false s, closedChan 3 s,
    onChan 3 (fun ch =>
      { ch with settled := false, changePos := posOf 5 100, cfg := { ch.cfg with offDwell := 2 } }) s,
    inGroup 4 0 true (inGroup 3 0 false s),
    (inGroup 3 0 false s).setGroup 0 { vacated := some (posOf 5 100), gap := 2 },
    s, onChan 3 (fun ch => { ch with cfg := { ch.cfg with present := true } }) s]

theorem witness_CloseIssued :
    let x := nextUp (entryOf (.close 3) none)
    ∀ s ∈ closeTests, FiresNext x [] (withPending x s) ∧ x.entry.rep = none ∧ x.entry.action = .close 3
      ∧ x.entry.tol = .any ∧ (advanceCount (withPending x s)).supply.low = false := by
  unfold FiresNext QuietAdvance AdvanceAlone AdvanceComes Ahead; decide +kernel

/-- The states of a channel at which an OPEN meets each of its tests in turn. -/
def openTests : List State :=
  let s := holding 0 3 running
  [onChan 3 (fun ch => { ch with state := .fault .uncommanded }) s, verified 3 .opening true s, s,
    onChan 3 (fun ch =>
      { ch with settled := false, changePos := posOf 5 100, cfg := { ch.cfg with onDwell := 2 } }) (closedChan 3 s),
    closedChan 3 s, verified 3 .closed true s, inGroup 3 0 true (closedChan 3 s)]

theorem witness_OpenIssued :
    let x := nextUp (entryOf (.openUp 3) none)
    ∀ s ∈ openTests, FiresNext x [] (withPending x s) ∧ x.entry.rep = none ∧ x.entry.action = .openUp 3
      ∧ x.entry.tol = .any := by
  unfold FiresNext QuietAdvance AdvanceAlone AdvanceComes Ahead; decide +kernel

theorem advance_of_running : (advanceCount running).ltb.pos = posOf 5 101 := by decide +kernel

/-- Without a repeat; at its last firing; marked; with one firing to follow; and until cancelled. -/
theorem witness_MarkFiresAndRepeats :
    let rep := fun n k => some ({ interval := 1, count := n, remaining := k } : Repeat)
    let last := { nextUp (entryOf .mark (rep 0 0)) with entry := { entryOf .mark (rep 0 0) with lastRun := true } }
    (∀ x ∈ [nextUp (entryOf .mark none), nextUp (entryOf .mark (rep 2 1)), last, nextUp (entryOf .mark (rep 2 2)),
        nextUp (entryOf .mark (rep 0 0))],
      FiresNext x [] (withPending x (attached 0 running)) ∧ x.entry.action = .mark ∧ x.entry.tol = .any
        ∧ 0 < signedDistance (x.due + BitVec.ofNat 42 1024) (posOf 5 101)) := by
  unfold FiresNext QuietAdvance AdvanceAlone AdvanceComes Ahead; decide +kernel

/-- FIRST on a CLOSED and on an OPEN channel; SECOND on both, without a repeat, at its last firing and with one to follow. -/
theorem witness_PulseGoesOn :
    let rep := fun n k => some ({ interval := 1, count := n, remaining := k } : Repeat)
    let closed := closedChan 3 (holding 0 3 running)
    (∀ x ∈ [nextUp (entryOf (.pulse 3 1 false) none), nextUp (entryOf (.pulse 3 1 true) none),
        nextUp (entryOf (.pulse 3 1 true) (rep 2 1)), nextUp (entryOf (.pulse 3 1 true) (rep 2 2))],
      FiresNext x [] (withPending x closed) ∧ FiresNext x [] (withPending x (holding 0 3 running)))
      ∧ (advanceCount closed).supply.low = false ∧ ((advanceCount closed).chan 3).state = .closed
      ∧ ((advanceCount running).chan 3).state = .opened ∧ ((advanceCount running).chan 3).settled = true
      ∧ ((advanceCount closed).chan 3).settled = true ∧ groupRefusal (advanceCount running) 3 = none
      ∧ 0 < signedDistance (posOf 5 101 + BitVec.ofNat 42 1 - ((advanceCount running).chan 3).cfg.openLead.setWidth 42)
          (posOf 5 101)
      ∧ 0 < signedDistance (posOf 5 101 + BitVec.ofNat 42 1024) (posOf 5 101) := by
  unfold FiresNext QuietAdvance AdvanceAlone AdvanceComes Ahead; decide +kernel

/-- BUSY and DWELL, with firings remaining, at the last firing, and without a repeat. -/
theorem witness_SecondPhaseHeld :
    let busy := verified 3 .closing false (holding 0 3 running)
    let dwell := onChan 3 (fun ch =>
      { ch with settled := false, changePos := posOf 5 100, cfg := { ch.cfg with onDwell := 2 } })
      (closedChan 3 (holding 0 3 running))
    (∀ x ∈ [nextUp (entryOf (.pulse 3 20 true) (some { interval := 1, count := 2, remaining := 2 })),
        nextUp (entryOf (.pulse 3 20 true) (some { interval := 1, count := 2, remaining := 1 })),
        nextUp (entryOf (.pulse 3 20 true) none)],
      FiresNext x [] (withPending x busy) ∧ FiresNext x [] (withPending x dwell) ∧ x.entry.action = .pulse 3 20 true)
      ∧ movingState ((advanceCount busy).chan 3).state = true ∧ ((advanceCount dwell).chan 3).state = .closed
      ∧ ((advanceCount dwell).chan 3).settled = false
      ∧ signedDistance (advanceCount dwell).ltb.pos ((advanceCount dwell).chan 3).changePos
          < (((advanceCount dwell).chan 3).cfg.onDwell.toNat : Int) := by
  unfold FiresNext QuietAdvance AdvanceAlone AdvanceComes Ahead; decide +kernel

/-! ### Capture, feedback, supply, claims -/

/-- At the last count of which the hold-off covers a sample, and at the first of which it covers none; with an arm and a
trigger waiting; and one count on. -/
theorem witness_CaptureEdgeDistributed :
    let s := atLine .locked (posOf 5 100) State.reset
    let known := fun last => { s.setCapFilter 3 { level := some false, run := SampleRun.none, holdOff := last } with now := 88 }
    let armed := (attached 0 (attached 1 (known (some 80)))).setArm 0 3 (.armed .rise 1)
    let waits : State :=
      { armed with
        sched :=
          { armed.sched with
            waiting := [{ entryOf .mark none with trig := some { input := 3, edge := .rise, delay := 4 } }] } }
    s.power = .running ∧ (known (some 81)).now < 81 + 8
      ∧ (∀ t ∈ [known none, known (some 80), waits],
          LevelComes 8 0 (showCap 3 true) (.capLevel 3 true) t ∧ advanceWith 8 0 (showCap 3 true) t = false
            ∧ ((levelCount 8 0 (showCap 3 true) t).capFilter 3).level = some false)
      ∧ LevelComes 8 1 (showCap 3 true) (.capLevel 3 true) (known none)
      ∧ advanceWith 8 1 (showCap 3 true) (known none) = false
      ∧ ((levelCount 8 1 (showCap 3 true) (known none)).capFilter 3).level = some false
      ∧ ∀ e ∈ waits.sched.waiting, triggerMatches 3 .rising e = true := by
  unfold LevelComes; decide +kernel

/-- A first level, a change to low, a rising edge; a hold-off at its last count but one, and one that has ended; a capture
input's first level, and one that has a level. -/
theorem witness_FiltersWithoutEdge :
    let known := running.setCapFilter 0 { level := some true, run := SampleRun.none, holdOff := some 1 }
    running.power = .running ∧ ¬(true = true ∧ (running.refFilter .a).level = some false)
      ∧ ¬(false = true ∧ ((lowA running).refFilter .a).level = some false)
      ∧ ((lowA running).refFilter .a).level = some false
      ∧ (known.capFilter 0).holdOff = some 1 ∧ known.now < 1 ∧ (∀ last ∈ (running.capFilter 0).holdOff, last ≤ running.now)
      ∧ (running.capFilter 0).level = none ∧ (∀ last ∈ (running.capFilter 0).holdOff, last + 8 ≤ running.now)
      ∧ (known.capFilter 0).level ≠ none := by decide +kernel

/-- A confirmed close, a confirmed open, both faults, a channel in FAULT, one in mode NONE, and one that is FREE. -/
def feedbackTests : List (State × Chan × Bool) :=
  let s := holding 0 3 running
  [(verified 3 .closing false s, 3, true), (verified 3 .opening true s, 3, false), (verified 3 .opened false s, 3, true),
    (verified 3 .closed true s, 3, false), (faulted true true, 11, false), (s, 3, true),
    (verified 3 .opened false running, 3, true)]

theorem witness_FeedbackChanges :
    ∀ x ∈ feedbackTests,
      LevelComes 4000 0 (showFbk x.2.1 x.2.2) (.fbkLevel x.2.1 x.2.2) x.1
        ∧ advanceWith 4000 0 (showFbk x.2.1 x.2.2) x.1 = false
        ∧ ((levelCount 4000 0 (showFbk x.2.1 x.2.2) x.1).chan x.2.1).pendingOpen = none
        ∧ isReleasing ((levelCount 4000 0 (showFbk x.2.1 x.2.2) x.1).chan x.2.1).claim = false
        ∧ x.1.power = .running ∧ (x.1.chan x.2.1).feedback = !x.2.2 := by
  unfold LevelComes; decide +kernel

theorem witness_FeedbackChanges_switching :
    ∀ x ∈ feedbackTests, SwitchingOk (levelCount 4000 0 (showFbk x.2.1 x.2.2) x.1) := by
  have h : ∀ x ∈ feedbackTests,
      (∀ c, channelSound ((levelCount 4000 0 (showFbk x.2.1 x.2.2) x.1).chan c) = true)
        ∧ drivesApart (levelCount 4000 0 (showFbk x.2.1 x.2.2) x.1) = true := by decide +kernel
  exact fun x hx => switchingOk_of (h x hx)

/-- One count on, without an advance of it. -/
theorem witness_FeedbackChanges_after :
    let s := verified 3 .closing false (holding 0 3 (atLine .locked (posOf 5 100) State.reset))
    LevelComes 4000 1 (showFbk 3 true) (.fbkLevel 3 true) s ∧ advanceWith 4000 1 (showFbk 3 true) s = false := by
  unfold LevelComes; decide +kernel

/-- A stopped timer; CLOSING with a held open; OPENING without one. -/
theorem witness_VerifyTimerExpires :
    let s := holding 0 3 running
    let t := onChan 3 (fun ch => { ch with pendingOpen := some (.held 9 7) }) (verified 3 .closing false s)
    (∀ x ∈ [s, t, verified 3 .opening true s], x.power = .running ∧ (x.chan 3).claim = .held 0
        ∧ (x.chan 3).pendingOpen ≠ some .release ∧ deferredOf 9 x.sched = none)
      ∧ (s.chan 3).verifyAt = none ∧ (t.chan 3).verifyAt ≠ none ∧ (t.chan 3).pendingOpen = some (.held 9 7)
      ∧ ((verified 3 .opening true s).chan 3).pendingOpen = none
      ∧ ((verified 3 .opening true s).chan 3).verifyAt ≠ none := by decide +kernel

theorem witness_VerifyTimerExpires_switching :
    let s := holding 0 3 running
    SwitchingOk s
      ∧ SwitchingOk (onChan 3 (fun ch => { ch with pendingOpen := some (.held 9 7) }) (verified 3 .closing false s))
      ∧ SwitchingOk (verified 3 .opening true s) :=
  ⟨switchingOk_of (by decide +kernel), switchingOk_of (by decide +kernel), switchingOk_of (by decide +kernel)⟩

/-- Shed channel 3 with the setting on, nothing owed; and the supply already low. -/
theorem witness_SupplyLowAndRestored :
    let s := closedChan 3 (holding 0 3 running)
    let t := { s with supply := { s.supply with shed := true } }
    t.power = .running ∧ t.supply.low = false
      ∧ (t.supply.shed && decide ((t.chan 3).cfg.safe = .openIt) && (t.chan 3).drive) = true
      ∧ (∀ c, (t.chan c).pendingOpen = none ∧ isReleasing (t.chan c).claim = false)
      ∧ (lowSupply t).power = .running ∧ (lowSupply t).supply.low = true := by decide +kernel

theorem witness_SupplyLowAndRestored_switching :
    let s := closedChan 3 (holding 0 3 running)
    SwitchingOk { s with supply := { s.supply with shed := true } }
      ∧ SwitchingOk (lowSupply { s with supply := { s.supply with shed := true } }) :=
  ⟨switchingOk_of (by decide +kernel), switchingOk_of (by decide +kernel)⟩

theorem witness_SupplyLowAndRestored_schedule :
    let s := withPending { nextUp (entryOf (.openUp 3) none) with fire := posOf 5 101 } (closedChan 3 (holding 0 3 running))
    TagsOk { s with supply := { s.supply with shed := true } } ∧ Ahead s.ltb.pos s.sched.pending
      ∧ TagsOk (lowSupply { s with supply := { s.supply with shed := true } }) :=
  ⟨tagsOk_of (by decide +kernel), by unfold Ahead; decide +kernel, tagsOk_of (by decide +kernel)⟩

/-- A channel with a held open. -/
def owing (s : State) : State := onChan 3 (fun ch => { ch with pendingOpen := some (.held 9 7) }) s

/-- No pending open; a moving channel; a dwell not met; and the open executed, ALREADY and not. -/
theorem witness_PendingOpenExamined :
    let s := holding 0 3 running
    let dwell := onChan 3 (fun ch =>
      { ch with settled := false, changePos := posOf 5 100, cfg := { ch.cfg with onDwell := 1 } }) (closedChan 3 s)
    running.power = .running ∧ (running.chan 3).pendingOpen = none
      ∧ movingState ((owing (verified 3 .closing false s)).chan 3).state = true
      ∧ ((owing dwell).chan 3).state = .closed ∧ dwellMet dwell (dwell.chan 3) (dwell.chan 3).cfg.onDwell = false
      ∧ (∀ t ∈ [owing s, owing (closedChan 3 s), owing (verified 3 .closed true s)],
          t.power = .running ∧ (t.chan 3).claim = .held 0 ∧ (t.chan 3).pendingOpen = some (.held 9 7)
            ∧ deferredOf 9 t.sched = none
            ∧ ((t.chan 3).state = .opened
              ∨ (t.chan 3).state = .closed ∧ dwellMet t (t.chan 3) (t.chan 3).cfg.onDwell = true)) := by decide +kernel

/-- Channel 3 OPEN with the held open under tag 9, and the DEFERRED entry of that tag due at 5/0. -/
def deferring (e : Entry) : State :=
  let s := owing (holding 0 3 running)
  { s with sched := { s.sched with deferred := [{ entry := e, due := posOf 5 0 }] } }

/-- A DEFERRED entry marked; with its next firing ahead; and, two cycles late, with its last firing at hand in HOLDOVER. -/
theorem witness_PendingOpenExamined_deferred :
    let rep : Repeat := { interval := 1, count := 3, remaining := 1 }
    let e := entryOf (.pulse 3 20 true) (some rep)
    let late := { deferring (tolerant .lockOnly e) with
      ltb := (atLine .holdover (posOf 7 100) State.reset).ltb }
    (∀ t ∈ [deferring { e with lastRun := true }, deferring e, late],
        t.power = .running ∧ (t.chan 3).claim = .held 0 ∧ (t.chan 3).pendingOpen = some (.held 9 7)
          ∧ (t.chan 3).state = .opened ∧ (deferredOf 9 t.sched).isSome = true)
      ∧ (deferredOf 9 (deferring e).sched).map (·.entry.lastRun) = some false
      ∧ 0 < signedDistance (posOf 5 0 + BitVec.ofNat 42 1024 - ((deferring e).chan 3).cfg.closeLead.setWidth 42) (posOf 5 100)
      ∧ signedDistance (posOf 5 0 + BitVec.ofNat 42 1024 - (late.chan 3).cfg.closeLead.setWidth 42) late.ltb.pos ≤ 0
      ∧ late.ltb.lock ≠ .locked ∧ e.owner = 0 := by decide +kernel

/-- A release open on a CLOSED channel, in both feedback modes, and on an OPEN one. -/
theorem witness_PendingOpenExamined_release :
    let s := attached 0 running
    let releases := onChan 3 fun ch => { ch with claim := .releasing 0, tally := 2, pendingOpen := some .release }
    (∀ t ∈ [releases (closedChan 3 s), releases (verified 3 .closed true s), releases s],
      t.power = .running ∧ (t.chan 3).claim = .releasing 0 ∧ (t.chan 3).pendingOpen = some .release
        ∧ t.namesChannel 3 = false
        ∧ ((t.chan 3).state = .opened
          ∨ (t.chan 3).state = .closed ∧ dwellMet t (t.chan 3) (t.chan 3).cfg.onDwell = true)) := by decide +kernel

/-- FAULT with an entry left; OPEN, and CLOSED under HOLD, with nothing left; not RELEASING; an entry left; CLOSED under OPEN. -/
theorem witness_DrainCompletes :
    let s := onChan 3 (fun ch => { ch with claim := .releasing 0, tally := 1 }) (attached 0 running)
    let fault := withPending (nextUp (entryOf (.openUp 3) none)) (onChan 3 (fun ch => { ch with state := .fault .uncommanded }) s)
    let hold := onChan 3 (fun ch => { ch with cfg := { ch.cfg with safe := .hold } }) (closedChan 3 s)
    let entry := withPending (nextUp (entryOf (.openUp 3) none)) s
    (∀ t ∈ [s, fault, hold, entry, closedChan 3 s], t.power = .running ∧ (t.chan 3).claim = .releasing 0)
      ∧ inFault (fault.chan 3).state = true ∧ s.namesChannel 3 = false ∧ (s.chan 3).pendingOpen = none
      ∧ inFault (s.chan 3).state = false ∧ (s.chan 3).state = .opened ∧ hold.namesChannel 3 = false
      ∧ (hold.chan 3).cfg.safe = .hold ∧ running.power = .running ∧ (∀ p, (running.chan 3).claim ≠ .releasing p)
      ∧ inFault (entry.chan 3).state = false ∧ entry.namesChannel 3 = true
      ∧ ((closedChan 3 s).chan 3).state ≠ .opened ∧ ((closedChan 3 s).chan 3).cfg.safe = .openIt := by decide +kernel

/-! ### Reset and ports -/

/-- Held in reset after a power-on. -/
def inReset : State := runAll [.powerOnReset] running

theorem witness_DeviceResetBegins : running.power = .running ∧ inReset.power ≠ .running := by decide +kernel

theorem witness_ResetReleaseValues : inReset.power ≠ .running := by decide +kernel

theorem witness_HeldInReset :
    inReset.power ≠ .running ∧ (Instr.advance) ≠ .powerOnReset ∧ (Instr.advance) ≠ .pinReset
      ∧ (∀ x f v, (Instr.advance) ≠ .resetRelease x f v) ∧ running.power = .running :=
  ⟨by decide +kernel, Instr.noConfusion, Instr.noConfusion, fun _ _ _ => Instr.noConfusion, rfl⟩

/-- Each state of the receiver, after no count and after one, and of the transmitter; a LEN of 1, of 34 and of 35; an error in
the first byte; a device reset that begins at the next count. -/
theorem witness_Hp0Line :
    let bad : RxByte := { data := 0xC3, parityBit := false, stopBit := false }
    let receiving := { running with receiver := .receiving [0x02] 0 }
    let discarding := { running with receiver := .discarding 0 }
    let sends := { running with sending := some { bytes := [0xC3], since := 0 } }
    running.power = .running ∧ running.receiver = .idle ∧ ¬(bad.data = 0xC3 ∧ rxError bad = false) ∧ rxError bad = true
      ∧ discarding.receiver = .discarding 0 ∧ receiving.receiver = .receiving [0x02] 0
      ∧ (wireCounts 1 running).power = .running ∧ (wireCounts 1 running).receiver = .idle
      ∧ (wireCounts 1 discarding).receiver = .discarding (running.now + 1)
      ∧ (wireCounts 1 receiving).receiver = .receiving [0x02] 0
      ∧ (wireCounts 1 { running with receiver := .receiving [] 0 }).receiver = .receiving [] 0
      ∧ ([] ++ [(rxGood 34).data]).head? = some 34 ∧ lenInRange 34 = true ∧ ([] : List Byte).length + 1 < (34 : Byte).toNat + 2
      ∧ (tick { running with
                pins := { running.pins with rxd := false, resetN := false }, resetRun := ⟨false, 39⟩ }).power ≠ .running
      ∧ ([] : List Byte).head? = none
      ∧ rxError (rxGood 1) = false ∧ lenInRange (rxGood 1).data = false ∧ lenInRange (rxGood 35).data = false
      ∧ sends.sending.isSome = true ∧ (sends.front 0).buffer = .empty
      ∧ ((buffered 0 (.ready nopResponse) none sends).front 0).buffer = .ready nopResponse
      ∧ (buffered 0 (.ready nopResponse) none sends).sending.isSome = true := by decide +kernel

/-- Another address; a LEN of 35, and a byte too many; a READY response read whole and in part; EMPTY; PENDING. -/
theorem witness_Hp1Transactions :
    running.power = .running
      ∧ (0x29 : BitVec 7) ≠ 0x28 + BitVec.ofNat 7 ((if running.straps.addr1 then 2 else 0) + (if running.straps.addr0 then 1 else 0))
      ∧ (0x28 : BitVec 7) = 0x28 + BitVec.ofNat 7 ((if running.straps.addr1 then 2 else 0) + (if running.straps.addr0 then 1 else 0))
      ∧ lenInRange 35 = false ∧ lenInRange 34 = true ∧ ([0x02, 0, 0, 0, 0] : List Byte).length ≠ (0x02 : Byte).toNat + 2
      ∧ ((buffered 1 (.ready nopResponse) none running).front 1).buffer = .ready nopResponse
      ∧ nopResponse.payload.length + 4 ≤ 4 ∧ ¬nopResponse.payload.length + 4 ≤ 3 ∧ (running.front 1).buffer = .empty
      ∧ ((buffered 1 (.pending nopResponse 800) none running).front 1).buffer = .pending nopResponse 800
      ∧ ((buffered 1 (.pending nopResponse 800) none running).front 1).held = none
      ∧ takesRequest (running.front 1).buffer = true
      ∧ takesRequest ((buffered 1 (.pending nopResponse 800) (some heldNop) running).front 1).buffer = false
      ∧ ((buffered 1 (.pending nopResponse 800) (some heldNop) running).front 1).held = some { seq := 0x12, body := .good .nop } := by
  decide +kernel

/-- No bytes; a LEN of 1; a byte too few; another first byte; a READY response read whole and in part; PENDING. -/
theorem witness_Hp2Transactions :
    running.power = .running ∧ lenInRange 1 = false ∧ ([0x02, 0, 0] : List Byte).length ≠ (0x02 : Byte).toNat + 2
      ∧ (0x5B : Byte) ≠ 0x5A ∧ (0x5B : Byte) ≠ 0xA5
      ∧ ((buffered 2 (.ready nopResponse) none running).front 2).buffer = .ready nopResponse
      ∧ nopResponse.payload.length + 4 ≤ 4 ∧ ¬nopResponse.payload.length + 4 ≤ 3
      ∧ (buffered 2 (.ready nopResponse) none running).power = .running
      ∧ takesRequest (running.front 2).buffer = true ∧ (running.front 2).buffer = .empty := by decide +kernel

/-- R176: the straps BAUD1 high and BAUD0 low. -/
theorem test_hp0_bit_rate :
    Machine.hp0BitRate { addr0 := true, addr1 := true, baud0 := false, baud1 := true } = 230400 := by decide

end Sys2Proof.Tests
end

section
/-! The parts that every step is made of. A property that each part keeps is kept by every step: the walk through the
counts, the things that come at them, the ports and the commands is made here once. -/

namespace Sys2Proof.Machine

/-- The property is kept by each part of the handling of what comes at one count. -/
structure KeptByHandling (P : State → Prop) : Prop where
  draws : ∀ s n, P s → P { s with draws := n }
  /-- Pins, and the filters of references, capture inputs and RESET_N. -/
  inputs : ∀ s pins a b caps run,
    P s → P { s with pins := pins, filterA := a, filterB := b, capFilters := caps, resetRun := run }
  /-- The port front ends, and what HP0, HP1 and HP2 hold. -/
  ports : ∀ s fronts receiver sending bus1 bus2 out1 acks1 out2,
    P s → P { s with
              fronts := fronts, receiver := receiver, sending := sending, hp1Bus := bus1, hp2Bus := bus2, hp1Out := out1
              hp1Acks := acks1, hp2Out := out2 }
  feedbackRun : ∀ s c run, P s → P (s.setChan c { s.chan c with fbkRun := run })
  supplyRun : ∀ s run, P s → P { s with supply := { s.supply with run := run } }
  work : ∀ s, P s → P (timebaseWork s)
  offer : ∀ s, P s → P (offerPosition s)
  edge : ∀ t s, P s → P (timebaseEdge t s).1
  monitor : ∀ r s, P s → P (monitorAndTest r s)
  silence : ∀ r s, P s → P (silenceLimitExpiry r s)
  capture : ∀ i d s, P s → P (distributeEdge i d s)
  feedback : ∀ c closed s, P s → P (feedbackChange c closed s)
  verify : ∀ c s, P s → P (verifyExpiry c s)
  supplyLow : ∀ s, P s → P (supplyEntry s)
  supplyHigh : ∀ s, P s → P (supplyLeaving s)
  keepalive : ∀ p s, P s → P (keepaliveExpiry p s)
  examine : ∀ c s, P s → P (examineNow c s)
  drain : ∀ c s, P s → P (drainCompletion c s)
  reply : ∀ p b s, P s → P (replyTo p b s).state
  /-- R188: every block at its reset values. -/
  blocks : ∀ straps fbk suplowN power source s,
    P s → P { blocksReset straps fbk suplowN s with power := power, resetSource := source }

/-- The property is kept by each part of a step, the passing of a count among them. -/
structure KeptByParts (P : State → Prop) : Prop extends KeptByHandling P where
  /-- The queue of commands and the count clock's count. -/
  clock : ∀ s queue now, P s → P { s with pending := queue, now := now }
  /-- R1. -/
  accumulator : ∀ s, P s → P { s with ltb := countLtb s.ltb }

/-! ## Free orders -/

theorem chosenBefore_state (l : List Due) (s : State) : ∃ k, (chosenBefore l s).2 = { s with draws := k } :=
  State.inFreeOrder_state (none :: l.map some) s

namespace KeptByHandling

variable {P : State → Prop} (K : KeptByHandling P)
include K

theorem inFreeOrder {α : Type} (l : List α) {s : State} (h : P s) : P (s.inFreeOrder l).2 := by
  obtain ⟨k, e⟩ := State.inFreeOrder_state l s
  exact e ▸ K.draws _ k h

theorem chosenBefore (l : List Due) {s : State} (h : P s) : P (Machine.chosenBefore l s).2 := by
  obtain ⟨k, e⟩ := chosenBefore_state l s
  exact e ▸ K.draws _ k h

omit K in
/-- A property that one turn keeps is kept by a fold. -/
theorem foldl {α : Type} {f : State → α → State} (turn : ∀ s x, P s → P (f s x)) (l : List α) {s : State} (h : P s) :
    P (l.foldl f s) :=
  foldl_rel (fun a b => P a → P b) (fun _ h => h) (fun _ _ _ f g h => g (f h)) f turn l s h

/-! ## Ports -/

theorem front (p : Port) (x : FrontEnd) {s : State} (h : P s) : P (s.setFront p x) :=
  K.ports s _ s.receiver s.sending s.hp1Bus s.hp2Bus s.hp1Out s.hp1Acks s.hp2Out h

theorem receiver (x : Receiver) {s : State} (h : P s) : P { s with receiver := x } :=
  K.ports s s.fronts x s.sending s.hp1Bus s.hp2Bus s.hp1Out s.hp1Acks s.hp2Out h

theorem sending (x : Option Sending) {s : State} (h : P s) : P { s with sending := x } :=
  K.ports s s.fronts s.receiver x s.hp1Bus s.hp2Bus s.hp1Out s.hp1Acks s.hp2Out h

theorem hp1 (bus : Bus) (out : List Byte) (acks : Nat) {s : State} (h : P s) :
    P { s with hp1Bus := bus, hp1Out := out, hp1Acks := acks } :=
  K.ports s s.fronts s.receiver s.sending bus s.hp2Bus out acks s.hp2Out h

theorem hp2 (bus : Bus) (out : List Byte) {s : State} (h : P s) : P { s with hp2Bus := bus, hp2Out := out } :=
  K.ports s s.fronts s.receiver s.sending s.hp1Bus bus s.hp1Out s.hp1Acks out h

theorem frameError (p : Port) {s : State} (h : P s) : P (Machine.frameError p s) := K.front p _ h

theorem takeRequest (p : Port) (f : Frame) {s : State} (h : P s) : P (Machine.takeRequest p f s) :=
  K.front p _ (K.reply p f.body s h)

theorem countMismatch (p : Port) (b : Received) {s : State} (h : P s) : P (Machine.countMismatch p b s) := by
  unfold Machine.countMismatch
  split
  · exact K.frameError p h
  · exact h

theorem submit (p : Port) (f : Frame) {s : State} (h : P s) : P (Machine.submit p f s) := by
  have hm := K.countMismatch p f.body h
  unfold Machine.submit
  dsimp only
  split
  · exact K.front p _ hm
  · exact K.takeRequest p f hm

theorem beginSending {s : State} (h : P s) : P (Machine.beginSending s) := by
  unfold Machine.beginSending
  split
  · exact K.sending _ (K.front 0 _ h)
  · exact h

theorem becomeReady (p : Port) (r : Response) {s : State} (h : P s) : P (Machine.becomeReady p r s) := by
  unfold Machine.becomeReady
  dsimp only
  split
  · exact K.beginSending (K.front p _ h)
  · exact K.front p _ h

theorem composed (p : Port) {s : State} (h : P s) : P (Machine.composed p s) := by
  unfold Machine.composed
  split
  · split
    · exact K.takeRequest p _ (K.front p _ h)
    · exact K.becomeReady p _ h
  · exact h

theorem transmissionComplete {s : State} (h : P s) : P (Machine.transmissionComplete s) := by
  unfold Machine.transmissionComplete
  split
  · exact K.beginSending (K.sending none h)
  · exact h

theorem pins (x : Pins) {s : State} (h : P s) : P { s with pins := x } :=
  K.inputs s x s.filterA s.filterB s.capFilters s.resetRun h

theorem setRxd (high : Bool) {s : State} (h : P s) : P (Machine.setRxd high s) := K.pins _ h

theorem byteGapTimeout {s : State} (h : P s) : P (Machine.byteGapTimeout s) := by
  unfold Machine.byteGapTimeout
  split
  · exact K.receiver _ (K.frameError 0 h)
  · exact h

theorem quietEnd {s : State} (h : P s) : P (Machine.quietEnd s) := by
  unfold Machine.quietEnd
  split
  · exact K.receiver _ (K.setRxd true h)
  · exact h

theorem discardFrame {s : State} (h : P s) : P (Machine.discardFrame s) := K.receiver _ (K.frameError 0 h)

theorem receiveInFrame (got : List Byte) {s : State} (h : P s) : P (Machine.receiveInFrame got s) := by
  unfold Machine.receiveInFrame
  split
  · exact h
  · split
    · exact K.discardFrame h
    · split
      · exact K.receiver _ h
      · dsimp only
        split
        · exact K.submit 0 _ (K.receiver _ h)
        · exact K.receiver _ h

theorem takeByte (b : RxByte) {s : State} (h : P s) : P (Machine.takeByte b s) := by
  unfold Machine.takeByte
  split
  · split
    · exact K.receiver _ h
    · exact K.frameError 0 h
  · split
    · exact K.discardFrame h
    · exact K.receiveInFrame _ h
  · exact K.receiver _ h

theorem receiveBytes (bytes : List RxByte) {s : State} (h : P s) : P (Machine.receiveBytes bytes s) :=
  foldl (f := receiveByte) (fun _ b hs => K.takeByte b (K.setRxd b.stopBit hs)) bytes h

theorem hp1Write (bytes : List Byte) {s : State} (h : P s) : P (Machine.hp1Write bytes s) := by
  unfold Machine.hp1Write
  split
  · exact K.hp1 _ _ _ h
  · split
    · exact K.hp1 _ _ _ (K.frameError 1 h)
    · dsimp only
      split
      · exact K.submit 1 _ (K.hp1 _ _ _ h)
      · exact K.frameError 1 (K.hp1 _ _ _ h)

theorem readBuffer (p : Port) (n : Nat) {s : State} (h : P s) : P (Machine.readBuffer p n s).2 := by
  unfold Machine.readBuffer
  split
  · dsimp only
    split
    · exact K.front p _ h
    · exact h
  · exact h

theorem hp1Read (clocked : Nat) {s : State} (h : P s) : P (Machine.hp1Read clocked s) :=
  K.hp1 _ _ _ (K.readBuffer 1 clocked (K.composed 1 (K.composed 1 h)))

theorem hp1Addressed (addr : BitVec 7) {f : State → State} (hf : ∀ s, P s → P (f s)) {s : State} (h : P s) :
    P (Machine.hp1Addressed addr f s) := by
  unfold Machine.hp1Addressed
  split
  · exact hf _ (K.hp1 _ _ _ h)
  · exact K.hp1 _ _ _ h

theorem hp2Ignored (n : Nat) {s : State} (h : P s) : P (Machine.hp2Ignored n s) := K.hp2 _ _ (K.frameError 2 h)

theorem hp2Request (bytes : List Byte) {s : State} (h : P s) : P (Machine.hp2Request bytes s) := by
  unfold Machine.hp2Request
  split
  · exact K.submit 2 _ (K.hp2 _ _ h)
  · exact K.hp2Ignored _ h

theorem hp2Read (n : Nat) {s : State} (h : P s) : P (Machine.hp2Read n s) := K.hp2 _ _ (K.readBuffer 2 n h)

theorem hp2Transaction (first : Byte) (rest : List Byte) {s : State} (h : P s) :
    P (Machine.hp2Transaction first rest s) := by
  unfold Machine.hp2Transaction
  split
  · exact K.hp2Request rest h
  · split
    · exact K.hp2Read _ h
    · exact K.hp2Ignored _ h

theorem hp2TooSoon (bytes : List Byte) {s : State} (h : P s) : P (Machine.hp2TooSoon bytes s) := by
  unfold Machine.hp2TooSoon
  split
  · exact K.hp2 _ _ h
  · exact K.hp2Ignored _ h

/-! ## The samples of a count -/

theorem refFilter (r : RefId) (f : RefFilter) {s : State} (h : P s) : P (s.setRefFilter r f) := by
  cases r with
  | a => exact K.inputs s s.pins f s.filterB s.capFilters s.resetRun h
  | b => exact K.inputs s s.pins s.filterA f s.capFilters s.resetRun h

theorem capFilter (i : CapInput) (f : CapFilter) {s : State} (h : P s) : P (s.setCapFilter i f) :=
  K.inputs s s.pins s.filterA s.filterB _ s.resetRun h

theorem sampleReset {s : State} (h : P s) : P (Machine.sampleReset s) :=
  K.inputs s s.pins s.filterA s.filterB s.capFilters _ h

theorem sampleRxd {s : State} (h : P s) : P (Machine.sampleRxd s) := by
  unfold Machine.sampleRxd
  split
  · split
    · exact h
    · exact K.receiver _ h
  · exact h

theorem sampleInputs {s : State} (h : P s) : P (Machine.sampleInputs s) := by
  have refs : P (sampleRef .b (sampleRef .a s)) := K.refFilter .b _ (K.refFilter .a _ h)
  have caps := foldl (f := fun s i => sampleCap i s) (fun _ i hs => K.capFilter i _ hs) allInputs refs
  have fbks := foldl (f := fun s c => sampleFbk c s) (fun s c hs => K.feedbackRun s c _ hs) allChans caps
  exact K.sampleRxd (K.supplyRun _ _ fbks)

theorem closeMoment (p : Port) {s : State} (h : P s) : P (Machine.closeMoment s p) := by
  unfold Machine.closeMoment
  split
  · exact K.front p _ h
  · exact h

/-! ## What comes at a count -/

theorem referenceEdge {between : State → State} (hb : ∀ s, P s → P (between s)) (r : RefId) {s : State} (h : P s) :
    P (Machine.referenceEdge between r s) := by
  have moved := K.edge s.now s h
  unfold Machine.referenceEdge
  dsimp only
  split
  · split
    · exact K.monitor r _ (K.offer _ (hb _ moved))
    · exact hb _ (K.monitor r _ moved)
  · exact hb _ (K.monitor r _ h)

theorem refQualified {between : State → State} (hb : ∀ s, P s → P (between s)) (r : RefId) (high : Bool) {s : State}
    (h : P s) : P (Machine.refQualified between r high s) := by
  have qualified := K.refFilter r { s.refFilter r with level := some high } h
  unfold Machine.refQualified
  dsimp only
  split
  · exact K.referenceEdge hb r qualified
  · exact hb _ qualified

theorem capQualified (i : CapInput) (high : Bool) {s : State} (h : P s) : P (Machine.capQualified i high s) := by
  have qualified := K.capFilter i { s.capFilter i with level := some high } h
  unfold Machine.capQualified
  dsimp only
  split
  · exact qualified
  · split
    · exact qualified
    · exact K.capture i _ _ (K.capFilter i _ qualified)

theorem handle (d : Due) {s : State} (h : P s) : P (Machine.handle d s) := by
  cases d with
  | refLevel r high => exact K.refQualified (fun _ hs => hs) r high h
  | capLevel i high => exact K.capQualified i high h
  | fbkLevel c closed => exact K.feedback c closed s h
  | supplyLevel high =>
    cases high with
    | true => exact K.supplyHigh s h
    | false => exact K.supplyLow s h
  | silence r => exact K.silence r s h
  | verify c => exact K.verify c s h
  | keepalive p => exact K.keepalive p s h
  | byteGap => exact K.byteGapTimeout h
  | quiet => exact K.quietEnd h
  | compose p => exact K.composed p h
  | sent => exact K.transmissionComplete h

theorem handleDue (d : Due) {s : State} (h : P s) : P (Machine.handleDue s d) := by
  unfold Machine.handleDue
  split
  · exact K.handle d h
  · exact h

theorem handleDues (l : List Due) {s : State} (h : P s) : P (l.foldl Machine.handleDue s) :=
  foldl (fun _ d hs => K.handleDue d hs) l h

theorem handleMove (m : Due) (between : List Due) {s : State} (h : P s) : P (Machine.handleMove m between s) := by
  unfold Machine.handleMove
  dsimp only
  split
  · split
    · exact K.refQualified (fun _ hs => K.handleDues between hs) _ _ h
    · exact K.handleDues between h
  · exact K.handleDues between (K.handleDue _ h)

theorem handleInOrder (l waiting : List Due) {s : State} (h : P s) : P (Machine.handleInOrder waiting l s) := by
  induction l generalizing waiting s with
  | nil => exact K.handleDues waiting h
  | cons d l ih =>
    unfold Machine.handleInOrder
    split
    · exact ih _ h
    · split
      · have chosen := K.chosenBefore ((waiting ++ l).filter (mayPrecedeOffer s)) h
        dsimp only
        split
        · exact ih _ (K.handleMove d _ chosen)
        · exact ih _ (K.handleDues waiting (K.handleMove d _ chosen))
      · exact ih _ (K.handleDue d h)

theorem qualifyLevels {s : State} (h : P s) : P (Machine.qualifyLevels s) := K.handleDues _ h

theorem handleAll {s : State} (h : P s) : P (Machine.handleAll s) :=
  K.handleInOrder _ [] (K.inFreeOrder _ (K.qualifyLevels h))

theorem handleWithAdvance {s : State} (h : P s) : P (Machine.handleWithAdvance s) := by
  have levels := K.qualifyLevels h
  unfold Machine.handleWithAdvance
  exact K.handleInOrder _ [] (K.offer _ (K.handleDues _ (K.work _ (K.handleDues _
    (K.chosenBefore _ (K.inFreeOrder _ (K.chosenBefore _ levels)))))))

/-! ## Resets -/

theorem beginReset (source : ResetSource) (hold : Bool) {s : State} (h : P s) : P (Machine.beginReset source hold s) := by
  have reset := K.blocks s.pins.straps s.pins.fbk s.pins.suplowN (.inReset hold) source s h
  exact K.inputs _ s.pins RefFilter.reset RefFilter.reset (Vector.replicate 4 CapFilter.reset) SampleRun.none reset

theorem releaseReset {s : State} (h : P s) : P (Machine.releaseReset s) := by
  have reset := K.blocks s.pins.straps s.pins.fbk s.pins.suplowN .running s.resetSource s h
  exact K.inputs _ s.pins RefFilter.reset RefFilter.reset (Vector.replicate 4 CapFilter.reset) SampleRun.none reset

theorem resetPinLow {s : State} (h : P s) : P (Machine.resetPinLow s) := by
  unfold Machine.resetPinLow
  dsimp only
  split
  · exact K.beginReset _ _ (K.pins _ h)
  · exact K.pins _ h

theorem releaseResetAt (straps : Straps) (fbk : BitVec 12) (suplowN : Bool) {s : State} (h : P s) :
    P (Machine.releaseResetAt straps fbk suplowN s) := by
  unfold Machine.releaseResetAt
  split
  · exact h
  · exact K.releaseReset (K.pins _ h)

/-! ## Levels shown at the pins -/

theorem showRef (r : RefId) (high : Bool) (n : Nat) {s : State} (h : P s) : P (Machine.showRef r high n s) :=
  K.refFilter r _ (K.pins _ h)

theorem showCap (i : CapInput) (high : Bool) (n : Nat) {s : State} (h : P s) : P (Machine.showCap i high n s) :=
  K.capFilter i _ (K.pins _ h)

theorem showFbk (c : Chan) (closed : Bool) (n : Nat) {s : State} (h : P s) : P (Machine.showFbk c closed n s) :=
  K.feedbackRun _ c _ (K.pins _ h)

theorem showSupply (high : Bool) (n : Nat) {s : State} (h : P s) : P (Machine.showSupply high n s) :=
  K.supplyRun { s with pins := { s.pins with suplowN := high } } _ (K.pins _ h)

theorem quietRefLevel (r : RefId) (high : Bool) {s : State} (h : P s) : P (Machine.quietRefLevel r high s) := by
  unfold Machine.quietRefLevel
  split
  · exact h
  · exact K.handleDue _ (K.showRef r high _ h)

theorem firstCapLevel (i : CapInput) (high : Bool) {s : State} (h : P s) : P (Machine.firstCapLevel i high s) := by
  unfold Machine.firstCapLevel
  split
  · exact K.handleDue _ (K.showCap i high _ h)
  · exact h

theorem endHoldOff (i : CapInput) {s : State} (h : P s) : P (Machine.endHoldOff i s) := by
  unfold Machine.endHoldOff
  split
  · split
    · exact K.capFilter i _ h
    · exact h
  · exact h

/-! ## Requests -/

omit K in
theorem whileRunning {f : State → State} {s : State} (hf : ∀ s, P s → P (f s)) (h : P s) : P (s.whileRunning f) := by
  unfold State.whileRunning
  split
  · exact hf s h
  · exact h

theorem sendRequest (p : Port) (seq : Byte) (r : Request) {s : State} (h : P s) : P (Machine.sendRequest p seq r s) :=
  whileRunning (fun _ hs => K.submit p _ hs) h

end KeptByHandling

namespace KeptByParts

open KeptByHandling (whileRunning foldl)

variable {P : State → Prop} (K : KeptByParts P)
include K

/-! ## Counts -/

theorem nextCount {s : State} (h : P s) : P (Machine.nextCount s) := by
  have moments := foldl (f := Machine.closeMoment) (fun _ p hs => K.closeMoment p hs) allPorts h
  unfold Machine.nextCount
  generalize allPorts.foldl Machine.closeMoment s = u at moments
  exact K.sampleInputs (K.sampleReset (K.accumulator { u with now := u.now + 1 } (K.clock u u.pending (u.now + 1) moments)))

theorem tick {s : State} (h : P s) : P (Machine.tick s) := by
  unfold Machine.tick runningCount resetCount
  dsimp only
  split
  · split
    · exact K.resetPinLow (K.nextCount h)
    · split
      · exact K.handleWithAdvance (K.nextCount h)
      · exact K.handleAll (K.nextCount h)
  · split
    · exact K.releaseReset (K.sampleReset (K.clock s s.pending (s.now + 1) h))
    · exact K.sampleReset (K.clock s s.pending (s.now + 1) h)

theorem runClock (n : Nat) {s : State} (h : P s) : P (Machine.runClock n s) := by
  induction n with
  | zero => exact h
  | succ n ih => exact K.tick ih

theorem advanceNow {s : State} (h : P s) : P (Machine.advanceNow s) := by
  unfold Machine.advanceNow
  split
  · exact h
  · exact K.runClock _ h

theorem holdoverExpiry {s : State} (h : P s) : P (Machine.holdoverExpiry s) := by
  unfold Machine.holdoverExpiry
  split
  · exact K.advanceNow h
  · exact h

theorem levelAfterCounts (full after : Nat) {shown : Nat → State → State} (hs : ∀ n s, P s → P (shown n s)) (d : Due)
    {s : State} (h : P s) : P (Machine.levelAfterCounts full after shown d s) := by
  unfold Machine.levelAfterCounts
  refine whileRunning (fun u hu => ?_) (K.runClock _ h)
  dsimp only
  split
  · exact K.handleDue d (hs _ _ hu)
  · exact K.runClock _ (hs _ _ hu)

theorem wireCounts (n : Nat) {s : State} (h : P s) : P (Machine.wireCounts n s) := by
  induction n generalizing s with
  | zero => exact h
  | succ n ih =>
    have counted := K.tick (K.setRxd false h)
    unfold Machine.wireCounts
    dsimp only
    split
    · exact ih counted
    · exact counted

theorem bytesOnWire (n : Nat) (bytes : List RxByte) {s : State} (h : P s) : P (Machine.bytesOnWire n bytes s) := by
  have counted := K.wireCounts n h
  unfold Machine.bytesOnWire
  dsimp only
  split
  · exact K.receiveBytes bytes counted
  · exact foldl (P := P) (f := fun s b => Machine.setRxd b.stopBit s) (fun _ b hs => K.setRxd b.stopBit hs) bytes counted

/-! ## Commands and steps -/

/-- Every command keeps the property. -/
theorem exec (c : Instr) {s t : State} (h : P s) (e : Machine.exec c s = .next t) : P t := by
  cases c
  case nop | attach | detach | resetPort | readStatus | clearNotices | setDevice | readDevice | claim | release | setChannel
      | readChannel | clearFault | schedule | cancel | readSchedule | armCapture | disarmCapture | takeEvents
      | ackEvents =>
    cases e; exact K.sendRequest _ _ _ h
  case advance => cases e; exact whileRunning (fun _ => K.advanceNow) h
  case referenceEdge r after =>
    cases e; exact whileRunning (fun _ => K.levelAfterCounts _ after (fun n _ => K.showRef r true n) _) h
  case monitorSilenceLimitExpiry r => cases e; exact whileRunning (fun s => K.silence r s) h
  case holdoverExpired => cases e; exact whileRunning (fun _ => K.holdoverExpiry) h
  case captureEdge i d after =>
    cases e; exact whileRunning (fun _ => K.levelAfterCounts _ after (fun n _ => K.showCap i _ n) _) h
  case captureHoldOffEnd i => cases e; exact whileRunning (fun _ => K.endHoldOff i) h
  case feedbackChange c f =>
    cases e; exact whileRunning (fun _ => K.levelAfterCounts _ f.after (fun n _ => K.showFbk c _ n) _) h
  case verifyTimerExpiry c => cases e; exact whileRunning (fun s => K.verify c s) h
  case supplyEntryToLow => cases e; exact whileRunning (fun _ hs => K.supplyLow _ (K.showSupply false _ hs)) h
  case supplyLeavingLow => cases e; exact whileRunning (fun _ hs => K.supplyHigh _ (K.showSupply true _ hs)) h
  case keepaliveExpiry p => cases e; exact whileRunning (fun s => K.keepalive p s) h
  case pendingOpenExecution c => cases e; exact whileRunning (fun s => K.examine c s) h
  case drainComplete c => cases e; exact whileRunning (fun s => K.drain c s) h
  case powerOnReset => cases e; exact K.beginReset _ _ h
  case pinReset => cases e; exact K.resetPinLow h
  case resetRelease => cases e; exact K.releaseResetAt _ _ _ h
  case hp0RequestFrame | hp0StrayByte | hp0DamagedFrame =>
    cases e; exact whileRunning (fun _ => K.bytesOnWire _ _) h
  case hp0ByteGapTimeout => cases e; exact whileRunning (fun _ => K.byteGapTimeout) h
  case hp0DiscardingQuietEnd => cases e; exact whileRunning (fun _ => K.quietEnd) h
  case hp0TransmissionComplete => cases e; exact whileRunning (fun _ => K.transmissionComplete) h
  case hp1WriteTransaction addr bytes =>
    cases e; exact whileRunning (fun _ => K.hp1Addressed addr (fun _ => K.hp1Write bytes)) h
  case hp1ReadTransaction addr clocked =>
    cases e; exact whileRunning (fun _ => K.hp1Addressed addr (fun _ => K.hp1Read clocked)) h
  case hp2RequestTransaction bytes => cases e; exact whileRunning (fun _ hs => K.hp2Request bytes (K.hp2 _ _ hs)) h
  case hp2ReadTransaction n => cases e; exact whileRunning (fun _ hs => K.hp2Read n (K.hp2 _ _ hs)) h
  case hp2BadCommandByte first rest =>
    cases e; exact whileRunning (fun _ hs => K.hp2Transaction first rest (K.hp2 _ _ hs)) h
  case hp2CsHighTooShort bytes => cases e; exact whileRunning (fun _ hs => K.hp2TooSoon bytes (K.hp2 _ _ hs)) h
  case responseComposed p => cases e; exact whileRunning (fun _ => K.composed p) h
  case referenceLevelQualified r high => cases e; exact whileRunning (fun _ => K.quietRefLevel r high) h
  case captureFirstQualification i high => cases e; exact whileRunning (fun _ => K.firstCapLevel i high) h

/-- Every step keeps the property. -/
theorem step {s t : State} (h : P s) (e : Machine.step s = .next t) : P t := by
  unfold Machine.step at e
  split at e
  · cases e; exact K.tick h
  · exact K.exec _ (K.clock s _ s.now h) e

end KeptByParts

end Sys2Proof.Machine
end

section
/-! O4: the timebase stays in order, and the schedule stays empty while it is STOPPED. The timebase's own operations keep
`TimebaseOk`; the work of the other blocks leaves the timebase as it is and an empty schedule empty. -/

namespace Sys2Proof.Machine

/-! ## The timebase's own operations -/

theorem meanOf_reset : meanOf Ltb.reset.history = 80000 := rfl

theorem Ltb.reset_ok : TimebaseOk Ltb.reset where
  started := by simp [Ltb.reset]
  stopped := fun _ => ⟨rfl, rfl⟩
  history := by simp [Ltb.reset, InRange]
  period := meanOf_reset.symm
  misses := by simp [Ltb.reset]
  relocks := by simp [Ltb.reset]
  run := by simp [Ltb.reset, Acquisition.none]
  running := by simp [Ltb.reset, Acquisition.none]

namespace TimebaseOk

variable {l : Ltb} (h : TimebaseOk l)
include h

/-- Out of STOPPED the timebase may go to another lock state with any counts that the new one allows, its position and
accumulator anywhere. -/
theorem enter (lock : LockState) (pos : Pos) (acc hold miss relock stray rejected limit : Nat) (accepted base : Bool)
    (last : Option Nat) (from_running : l.lock ≠ .stopped) (to_running : lock ≠ .stopped)
    (misses : lock = .locked → miss < 2) (relocks : lock = .holdover → relock < 2)
    (run : lock = .lost → l.acq.run.length < 8) :
    TimebaseOk
      { l with
        lock := lock, pos := pos, acc := acc, holdCount := hold, missCount := miss, relockCount := relock, stray := stray
        rejected := rejected, limit := limit, accepted := accepted, baseValid := base, lastAccepted := last } where
  started := by simp [h.started, from_running, to_running]
  stopped := fun e => absurd e to_running
  history := h.history
  period := h.period
  misses := misses
  relocks := relocks
  run := h.run
  running := fun e => run (e.resolve_left to_running)

/-- What `TimebaseOk` does not speak of may take any value in any lock state. -/
theorem unseen (hold stray rejected limit : Nat) (accepted base : Bool) (last : Option Nat) :
    TimebaseOk
      { l with
        holdCount := hold, stray := stray, rejected := rejected, limit := limit, accepted := accepted, baseValid := base
        lastAccepted := last } :=
  ⟨h.started, h.stopped, h.history, h.period, h.misses, h.relocks, h.run, h.running⟩

/-- R6: the acquisition may have any state with fewer than 8 intervals in range. -/
theorem acquisition (a : Acquisition) (ranges : ∀ i ∈ a.run, InRange i) (short : a.run.length < 8) :
    TimebaseOk { l with acq := a } :=
  ⟨h.started, h.stopped, h.history, h.period, h.misses, h.relocks, ranges, fun _ => short⟩

/-- R6: acquisition begins afresh. -/
theorem restart : TimebaseOk { l with acq := Acquisition.none } :=
  h.acquisition Acquisition.none (by simp [Acquisition.none]) (by simp [Acquisition.none])

/-- R4: an interval in range joins the history. -/
theorem joined (i : Nat) (hi : InRange i) :
    TimebaseOk { l with history := l.history.drop 1 ++ [i], period := meanOf (l.history.drop 1 ++ [i]) } := by
  obtain ⟨length, ranges⟩ := h.history
  refine ⟨h.started, h.stopped, ⟨by simp [length], fun j hj => ?_⟩, rfl, h.misses, h.relocks, h.run, h.running⟩
  rcases List.mem_append.mp hj with old | new
  · exact ranges j (List.mem_of_mem_drop old)
  · obtain rfl := List.mem_singleton.mp new
    exact hi

/-- R1. -/
theorem countLtb : TimebaseOk (Machine.countLtb l) := by
  unfold Machine.countLtb
  split
  · exact h
  · next running =>
    have moved : ∀ pos acc, TimebaseOk { l with pos := pos, acc := acc } := fun pos acc =>
      ⟨h.started, fun e => absurd e running, h.history, h.period, h.misses, h.relocks, h.run, h.running⟩
    split
    · exact moved _ _
    · exact moved _ _

/-- R12. -/
theorem periodUpdate (t : Nat) : TimebaseOk (Machine.periodUpdate t l) := by
  have last : ∀ {l' : Ltb}, TimebaseOk l' → TimebaseOk { l' with lastAccepted := some t } := fun h' =>
    h'.unseen _ _ _ _ _ _ _
  unfold Machine.periodUpdate
  apply last
  split
  · split
    · next inRange => exact h.joined _ inRange
    · exact h
  · exact h

end TimebaseOk

theorem inRange_of_goodInterval {i : Nat} {previous : Option Nat} (h : goodInterval i previous = true) : InRange i := by
  unfold goodInterval at h
  exact of_decide_eq_true (p := 57143 ≤ i ∧ i ≤ 100000) (Bool.and_eq_true_iff.mp h).1

/-- R6: an edge in acquisition leaves a run of intervals in range, longer by one at most. -/
theorem acquisitionEdge_run (t : Nat) {a : Acquisition} (h : ∀ i ∈ a.run, InRange i) :
    (∀ i ∈ (acquisitionEdge t a).run, InRange i) ∧ (acquisitionEdge t a).run.length ≤ a.run.length + 1 := by
  unfold acquisitionEdge
  split
  · exact ⟨h, Nat.le_succ _⟩
  · split
    · next good =>
      refine ⟨fun i hi => ?_, by simp⟩
      rcases List.mem_append.mp hi with old | new
      · exact h i old
      · obtain rfl := List.mem_singleton.mp new
        exact inRange_of_goodInterval good
    · simp

@[simp] theorem timebaseRecord_ltb (new old : LockState) (cause : TimebaseCause) (s : State) :
    (timebaseRecord new old cause s).ltb = s.ltb := by
  simp [timebaseRecord, State.handToTimebase]

@[simp] theorem loadOffset_ltb (s : State) : (loadOffset s).ltb = s.ltb := rfl

@[simp] theorem restartAcquisition_ltb (s : State) :
    (restartAcquisition s).ltb = { s.ltb with acq := Acquisition.none } := rfl

@[simp] theorem changeLock_ltb (new : LockState) (cause : TimebaseCause) (s : State) :
    (changeLock new cause s).ltb = { s.ltb with lock := new } := by
  unfold changeLock
  dsimp only
  split <;> rfl

@[simp] theorem enterHoldover_ltb (cause : TimebaseCause) (s : State) :
    (enterHoldover cause s).ltb = { s.ltb with lock := .holdover, holdCount := 0, relockCount := 0 } :=
  changeLock_ltb _ _ _

@[simp] theorem closeWindow_ltb (s : State) :
    (closeWindow s).ltb = { s.ltb with accepted := false, rejected := 0, baseValid := windowGood s.ltb } := rfl

/-- The timebase is in order, and goes to STOPPED from STOPPED alone: what the timebase's own operations keep. -/
def StaysInOrder (s t : State) : Prop :=
  TimebaseOk s.ltb → TimebaseOk t.ltb ∧ (t.ltb.lock = .stopped → s.ltb.lock = .stopped)

namespace StaysInOrder

theorem refl (s : State) : StaysInOrder s s := fun h => ⟨h, id⟩

theorem trans {a b c : State} (h : StaysInOrder a b) (k : StaysInOrder b c) : StaysInOrder a c := fun ha =>
  have hb := h ha
  have hc := k hb.1
  ⟨hc.1, fun e => hb.2 (hc.2 e)⟩

/-- A running timebase enters a running lock state. -/
theorem of_running {s t : State} (lock : t.ltb.lock ≠ .stopped) (ok : TimebaseOk s.ltb → TimebaseOk t.ltb) :
    StaysInOrder s t := fun h => ⟨ok h, fun e => absurd e lock⟩

/-- The lock state stays. -/
theorem of_lock {s t : State} (lock : t.ltb.lock = s.ltb.lock) (ok : TimebaseOk s.ltb → TimebaseOk t.ltb) :
    StaysInOrder s t := fun h => ⟨ok h, fun e => lock ▸ e⟩

/-- The timebase stays as it is. -/
theorem of_ltb {s t : State} (e : t.ltb = s.ltb) : StaysInOrder s t := of_lock (by rw [e]) (fun h => e ▸ h)

end StaysInOrder

theorem restartAcquisition_order (s : State) : StaysInOrder s (restartAcquisition s) := .of_lock rfl TimebaseOk.restart

/-- R29: what an AUTO switch makes of the timebase, by lock state. -/
def switchedLtb (l : Ltb) : Ltb :=
  match l.lock with
  | .holdover => { clearWindow l with baseValid := false, relockCount := 0 }
  | .lost => { l with acq := Acquisition.none }
  | .stopped => { l with acq := Acquisition.none }
  | .locked => l

theorem autoSwitch_ltb (s : State) : (autoSwitch s).ltb = switchedLtb s.ltb := by
  unfold autoSwitch switchedLtb
  dsimp only
  rw [State.setNotice_ltb, timebaseRecord_ltb, loadOffset_ltb]
  cases e : s.ltb.lock <;> simp only [e, loadOffset_ltb, restartAcquisition_ltb]

theorem TimebaseOk.switched {l : Ltb} (h : TimebaseOk l) :
    TimebaseOk (switchedLtb l) ∧ (switchedLtb l).lock = l.lock := by
  unfold switchedLtb
  split
  · next e => exact ⟨(h.enter l.lock l.pos l.acc l.holdCount l.missCount 0 l.stray 0 l.limit false false l.lastAccepted
      (by simp [e]) (by simp [e]) (by simp [e]) (by simp) (by simp [e])), rfl⟩
  · exact ⟨h.restart, rfl⟩
  · exact ⟨h.restart, rfl⟩
  · exact ⟨h, rfl⟩

theorem autoSwitch_order (s : State) : StaysInOrder s (autoSwitch s) := fun h => by
  rw [autoSwitch_ltb]
  obtain ⟨ok, lock⟩ := h.switched
  exact ⟨ok, fun e => lock ▸ e⟩

theorem testStanding_order (s : State) : StaysInOrder s (testStanding s) := by
  unfold testStanding
  split
  · exact autoSwitch_order s
  · exact .refl s

theorem enterHoldover_order (cause : TimebaseCause) {s : State} (running : s.ltb.lock ≠ .stopped) :
    StaysInOrder s (enterHoldover cause s) := by
  refine .of_running (by simp) fun h => ?_
  rw [enterHoldover_ltb]
  exact h.enter .holdover _ _ 0 _ 0 _ _ _ _ _ _ running (by decide) (by simp) (by simp) (by simp)

/-- R17. -/
theorem enterLost_order {s : State} (running : s.ltb.lock ≠ .stopped) : StaysInOrder s (enterLost s) := by
  refine .trans (b := changeLock .lost .holdoverExpired (loadOffset (restartAcquisition s))) ?_ (testStanding_order _)
  refine .of_running (by simp) fun h => ?_
  rw [changeLock_ltb, loadOffset_ltb]
  exact h.restart.enter .lost _ _ _ _ _ _ _ _ _ _ _ running (by decide) (by simp) (by simp)
    (by simp [Acquisition.none])

theorem setHoldCount_order (n : Nat) (s : State) : StaysInOrder s { s with ltb := { s.ltb with holdCount := n } } :=
  .of_lock rfl fun h => h.unseen n _ _ _ _ _ _

theorem crossForward_order (s : State) : StaysInOrder s (crossForward s) := by
  unfold crossForward
  dsimp only
  split
  · next holdover =>
    split
    · exact (setHoldCount_order _ s).trans (enterLost_order (by simp [holdover]))
    · exact setHoldCount_order _ s
  · exact .refl s

theorem crossBackward_order (s : State) : StaysInOrder s (crossBackward s) := by
  unfold crossBackward
  split
  · exact setHoldCount_order _ s
  · exact .refl s

theorem closeWindow_order (s : State) : StaysInOrder s (closeWindow s) :=
  .of_lock rfl fun h => h.unseen _ _ 0 _ false _ _

/-- A count of misses below 2 in LOCKED. -/
theorem setMissCount_order {n : Nat} {s : State} (small : s.ltb.lock = .locked → n < 2) :
    StaysInOrder s { s with ltb := { s.ltb with missCount := n } } :=
  .of_lock rfl fun h => ⟨h.started, h.stopped, h.history, h.period, small, h.relocks, h.run, h.running⟩

/-- A count of good windows below 2 in HOLDOVER. -/
theorem setRelockCount_order {n : Nat} {s : State} (small : s.ltb.lock = .holdover → n < 2) :
    StaysInOrder s { s with ltb := { s.ltb with relockCount := n } } :=
  .of_lock rfl fun h => ⟨h.started, h.stopped, h.history, h.period, h.misses, small, h.run, h.running⟩

/-- R14: the second miss leaves LOCKED. -/
theorem secondMiss_order {n : Nat} {s : State} (locked : s.ltb.lock = .locked) :
    StaysInOrder s (enterHoldover .missed { s with ltb := { s.ltb with missCount := n } }) := by
  refine .of_running (by simp) fun h => ?_
  rw [enterHoldover_ltb]
  exact h.enter .holdover _ _ 0 n 0 _ _ _ _ _ _ (by simp [locked]) (by decide) (by simp) (by simp) (by simp)

/-- R16: the second good window leaves HOLDOVER. -/
theorem relock_order {n : Nat} {s : State} (holdover : s.ltb.lock = .holdover) :
    StaysInOrder s
      (changeLock .locked .relocked { s with ltb := { s.ltb with relockCount := n, missCount := 0 } }) := by
  refine .of_running (by simp) fun h => ?_
  rw [changeLock_ltb]
  exact h.enter .locked _ _ _ 0 n _ _ _ _ _ _ (by simp [holdover]) (by decide) (by simp) (by simp) (by simp)

theorem evaluateWindow_order (s : State) : StaysInOrder s (evaluateWindow s) := by
  have closed := closeWindow_order s
  unfold evaluateWindow
  dsimp only
  split
  · next locked =>
    have locked' : (closeWindow s).ltb.lock = .locked := locked
    split
    · exact closed.trans (setMissCount_order (by simp))
    · split
      · have missed := secondMiss_order (n := (closeWindow s).ltb.missCount + 1) locked'
        split
        · exact (closed.trans missed).trans (autoSwitch_order _)
        · exact closed.trans missed
      · next few => exact closed.trans (setMissCount_order fun _ => by simpa using few)
  · next holdover =>
    have holdover' : (closeWindow s).ltb.lock = .holdover := holdover
    split
    · split
      · exact closed.trans (relock_order holdover')
      · next few => exact closed.trans (setRelockCount_order fun _ => by simpa using few)
    · exact closed.trans (setRelockCount_order (by simp))
  · exact .refl s

theorem timebaseWork_order (s : State) : StaysInOrder s (timebaseWork s) := by
  unfold timebaseWork
  dsimp only
  split <;> split
  · exact (evaluateWindow_order s).trans (crossForward_order _)
  · exact crossForward_order s
  · exact evaluateWindow_order s
  · exact .refl s

/-- R7: a run of 8 intervals in range gives the history and P of the lock. -/
theorem lockFromAcquisition_ok (t : Nat) (pos : Pos) {s : State} (cause : TimebaseCause)
    (ranges : ∀ i ∈ s.ltb.acq.run, InRange i) (full : s.ltb.acq.run.length = 8) :
    TimebaseOk (changeLock .locked cause (lockFromAcquisition t pos s)).ltb := by
  rw [changeLock_ltb]
  exact ⟨by simp [lockFromAcquisition], by simp, ⟨full, ranges⟩, rfl, by simp [lockFromAcquisition], by simp, ranges,
    by simp⟩

/-- R6, R7, R8: an edge in STOPPED or LOST. -/
theorem acquire_order (t : Nat) {s : State} (unlocked : s.ltb.lock = .stopped ∨ s.ltb.lock = .lost) :
    StaysInOrder s (acquire t s).1 := by
  intro h
  obtain ⟨ranges, length⟩ := acquisitionEdge_run t h.run
  have short := h.running unlocked
  unfold acquire
  dsimp only
  split
  · next few => exact ⟨h.acquisition _ ranges few, id⟩
  · next many =>
    have full : (acquisitionEdge t s.ltb.acq).run.length = 8 := by omega
    split
    · exact ⟨lockFromAcquisition_ok t _ .acquired ranges full, by simp⟩
    · exact ⟨lockFromAcquisition_ok t _ .acquired ranges full, by simp⟩

/-- R9, R10, R12, R15: an accepted edge. -/
theorem acceptEdge_order (t : Nat) {s : State} (running : s.ltb.lock ≠ .stopped) (found : s.ltb.lock ≠ .lost) :
    StaysInOrder s (acceptEdge t s).1 := by
  have lock : (periodUpdate t s.ltb).lock = s.ltb.lock := by
    unfold periodUpdate; split <;> [split; skip] <;> rfl
  have snapped : ∀ pos, StaysInOrder s
      { s with ltb := { periodUpdate t s.ltb with accepted := true, pos := pos, acc := 0 } } := fun pos =>
    .of_lock lock fun h =>
      have updated := h.periodUpdate t
      updated.enter _ pos 0 _ _ _ _ _ _ true _ _ (by rwa [lock]) (by rwa [lock]) updated.misses updated.relocks
        (fun e => absurd (lock ▸ e) found)
  unfold acceptEdge
  dsimp only
  split
  · exact snapped _
  · split
    · exact (snapped _).trans (crossForward_order _)
    · exact (snapped _).trans (crossBackward_order _)

theorem rejectEdge_order (s : State) : StaysInOrder s (rejectEdge s) := .of_lock rfl fun h => h.unseen _ _ _ _ _ _ _

theorem timebaseEdge_order (t : Nat) (s : State) : StaysInOrder s (timebaseEdge t s).1 := by
  unfold timebaseEdge
  split
  · next e => exact acquire_order t (.inl e)
  · next e => exact acquire_order t (.inr e)
  · next running found =>
    split
    · exact acceptEdge_order t running found
    · exact rejectEdge_order s

/-- R32. -/
theorem changeSelection_order (r : RefId) (s : State) : StaysInOrder s (changeSelection r s) := by
  have cleared : StaysInOrder s
      { loadOffset { s with sel := { s.sel with selected := r } } with
        ltb := { clearWindow s.ltb with baseValid := false } } := .of_lock rfl fun h => h.unseen _ _ 0 _ false false _
  unfold changeSelection
  dsimp only
  split
  · next e => exact (cleared.trans (setMissCount_order (by simp))).trans (enterHoldover_order _ fun stopped =>
      LockState.noConfusion (e.symm.trans stopped))
  · exact cleared.trans (setRelockCount_order (by simp))
  · exact cleared.trans (restartAcquisition_order _)
  · exact cleared.trans (restartAcquisition_order _)

theorem setSelector_order (mode : RefMode) (oa ob : LineStep) (s : State) :
    StaysInOrder s (setSelector mode oa ob s) := by
  have written : StaysInOrder s { s with sel := { s.sel with mode := mode, offsetA := oa, offsetB := ob } } := .of_ltb rfl
  have selected : ∀ u : State, ∀ r, StaysInOrder u
      (if r ≠ u.sel.selected then changeSelection r u
        else if u.ltb.lock = .stopped ∨ u.ltb.lock = .lost then loadOffset u else u) := fun u r => by
    split
    · exact changeSelection_order _ u
    · split
      · exact .of_ltb rfl
      · exact .refl u
  unfold setSelector
  dsimp only
  split
  · exact (written.trans (selected _ _)).trans (testStanding_order _)
  · exact written.trans (selected _ _)

/-! ## The rest of the part: the timebase stays, and an empty store stays empty -/

theorem allEntries_eq_nil (d : Schedule) : allEntries d = [] ↔ d.pending = [] ∧ d.waiting = [] ∧ d.deferred = [] := by
  simp [allEntries]

/-- The timebase stays as it is, and an empty store stays empty. -/
structure LineKeeps (s t : State) : Prop where
  ltb : t.ltb = s.ltb
  store : allEntries s.sched = [] → allEntries t.sched = []

namespace LineKeeps

theorem refl (s : State) : LineKeeps s s := ⟨rfl, id⟩

theorem trans {a b c : State} (h : LineKeeps a b) (k : LineKeeps b c) : LineKeeps a c :=
  ⟨k.ltb.trans h.ltb, fun e => k.store (h.store e)⟩

theorem of_sched {s t : State} (ltb : t.ltb = s.ltb) (sched : t.sched = s.sched) : LineKeeps s t :=
  ⟨ltb, fun e => sched ▸ e⟩

theorem foldl {α : Type} {f : State → α → State} (turn : ∀ s x, LineKeeps s (f s x)) (l : List α) (s : State) :
    LineKeeps s (l.foldl f s) :=
  foldl_rel LineKeeps refl (fun _ _ _ => trans) f turn l s

end LineKeeps

theorem setChan_line (c : Chan) (x : Channel) (s : State) : LineKeeps s (s.setChan c x) := .of_sched rfl rfl

theorem setSession_line (p : Port) (x : Session) (s : State) : LineKeeps s (s.setSession p x) := .of_sched rfl rfl

theorem setFront_line (p : Port) (x : FrontEnd) (s : State) : LineKeeps s (s.setFront p x) := .of_sched rfl rfl

theorem handTo_line (p : Port) (pos : Pos) (body : EventBody) (s : State) : LineKeeps s (s.handTo p pos body) :=
  .of_sched (by simp) (by simp)

theorem handToOwner_line (p : Option Port) (pos : Pos) (body : EventBody) (s : State) :
    LineKeeps s (s.handToOwner p pos body) := .of_sched (by simp) (by simp)

theorem removeWhere_line (f : Entry → Bool) (s : State) : LineKeeps s (s.removeWhere f) :=
  ⟨rfl, fun h => by
    obtain ⟨hp, hw, hd⟩ := (allEntries_eq_nil _).mp h
    simp [State.removeWhere, removeEntries, allEntries, hp, hw, hd]⟩

theorem updateOccupancy_line (c : Chan) (s : State) : LineKeeps s (updateOccupancy c s) := by
  unfold updateOccupancy
  dsimp only
  split
  · exact .refl s
  · split <;> exact .of_sched rfl rfl

theorem openCommand_line (c : Chan) (s : State) : LineKeeps s (openCommand c s).2 := by
  unfold openCommand
  split
  · exact (setChan_line c _ s).trans (updateOccupancy_line c _)
  · exact .refl s

theorem overrideOpen_line (c : Chan) (s : State) : LineKeeps s (overrideOpen c s) := by
  unfold overrideOpen
  split
  · exact (setChan_line c _ s).trans (updateOccupancy_line c _)
  · exact .refl s

theorem faultRecord_line (c : Chan) (cause : FaultCause) (s : State) : LineKeeps s (faultRecord c cause s) := by
  unfold faultRecord
  dsimp only
  split
  · exact handTo_line _ _ _ s
  · exact .of_sched rfl rfl

theorem endClaim_line (c : Chan) (cause : EndedCause) (s : State) : LineKeeps s (endClaim c cause s) :=
  (setChan_line c _ s).trans (handToOwner_line _ _ _ _)

theorem removeChannelEntries_line (c : Chan) (s : State) : LineKeeps s (removeChannelEntries c s) :=
  (removeWhere_line _ s).trans (setChan_line c _ _)

theorem drainTest_line (c : Chan) (s : State) : LineKeeps s (drainTest c s).1 := by
  unfold drainTest
  dsimp only
  split
  · exact .refl s
  · split
    · exact (removeChannelEntries_line c s).trans (endClaim_line c _ _)
    · split
      · exact .refl s
      · split
        · exact endClaim_line c _ s
        · exact endClaim_line c _ s
        · exact setChan_line c _ s
        · exact .refl s

/-- Without a DEFERRED entry nothing is resolved. -/
theorem resolveDeferred_line (inLoop : Bool) (tag : Tag) (s : State) :
    LineKeeps s (resolveDeferred inLoop tag s).1 := by
  refine ⟨(resolveDeferred_keeps inLoop tag s).ltb, fun h => ?_⟩
  have none : deferredOf tag s.sched = none := by simp [deferredOf, ((allEntries_eq_nil _).mp h).2.2]
  simp [resolveDeferred, none, h]

theorem resolveHeld_line (inLoop : Bool) (c : Chan) (tag : Tag) (body : Nat → EventBody) (s : State) :
    LineKeeps s (resolveHeld inLoop c tag body s).1 :=
  (handToOwner_line _ _ _ s).trans (resolveDeferred_line inLoop tag _)

theorem executePendingOpen_line (inLoop : Bool) (c : Chan) (p : PendingOpen) (already : Bool) (s : State) :
    LineKeeps s (executePendingOpen inLoop c p already s).1 := by
  unfold executePendingOpen
  dsimp only
  split
  · exact (setChan_line c _ s).trans (resolveHeld_line inLoop c _ _ _)
  · exact setChan_line c _ s

theorem examinePendingOpen_line (inLoop : Bool) (c : Chan) (s : State) :
    LineKeeps s (examinePendingOpen inLoop c s).1 := by
  have h := openCommand_line c s
  unfold examinePendingOpen
  split
  · exact .refl s
  · split
    · next e => rw [e] at h; exact h.trans (executePendingOpen_line inLoop c _ false _)
    · next e => rw [e] at h; exact h.trans (executePendingOpen_line inLoop c _ true _)
    · next e => rw [e] at h; exact h

/-- Without a PENDING entry nothing fires. -/
theorem fireHead_line (s : State) : LineKeeps s (fireHead s).1 := by
  refine ⟨(fireHead_keeps s).ltb, fun h => ?_⟩
  simp [fireHead, ((allEntries_eq_nil _).mp h).1, h]

theorem Task.run_line (inLoop : Bool) (t : Task) (s : State) : LineKeeps s (t.run inLoop s).1 := by
  cases t with
  | fire => exact fireHead_line s
  | fireOn => exact fireHead_line s
  | examine c => exact examinePendingOpen_line inLoop c s
  | drain c => exact drainTest_line c s
  | changed c => exact updateOccupancy_line c s

theorem work_line (tasks : List Task) (s : State) : LineKeeps s (work tasks s) :=
  work_rel LineKeeps LineKeeps.refl (fun _ _ _ => LineKeeps.trans) Task.run_line tasks s

theorem enterFault_line (c : Chan) (cause : FaultCause) (s : State) : LineKeeps s (enterFault c cause s) := by
  have h := (setChan_line c (faultChannel s.ltb.pos cause (s.chan c)) s).trans (faultRecord_line c cause _)
  unfold enterFault
  dsimp only
  split
  · exact (h.trans (resolveHeld_line false c _ _ _)).trans (work_line _ _)
  · exact h.trans (work_line _ _)

theorem inFreeOrder_line {α : Type} (l : List α) (s : State) : LineKeeps s (s.inFreeOrder l).2 := by
  obtain ⟨k, e⟩ := State.inFreeOrder_state l s
  rw [e]
  exact .of_sched rfl rfl

theorem offerPosition_line (s : State) : LineKeeps s (offerPosition s) := by
  have settled : LineKeeps s (settleDwell s) := .foldl (f := fun s c => s.setChan c _) (fun s c => setChan_line c _ s) _ s
  have dropped : LineKeeps (settleDwell s) (dropVacatedPositions (settleDwell s)) :=
    .foldl (f := fun s g => s.setGroup g _) (fun s g => .of_sched rfl rfl) _ _
  exact ((settled.trans dropped).trans (inFreeOrder_line _ _)).trans (work_line _ _)

/-! ## Channels, the supply, captures -/

theorem feedbackChange_line (c : Chan) (closed : Bool) (s : State) : LineKeeps s (feedbackChange c closed s) := by
  have set := setChan_line c { s.chan c with feedback := closed } s
  have confirmed : ∀ state u, LineKeeps u (confirm c state u) := fun _ u => (setChan_line c _ u).trans (work_line _ _)
  unfold feedbackChange
  split
  · exact .refl s
  · refine set.trans ?_
    unfold feedbackActs
    dsimp only
    split
    · split
      · exact confirmed _ _
      · exact .refl _
    · split
      · exact .refl _
      · exact confirmed _ _
    · split
      · exact enterFault_line c _ _
      · exact .refl _
    · split
      · exact enterFault_line c _ _
      · exact .refl _
    · exact updateOccupancy_line c _

theorem verifyExpiry_line (c : Chan) (s : State) : LineKeeps s (verifyExpiry c s) := by
  unfold verifyExpiry
  split
  · exact enterFault_line c _ s
  · exact enterFault_line c _ s
  · exact .refl s

theorem drainCompletion_line (c : Chan) (s : State) : LineKeeps s (drainCompletion c s) := by
  unfold drainCompletion
  split
  · exact work_line _ s
  · exact .refl s

theorem overrideWork_line (c : Chan) (s : State) : LineKeeps s (overrideWork c s) := by
  unfold overrideWork
  split
  · exact (overrideOpen_line c s).trans (work_line _ _)
  · exact .refl s

theorem supplyRecord_line (low : Bool) (shed : List Chan) (s : State) : LineKeeps s (supplyRecord low shed s) :=
  .of_sched rfl rfl

theorem supplyEntry_line (s : State) : LineKeeps s (supplyEntry s) := by
  unfold supplyEntry
  dsimp only
  split
  · exact .refl s
  · refine LineKeeps.trans (.of_sched (by rfl) (by rfl)) ((LineKeeps.foldl ?_ _ _).trans (supplyRecord_line _ _ _))
    exact fun s c => overrideWork_line c s

theorem supplyLeaving_line (s : State) : LineKeeps s (supplyLeaving s) := by
  unfold supplyLeaving
  split
  · exact .of_sched rfl rfl
  · exact .refl s

theorem reportEdge_line (i : CapInput) (d : EdgeDir) (s : State) (p : Port) : LineKeeps s (reportEdge i d s p) := by
  unfold reportEdge
  split
  · exact .refl s
  · split
    · exact .of_sched (by simp) (by simp)
    · exact .refl s

/-- Without a WAITING entry no edge triggers one. -/
theorem offerTrigger_line (i : CapInput) (d : EdgeDir) (pos : Pos) (s : State) :
    LineKeeps s (offerTrigger i d pos s) := by
  constructor
  · exact foldl_rel (fun a b => b.ltb = a.ltb) (fun _ => rfl) (fun _ _ _ h k => k.trans h)
      (fun s e => triggerEntry pos e s) (fun _ _ => rfl) _ _
  · intro h
    obtain ⟨hp, hw, hd⟩ := (allEntries_eq_nil _).mp h
    simp [offerTrigger, hw, allEntries, hp, hd]

theorem distributeEdge_line (i : CapInput) (d : EdgeDir) (s : State) : LineKeeps s (distributeEdge i d s) :=
  (LineKeeps.foldl (reportEdge_line i d) _ s).trans (offerTrigger_line i d _ _)

/-! ## Claims and sessions -/

theorem markChannel_line (c : Chan) (s : State) : LineKeeps s { s with sched := markChannel c s.sched } :=
  ⟨rfl, fun h => by
    obtain ⟨hp, hw, hd⟩ := (allEntries_eq_nil _).mp h
    simp [markChannel, allEntries, hp, hw, hd]⟩

theorem gracefulRelease_line (c : Chan) (s : State) : LineKeeps s (gracefulRelease c s) := by
  unfold gracefulRelease
  dsimp only
  split
  · exact ((setChan_line c _ s).trans (markChannel_line c _)).trans (work_line _ _)
  · exact .refl s

theorem freeByForce_line (c : Chan) (s : State) : LineKeeps s (freeByForce c s) := by
  unfold freeByForce
  dsimp only
  split
  · exact (setChan_line c _ s).trans (overrideWork_line c _)
  · exact setChan_line c _ s

theorem forcedRelease_line (c : Chan) (s : State) : LineKeeps s (forcedRelease c s) :=
  (((removeChannelEntries_line c s).trans (freeByForce_line c _)).trans (handToOwner_line _ _ _ _)).trans
    (setChan_line c _ _)

theorem releaseChans_line (mode : ReleaseMode) (set : List Chan) (s : State) : LineKeeps s (releaseChans mode set s) := by
  refine .foldl (fun s c => ?_) set s
  cases mode with
  | graceful => exact gracefulRelease_line c s
  | forced => exact forcedRelease_line c s

theorem releaseForSessionEnd_line (p : Port) (s : State) : LineKeeps s (releaseForSessionEnd p s) := by
  refine .foldl (fun s c => ?_) allChans s
  unfold endHold
  split
  · exact (freeByForce_line c s).trans (setChan_line c _ _)
  · exact .refl s

theorem claimChans_line (p : Port) (set : List Chan) (s : State) : LineKeeps s (claimChans p set s) := by
  refine .foldl (fun s c => ?_) set s
  unfold claimChan
  split
  · exact setChan_line c _ s
  · exact .refl s

theorem sessionEnd_line (p : Port) (cause : EndCause) (s : State) : LineKeeps s (sessionEnd p cause s) := by
  have disarmed : ∀ u, LineKeeps u (disarmPort p u) := fun u =>
    .foldl (f := fun s i => s.setArm p i .idle) (fun _ _ => .of_sched rfl rfl) allInputs u
  exact (((removeWhere_line _ s).trans (releaseForSessionEnd_line p _)).trans (disarmed _)).trans
    (setSession_line p _ _)

theorem keepaliveExpiry_line (p : Port) (s : State) : LineKeeps s (keepaliveExpiry p s) := by
  unfold keepaliveExpiry
  split
  · exact sessionEnd_line p _ s
  · exact .refl s

/-! ## Channel configuration -/

theorem moveGroup_line (c : Chan) (new : Option GroupId) (s : State) : LineKeeps s (moveGroup c new s) := by
  unfold moveGroup
  dsimp only
  split
  · exact .refl s
  · split
    · split <;> exact .of_sched rfl rfl
    · exact .of_sched rfl rfl

theorem changeFeedbackMode_line (c : Chan) (was : Bool) (s : State) : LineKeeps s (changeFeedbackMode c was s) := by
  unfold changeFeedbackMode
  dsimp only
  split
  · split
    · exact enterFault_line c _ s
    · exact .refl s
  · split
    · exact .refl s
    · exact enterFault_line c _ s
  · exact (setChan_line c _ s).trans (work_line _ _)
  · exact (setChan_line c _ s).trans (work_line _ _)
  · exact .refl s

theorem configure_line (c : Chan) (cfg : ChanConfig) (s : State) : LineKeeps s (configure c cfg s) :=
  ((moveGroup_line c cfg.group s).trans (setChan_line c _ _)).trans (changeFeedbackMode_line c _ _)

/-! ## The invariant -/

/-- The timebase is in order, and the schedule is empty while it is STOPPED. -/
def LineOk (s : State) : Prop := TimebaseOk s.ltb ∧ EmptyWhileStopped s

theorem LineKeeps.ok {s t : State} (k : LineKeeps s t) (h : LineOk s) : LineOk t :=
  ⟨k.ltb ▸ h.1, fun e => k.store (h.2 (k.ltb ▸ e))⟩

theorem TimebaseKeeps.sched {s t : State} (k : TimebaseKeeps s t) : t.sched = s.sched :=
  (congrArg State.sched k.beside :)

theorem StaysInOrder.ok {s t : State} (k : StaysInOrder s t) (sched : t.sched = s.sched) (h : LineOk s) : LineOk t :=
  have ok := k h.1
  ⟨ok.1, fun e => sched ▸ h.2 (ok.2 e)⟩

/-- A part of the state that is neither timebase nor store may be anything. -/
theorem LineOk.of_eq {s t : State} (h : LineOk s) (ltb : t.ltb = s.ltb) (sched : t.sched = s.sched) : LineOk t :=
  (LineKeeps.of_sched ltb sched).ok h

/-! ## Requests -/

/-- R165. -/
theorem setDevice_ok (d : DeviceSettings) {s : State} (h : LineOk s) : LineOk (setDevice d s) := by
  have limit : LineOk { s with ltb := { s.ltb with limit := d.limit } } :=
    ⟨h.1.unseen _ _ _ _ _ _ _, h.2⟩
  exact (setSelector_order d.mode d.offsetA d.offsetB _).ok (setSelector_keeps _ _ _ _).sched
    (limit.of_eq (by rfl) (by rfl))

/-- R44: an entry is admitted to a started timebase alone. -/
theorem started_of_scheduleRefusal {p : Port} {q : ScheduleParams} {s : State} (h : scheduleRefusal p q s = none) :
    s.ltb.started = true := by
  unfold scheduleRefusal at h
  split at h
  · cases h
  · split at h
    · cases h
    · next started => simpa using started

theorem admitEntry_ltb (p : Port) (q : ScheduleParams) (s : State) : (admitEntry p q s).state.ltb = s.ltb := by
  unfold admitEntry
  dsimp only
  split <;> rfl

theorem serveSchedule_ok (p : Port) (a : ScheduleArgs) {s : State} (h : LineOk s) : LineOk (serveSchedule p a s).state := by
  unfold serveSchedule
  split
  · exact h
  · split
    · exact h
    · next q _ _ admitted =>
      have started := started_of_scheduleRefusal admitted
      have ltb := admitEntry_ltb p q s
      refine ⟨ltb ▸ h.1, fun e => ?_⟩
      rw [ltb] at e
      rw [h.1.started.mpr e] at started
      cases started

theorem serveCancel_line (p : Port) (form : Byte) (tag : BitVec 16) (channel : Byte) (s : State) :
    LineKeeps s (serveCancel p form tag channel s).state := by
  unfold serveCancel
  split
  · exact .refl s
  · split
    · exact .refl s
    · exact ((inFreeOrder_line _ s).trans (removeWhere_line _ _)).trans (work_line _ _)

theorem serveResetPort_line (p : Port) (s : State) : LineKeeps s (serveResetPort p s).state := by
  unfold serveResetPort
  dsimp only [accept]
  split
  · exact (sessionEnd_line p _ s).trans (setFront_line p _ _)
  · exact setFront_line p _ s

theorem serveAttach_line (p : Port) (keepalive subs : Byte) (s : State) :
    LineKeeps s (serveAttach p keepalive subs s).state := by
  unfold serveAttach
  split
  · exact .refl s
  · dsimp only [accept]
    split
    · exact setSession_line p _ s
    · exact (setSession_line p _ s).trans (setFront_line p _ _)

theorem act_ok (p : Port) (r : Request) {s : State} (h : LineOk s) : LineOk (act p r s).state := by
  cases r with
  | nop => exact h
  | attach keepalive subs => exact (serveAttach_line p keepalive subs s).ok h
  | detach =>
    unfold act serveDetach
    dsimp only
    split
    · exact h
    · exact (sessionEnd_line p _ s).ok h
  | resetPort => exact (serveResetPort_line p s).ok h
  | readStatus => exact h
  | clearNotices notices =>
    unfold act serveClearNotices
    dsimp only
    split <;> exact h
  | setDevice a =>
    unfold act serveSetDevice
    dsimp only
    split
    · exact h
    · split
      · exact h
      · exact setDevice_ok _ h
  | readDevice => exact h
  | claim chans =>
    unfold act serveClaim
    dsimp only
    split
    · exact h
    · split
      · exact h
      · exact (claimChans_line p _ s).ok h
  | release chans mode =>
    unfold act serveRelease
    dsimp only
    split
    · split
      · exact (releaseChans_line _ _ s).ok h
      · exact h
    · exact h
  | setChannel a =>
    unfold act serveSetChannel
    dsimp only
    split
    · split
      · exact h
      · exact (configure_line _ _ s).ok h
    · exact h
  | readChannel c =>
    unfold act serveReadChannel
    dsimp only
    split <;> exact h
  | clearFault c =>
    unfold act serveClearFault
    dsimp only
    split
    · exact h
    · split
      · exact h
      · exact ((setChan_line _ _ s).trans (work_line _ _)).ok h
  | schedule a => exact serveSchedule_ok p a h
  | cancel form tag channel => exact (serveCancel_line p form tag channel s).ok h
  | readSchedule start =>
    unfold act serveReadSchedule
    dsimp only
    split <;> exact h
  | armCapture input edge count =>
    unfold act serveArmCapture
    dsimp only
    split <;> exact h
  | disarmCapture input =>
    unfold act serveDisarmCapture
    dsimp only
    split <;> exact h
  | takeEvents count =>
    unfold act serveTakeEvents
    dsimp only
    split <;> exact h
  | ackEvents number =>
    unfold act serveAckEvents
    dsimp only
    split <;> exact h

theorem restartKeepalive_line (p : Port) (s : State) : LineKeeps s (restartKeepalive p s) := by
  unfold restartKeepalive
  dsimp only
  split <;> exact .of_sched rfl rfl

theorem replyTo_ok (p : Port) (b : Received) {s : State} (h : LineOk s) : LineOk (replyTo p b s).state := by
  have restarted := (restartKeepalive_line p s).ok h
  cases b with
  | checkError => exact h
  | badRequest => exact restarted
  | good r =>
    unfold replyTo serve
    dsimp only
    split
    · exact act_ok p r restarted
    · exact restarted

/-! ## Every part of a step -/

theorem setMonitor_test_ok (r : RefId) (m : Monitor) {s : State} (h : LineOk s) :
    LineOk (testStanding (s.setMonitor r m)) :=
  (testStanding_order _).ok (testStanding_keeps _).sched (h.of_eq (by simp) (by simp))

theorem silenceLimitExpiry_ok (r : RefId) {s : State} (h : LineOk s) : LineOk (silenceLimitExpiry r s) := by
  unfold silenceLimitExpiry
  split
  · exact setMonitor_test_ok r _ h
  · exact h

theorem countLtb_lock (l : Ltb) : (countLtb l).lock = l.lock := by
  unfold countLtb
  split
  · rfl
  · split <;> rfl

/-- The timebase and the store are kept in order by every part of a step. -/
theorem lineOk_keptByParts : KeptByParts LineOk where
  draws _ _ h := h
  clock _ _ _ h := h
  inputs _ _ _ _ _ _ h := h
  ports _ _ _ _ _ _ _ _ _ h := h
  feedbackRun _ _ _ h := h
  supplyRun _ _ h := h
  accumulator s h := ⟨h.1.countLtb, fun e => h.2 (countLtb_lock s.ltb ▸ e)⟩
  work s h := (timebaseWork_order s).ok (timebaseWork_keeps s).sched h
  offer s h := (offerPosition_line s).ok h
  edge t s h := (timebaseEdge_order t s).ok (timebaseEdge_keeps t s).sched h
  monitor r _ h := setMonitor_test_ok r _ h
  silence r _ h := silenceLimitExpiry_ok r h
  capture i d s h := (distributeEdge_line i d s).ok h
  feedback c closed s h := (feedbackChange_line c closed s).ok h
  verify c s h := (verifyExpiry_line c s).ok h
  supplyLow s h := (supplyEntry_line s).ok h
  supplyHigh s h := (supplyLeaving_line s).ok h
  keepalive p s h := (keepaliveExpiry_line p s).ok h
  examine c _ h := (work_line [.examine c] _).ok h
  drain c s h := (drainCompletion_line c s).ok h
  reply p b _ h := replyTo_ok p b h
  blocks _ _ _ _ _ _ _ := ⟨Ltb.reset_ok, fun _ => rfl⟩

/-- Settles O4: the invariant is kept by every part of a step, so by the step. -/
theorem timebaseStaysInOrder : Obligations.TimebaseStaysInOrder := by
  unfold Obligations.TimebaseStaysInOrder
  intro s t timebase store e
  exact lineOk_keptByParts.step (P := LineOk) ⟨timebase, store⟩ e

end Sys2Proof.Machine
end

section
/-! O10, O56, O49: the values of reset, and the changes of a filter that make no edge. -/

namespace Sys2Proof.Machine

/-! ## The records that a reset gives -/

theorem resetChannels_get (fbk : BitVec 12) (c : Chan) :
    (resetChannels fbk).get c = Channel.reset (fbk.getLsbD c.val) := by
  fin_cases c <;> rfl

theorem replicate_get {α : Type} (n : Nat) (x : α) (i : Fin n) : (Vector.replicate n x).get i = x := by
  simp [Vector.get_eq_getElem]

theorem State.reset_chan (c : Chan) : State.reset.chan c = Channel.reset false :=
  (resetChannels_get 0 c).trans (by simp)

theorem State.reset_session (p : Port) : State.reset.session p = Session.reset := replicate_get 3 _ p

theorem State.reset_entries : allEntries State.reset.sched = [] := rfl

theorem State.reset_heldTags : heldTags State.reset = [] :=
  List.filterMap_eq_nil_iff.mpr fun c _ => by rw [State.reset_chan]; rfl

/-! ## O10 -/

theorem Session.reset_ok : SessionOk Session.reset := by
  constructor <;> simp [Session.reset, Consecutive]

theorem Channel.reset_ok (fbk : Bool) : ChannelOk (Channel.reset fbk) := by
  constructor <;> simp [Channel.reset, ChanConfig.reset, drivenState, movingState]

theorem State.reset_drives : OneDrive State.reset := fun c _ _ on => by
  rw [State.reset_chan] at on
  cases on

theorem State.reset_holds (p : Port) (c : Chan) : State.reset.holds p c = false := by
  simp [State.holds, State.reset_chan, Channel.reset, ownerOf]

theorem State.reset_ownership : OwnershipOk State.reset where
  entries e he := absurd he (by simp [State.reset_entries])
  pendingOpens c _ := by rw [State.reset_chan]; rfl
  claims p _ c := State.reset_holds p c
  store _ _ e he := absurd he (by simp [State.reset_entries])
  arms p _ i := by
    have row : State.reset.arms.get p = Vector.replicate 4 Arm.idle := replicate_get 3 _ p
    unfold State.arm
    rw [row]
    exact replicate_get 4 _ i

theorem State.reset_tags : TagsOk State.reset where
  live := by rw [State.reset_heldTags]; simp [liveTags, State.reset, Schedule.reset]
  entries := by simp [State.reset_entries]
  deferred x hx := absurd hx (by simp [State.reset, Schedule.reset])
  nonzero e he := absurd he (by simp [State.reset_entries])

/-- Settles O10. -/
theorem resetMeetsInvariants : Obligations.ResetMeetsInvariants := by
  unfold Obligations.ResetMeetsInvariants
  have sessions : SessionsOk State.reset := fun p => by rw [State.reset_session]; exact Session.reset_ok
  have channels : ∀ c, ChannelOk (State.reset.chan c) := fun c => by rw [State.reset_chan]; exact Channel.reset_ok false
  have shared : StoreOk State.reset := by unfold StoreOk; decide
  exact ⟨sessions, Ltb.reset_ok, fun _ => State.reset_entries, shared, ⟨channels, State.reset_drives⟩,
    State.reset_ownership, State.reset_tags, rfl⟩

/-! ## O56 -/

/-- R187, R188: a part held in reset is released with the levels that are sampled. -/
theorem releaseResetAt_reset (straps : Straps) (fbk : BitVec 12) (suplowN : Bool) {s : State} (h : s.power ≠ .running) :
    releaseResetAt straps fbk suplowN s =
      releaseReset
        { s with pins := { s.pins with straps := straps, fbk := fbk, suplowN := suplowN, resetN := true } } := by
  unfold releaseResetAt
  split
  · next e => exact absurd e h
  · rfl

/-- Settles O56: each field is that of `blocksReset`. -/
theorem resetReleaseValues : Obligations.ResetReleaseValues := by
  unfold Obligations.ResetReleaseValues
  intro straps fbk suplowN s held
  refine ⟨_, rfl, ?_⟩
  rw [releaseResetAt_reset straps fbk suplowN held]
  have chans : ∀ c : Chan, _ := resetChannels_get fbk
  have arms : ∀ (q : Port) (i : CapInput),
      ((Vector.replicate 3 (Vector.replicate 4 Arm.idle)).get q).get i = Arm.idle := fun q i => by
    rw [replicate_get, replicate_get]
  refine ⟨rfl, rfl, rfl, rfl, rfl, rfl, rfl, rfl, rfl, rfl, fun c => ?_, fun g => replicate_get 4 _ g, rfl, rfl,
    fun q => replicate_get 3 _ q, fun i => ?_, arms, fun q => replicate_get 3 _ q, rfl, rfl, rfl, rfl, rfl, rfl⟩
  · have reset : (releaseReset
        { s with pins := { s.pins with straps := straps, fbk := fbk, suplowN := suplowN, resetN := true } }).chan c
          = Channel.reset (fbk.getLsbD c.val) := chans c
    rw [reset]
    rfl
  · have reset : (Vector.replicate 4 CapFilter.reset).get i = CapFilter.reset := replicate_get 4 _ i
    exact ⟨congrArg CapFilter.level reset, congrArg CapFilter.holdOff reset⟩

/-! ## O49 -/

/-- An input that has shown a level on all the samples of its filter. -/
theorem shownFor_full (full : Nat) (level : Bool) (r : SampleRun) : shownFor full full level r = fullRun full level := by
  unfold shownFor fullRun
  split <;> simp

/-- R3: a level that makes no rising edge qualifies, and changes its own filter alone. -/
theorem quietRefLevel_eq (r : RefId) (high : Bool) {s : State}
    (quiet : ¬(high = true ∧ (s.refFilter r).level = some false)) :
    quietRefLevel r high s =
      (showRef r high edgeSamples s).setRefFilter r { level := some high, run := fullRun edgeSamples high } := by
  have shown : (showRef r high edgeSamples s).refFilter r =
      { level := (s.refFilter r).level, run := fullRun edgeSamples high } := by
    unfold showRef
    rw [State.setRefFilter_refFilter_same, shownFor_full]
  unfold quietRefLevel handleDue
  rw [if_neg quiet]
  split
  · simp only [handle, refQualified, shown, if_neg quiet, id]
  · next undue =>
    have level : (s.refFilter r).level = some high := by simpa [isDue, shown, runFull] using undue
    rw [← level, ← shown]
    cases r <;> rfl

/-- R141: with 8 samples behind the hold-off, the first level qualifies and changes its own filter alone. -/
theorem firstCapLevel_eq (i : CapInput) (high : Bool) {s : State} (first : (s.capFilter i).level = none)
    (clear : clearOfHoldOff edgeSamples s.now (s.capFilter i) = edgeSamples) :
    firstCapLevel i high s =
      (showCap i high edgeSamples s).setCapFilter i
        { level := some high, run := fullRun edgeSamples high, holdOff := (s.capFilter i).holdOff } := by
  have shown : (showCap i high edgeSamples s).capFilter i =
      { level := none, run := fullRun edgeSamples high, holdOff := (s.capFilter i).holdOff } := by
    unfold showCap
    rw [State.setCapFilter_capFilter_same, clear, shownFor_full, first]
  have due : isDue (showCap i high edgeSamples s) (.capLevel i high) = true := by simp [isDue, shown, runFull]
  unfold firstCapLevel
  rw [first]
  dsimp only
  rw [handleDue_due due]
  simp only [handle, capQualified, shown]

theorem clearOfHoldOff_full {n now : Nat} {f : CapFilter} (h : ∀ last ∈ f.holdOff, last + n ≤ now) :
    clearOfHoldOff n now f = n := by
  unfold clearOfHoldOff
  split
  · rfl
  · next last e => have := h last e; omega

theorem endHoldOff_ended {i : CapInput} {s : State} (ended : ∀ last ∈ (s.capFilter i).holdOff, last ≤ s.now) :
    endHoldOff i s = s := by
  unfold endHoldOff
  split
  · next last e => exact if_neg (Nat.not_lt.mpr (ended last e))
  · rfl

theorem endHoldOff_running {i : CapInput} {s : State} {last : Nat} (e : (s.capFilter i).holdOff = some last)
    (runs : s.now < last) :
    endHoldOff i s = s.setCapFilter i { s.capFilter i with run := SampleRun.none, holdOff := some s.now } := by
  unfold endHoldOff
  rw [e]
  exact if_pos runs

theorem firstCapLevel_later {i : CapInput} {high : Bool} {s : State} (later : (s.capFilter i).level ≠ none) :
    firstCapLevel i high s = s := by
  unfold firstCapLevel
  split
  · next e => exact absurd e later
  · rfl

/-- Settles O49. -/
theorem filtersWithoutEdge : Obligations.FiltersWithoutEdge := by
  unfold Obligations.FiltersWithoutEdge
  intro r i high s running
  refine ⟨fun quiet => ?_, fun rising => ?_, fun last e runs => ?_, fun ended => ?_, fun first clear => ?_, fun later => ?_⟩
  · refine ⟨_, rfl, ?_⟩
    rw [State.whileRunning_running running, quietRefLevel_eq r high quiet]
    refine ⟨?_, by simp [fullRun, edgeSamples], ?_⟩ <;> cases r <;> rfl
  · simp only [exec, execReferenceLevelQualified, State.whileRunning_running running, quietRefLevel, if_pos rising]
  · refine ⟨_, rfl, ?_⟩
    rw [State.whileRunning_running running, endHoldOff_running e runs]
    exact ⟨rfl, by simp [SampleRun.none], fun j other => State.setCapFilter_capFilter_ne s _ (Ne.symm other)⟩
  · simp only [exec, execCaptureHoldOffEnd, State.whileRunning_running running, endHoldOff_ended ended]
  · refine ⟨_, rfl, ?_⟩
    rw [State.whileRunning_running running, firstCapLevel_eq i high first (clearOfHoldOff_full clear)]
    refine ⟨rfl, by simp [fullRun, edgeSamples], fun j other => ?_⟩
    rw [State.setCapFilter_capFilter_ne _ _ (Ne.symm other), showCap, State.setCapFilter_capFilter_ne _ _ (Ne.symm other)]
    rfl
  · simp only [exec, execCaptureFirstQualification, State.whileRunning_running running, firstCapLevel_later later]

end Sys2Proof.Machine
end

section
/-! What one count makes of each field, and what an offer of the position makes of channels and groups. -/

namespace Sys2Proof.Machine

/-! ## An update of every record -/

/-- A fold that updates the records of a list one after another, each from itself and from what no update changes. -/
theorem foldl_records {ι α : Type} [DecidableEq ι] (read : State → ι → α) (write : State → ι → α → State)
    (read_write : ∀ s i j x, read (write s i x) j = if i = j then x else read s j) (g : State → ι → α → α)
    (g_write : ∀ s i x, g (write s i x) = g s) (l : List ι) (nodup : l.Nodup) (s : State) (j : ι) :
    read (l.foldl (fun s i => write s i (g s i (read s i))) s) j = if j ∈ l then g s j (read s j) else read s j := by
  induction l generalizing s with
  | nil => simp
  | cons i l ih =>
    obtain ⟨fresh, nodup⟩ := List.nodup_cons.mp nodup
    rw [List.foldl_cons, ih nodup, g_write, read_write]
    by_cases e : i = j
    · subst e; simp [fresh]
    · simp [e, Ne.symm e]

theorem mem_allChans (c : Chan) : c ∈ allChans := by fin_cases c <;> simp [allChans]
theorem mem_allGroups (g : GroupId) : g ∈ allGroups := by fin_cases g <;> simp [allGroups]
theorem mem_allInputs (i : CapInput) : i ∈ allInputs := by fin_cases i <;> simp [allInputs]
theorem mem_allPorts (p : Port) : p ∈ allPorts := by fin_cases p <;> simp [allPorts]

/-- Every channel record updated, and nothing else. -/
theorem foldl_setChan (g : State → Chan → Channel → Channel) (g_set : ∀ s c x, g (s.setChan c x) = g s) (s : State) :
    ∃ v : Vector Channel 12, allChans.foldl (fun s c => s.setChan c (g s c (s.chan c))) s = { s with chans := v }
      ∧ ∀ c, v.get c = g s c (s.chan c) := by
  refine ⟨_, foldl_rel (fun a b => b = { a with chans := b.chans }) (fun _ => rfl)
    (fun _ _ c h k => k.trans (congrArg (fun u : State => { u with chans := c.chans }) h)) _ (fun _ _ => rfl) allChans s,
    fun c => ?_⟩
  exact (foldl_records State.chan State.setChan State.setChan_chan g g_set allChans (by decide) s c).trans
    (if_pos (mem_allChans c))

/-- Every group record updated, and nothing else. -/
theorem foldl_setGroup (h : State → GroupId → Group → Group) (h_set : ∀ s g x, h (s.setGroup g x) = h s) (s : State) :
    ∃ v : Vector Group 4, allGroups.foldl (fun s g => s.setGroup g (h s g (s.group g))) s = { s with groups := v }
      ∧ ∀ g, v.get g = h s g (s.group g) := by
  refine ⟨_, foldl_rel (fun a b => b = { a with groups := b.groups }) (fun _ => rfl)
    (fun _ _ c h k => k.trans (congrArg (fun u : State => { u with groups := c.groups }) h)) _ (fun _ _ => rfl) allGroups
    s, fun g => ?_⟩
  exact (foldl_records State.group State.setGroup State.setGroup_group h h_set allGroups (by decide) s g).trans
    (if_pos (mem_allGroups g))

/-- Every capture filter updated, and nothing else. -/
theorem foldl_setCapFilter (g : State → CapInput → CapFilter → CapFilter)
    (g_set : ∀ s i x, g (s.setCapFilter i x) = g s) (s : State) :
    ∃ v : Vector CapFilter 4,
      allInputs.foldl (fun s i => s.setCapFilter i (g s i (s.capFilter i))) s = { s with capFilters := v }
      ∧ ∀ i, v.get i = g s i (s.capFilter i) := by
  refine ⟨_, foldl_rel (fun a b => b = { a with capFilters := b.capFilters }) (fun _ => rfl)
    (fun _ _ c h k => k.trans (congrArg (fun u : State => { u with capFilters := c.capFilters }) h)) _
    (fun _ _ => rfl) allInputs s, fun i => ?_⟩
  exact (foldl_records State.capFilter State.setCapFilter State.setCapFilter_capFilter g g_set allInputs (by decide) s
    i).trans (if_pos (mem_allInputs i))

/-- Every front end updated, and nothing else. -/
theorem foldl_setFront (g : State → Port → FrontEnd → FrontEnd) (g_set : ∀ s p x, g (s.setFront p x) = g s) (s : State) :
    ∃ v : Vector FrontEnd 3, allPorts.foldl (fun s p => s.setFront p (g s p (s.front p))) s = { s with fronts := v }
      ∧ ∀ p, v.get p = g s p (s.front p) := by
  refine ⟨_, foldl_rel (fun a b => b = { a with fronts := b.fronts }) (fun _ => rfl)
    (fun _ _ c h k => k.trans (congrArg (fun u : State => { u with fronts := c.fronts }) h)) _ (fun _ _ => rfl) allPorts
    s, fun p => ?_⟩
  exact (foldl_records State.front State.setFront State.setFront_front g g_set allPorts (by decide) s p).trans
    (if_pos (mem_allPorts p))

/-! ## The beginning of a count -/

/-- R177: the receiver after a sample of RXD. -/
def sampledReceiver (rxd : Bool) (now : Nat) : Receiver → Receiver
  | .discarding n => .discarding (if rxd = true then n else now)
  | x => x

theorem sampleRxd_eq (s : State) : sampleRxd s = { s with receiver := sampledReceiver s.pins.rxd s.now s.receiver } := by
  unfold sampleRxd
  cases e : s.receiver with
  | discarding n =>
    dsimp only [sampledReceiver]
    split <;> [rw [← e]; rfl]
  | idle => dsimp only [sampledReceiver]; rw [← e]
  | receiving got last => dsimp only [sampledReceiver]; rw [← e]

/-- R120: the front end of a port as a moment ends. -/
def closedFront (s : State) (p : Port) (x : FrontEnd) : FrontEnd :=
  match x.buffer with
  | .pending r n => { x with buffer := .pending (responseNow p r n s) n }
  | _ => x

theorem State.setFront_self (s : State) (p : Port) : s.setFront p (s.front p) = s := by
  simp [State.setFront, State.front, Vector.get_eq_getElem]

theorem closeMoment_eq (s : State) (p : Port) : closeMoment s p = s.setFront p (closedFront s p (s.front p)) := by
  unfold closeMoment closedFront
  cases e : (s.front p).buffer with
  | pending r n => rfl
  | empty => exact (State.setFront_self s p).symm
  | ready r => exact (State.setFront_self s p).symm

/-- R1, R3, R66, R85, R120, R141, R177, R188: what the beginning of a count makes of every field. -/
theorem nextCount_fields (s : State) :
    ∃ (fronts : Vector FrontEnd 3) (caps : Vector CapFilter 4) (chans : Vector Channel 12),
      nextCount s =
        { s with
          now := s.now + 1, ltb := countLtb s.ltb
          filterA := { s.filterA with run := sample edgeSamples s.pins.refA s.filterA.run }
          filterB := { s.filterB with run := sample edgeSamples s.pins.refB s.filterB.run }
          supply := { s.supply with run := sample supplySamples s.pins.suplowN s.supply.run }
          resetRun := sample resetSamples s.pins.resetN s.resetRun
          receiver := sampledReceiver s.pins.rxd (s.now + 1) s.receiver
          fronts := fronts, capFilters := caps, chans := chans }
      ∧ (∀ p, fronts.get p = closedFront s p (s.front p))
      ∧ (∀ i, caps.get i =
          { s.capFilter i with
            run :=
              if clearOfHoldOff 1 (s.now + 1) (s.capFilter i) = 0 then SampleRun.none
              else sample edgeSamples (s.pins.cap.getLsbD i.val) (s.capFilter i).run })
      ∧ ∀ c, chans.get c =
          { s.chan c with fbkRun := sample feedbackSamples (s.pins.fbk.getLsbD c.val) (s.chan c).fbkRun } := by
  obtain ⟨fronts, moments, front⟩ := foldl_setFront closedFront (fun _ _ _ => rfl) s
  have closed : allPorts.foldl closeMoment s = { s with fronts := fronts } :=
    (congrArg (fun f => allPorts.foldl f s) (funext fun s => funext fun p => closeMoment_eq s p)).trans moments
  let refs := sampleRef .b (sampleRef .a
    (sampleReset { s with fronts := fronts, now := s.now + 1, ltb := countLtb s.ltb }))
  obtain ⟨caps, capsEq, cap⟩ := foldl_setCapFilter
    (fun s i f =>
      { f with
        run := if clearOfHoldOff 1 s.now f = 0 then SampleRun.none
          else sample edgeSamples (s.pins.cap.getLsbD i.val) f.run }) (fun _ _ _ => rfl) refs
  obtain ⟨chans, chansEq, chan⟩ := foldl_setChan
    (fun s c ch => { ch with fbkRun := sample feedbackSamples (s.pins.fbk.getLsbD c.val) ch.fbkRun })
    (fun _ _ _ => rfl) { refs with capFilters := caps }
  refine ⟨fronts, caps, chans, ?_, front, cap, chan⟩
  have sampled : sampleInputs (sampleReset { s with fronts := fronts, now := s.now + 1, ltb := countLtb s.ltb }) =
      sampleRxd (sampleSupply { refs with capFilters := caps, chans := chans }) :=
    congrArg (fun u => sampleRxd (sampleSupply u))
      ((congrArg (allChans.foldl fun s c => sampleFbk c s) capsEq).trans chansEq)
  unfold nextCount
  rw [closed]
  exact sampled.trans (sampleRxd_eq _)

section nextCount

variable (s : State)

@[simp] theorem nextCount_now : (nextCount s).now = s.now + 1 := by
  obtain ⟨_, _, _, e, -⟩ := nextCount_fields s; rw [e]

@[simp] theorem nextCount_ltb : (nextCount s).ltb = countLtb s.ltb := by
  obtain ⟨_, _, _, e, -⟩ := nextCount_fields s; rw [e]

theorem nextCount_filterA :
    (nextCount s).filterA = { s.filterA with run := sample edgeSamples s.pins.refA s.filterA.run } := by
  obtain ⟨_, _, _, e, -⟩ := nextCount_fields s; rw [e]

theorem nextCount_filterB :
    (nextCount s).filterB = { s.filterB with run := sample edgeSamples s.pins.refB s.filterB.run } := by
  obtain ⟨_, _, _, e, -⟩ := nextCount_fields s; rw [e]

theorem nextCount_supply :
    (nextCount s).supply = { s.supply with run := sample supplySamples s.pins.suplowN s.supply.run } := by
  obtain ⟨_, _, _, e, -⟩ := nextCount_fields s; rw [e]

theorem nextCount_resetRun : (nextCount s).resetRun = sample resetSamples s.pins.resetN s.resetRun := by
  obtain ⟨_, _, _, e, -⟩ := nextCount_fields s; rw [e]

theorem nextCount_receiver : (nextCount s).receiver = sampledReceiver s.pins.rxd (s.now + 1) s.receiver := by
  obtain ⟨_, _, _, e, -⟩ := nextCount_fields s; rw [e]

theorem nextCount_chan (c : Chan) :
    (nextCount s).chan c =
      { s.chan c with fbkRun := sample feedbackSamples (s.pins.fbk.getLsbD c.val) (s.chan c).fbkRun } := by
  obtain ⟨_, _, _, e, -, -, chan⟩ := nextCount_fields s; rw [e]; exact chan c

theorem nextCount_capFilter (i : CapInput) :
    (nextCount s).capFilter i =
      { s.capFilter i with
        run :=
          if clearOfHoldOff 1 (s.now + 1) (s.capFilter i) = 0 then SampleRun.none
          else sample edgeSamples (s.pins.cap.getLsbD i.val) (s.capFilter i).run } := by
  obtain ⟨_, _, _, e, -, cap, -⟩ := nextCount_fields s; rw [e]; exact cap i

theorem nextCount_front (p : Port) : (nextCount s).front p = closedFront s p (s.front p) := by
  obtain ⟨_, _, _, e, front, -, -⟩ := nextCount_fields s; rw [e]; exact front p

end nextCount

/-! ## An offer of the position -/

/-- R76, R91: the state at an offer, before what the position has reached is taken. -/
@[irreducible] def atOffer (s : State) : State := dropVacatedPositions (settleDwell s)

/-- R2, R46, R81: what an offer sets going, before its order is chosen. -/
def offerTasks (s : State) : List Task :=
  (allChans.filter fun c => (s.chan c).pendingOpen.isSome).map Task.examine ++ (if headReached s then [.fire] else [])

theorem offerPosition_eq (s : State) :
    offerPosition s =
      work ((atOffer s).inFreeOrder (offerTasks (atOffer s))).1 ((atOffer s).inFreeOrder (offerTasks (atOffer s))).2 := by
  unfold atOffer
  rfl

theorem settleChannel_eq (pos : Pos) (ch : Channel) :
    settleChannel pos ch = { ch with settled := ch.settled || decide (66048 ≤ signedDistance pos ch.changePos) } := by
  unfold settleChannel
  split
  · next far => simp [far]
  · next near => simp [near]

theorem dropVacated_eq (pos : Pos) (g : Group) : dropVacated pos g = offeredGroup pos g := by
  obtain ⟨vacated, gap⟩ := g
  unfold dropVacated offeredGroup
  cases vacated with
  | none => rfl
  | some v =>
    by_cases far : 2048 ≤ signedDistance pos v
    · simp [Option.filter, far, Int.not_lt.mpr far]
    · simp [Option.filter, far, Int.not_le.mp far]

/-- R76, R91: the dwell settled flags and the vacated positions at an offer. -/
theorem atOffer_fields (s : State) :
    ∃ (chans : Vector Channel 12) (groups : Vector Group 4),
      atOffer s = { s with chans := chans, groups := groups }
      ∧ (∀ c, chans.get c =
          { s.chan c with
            settled := (s.chan c).settled || decide (66048 ≤ signedDistance s.ltb.pos (s.chan c).changePos) })
      ∧ ∀ g, groups.get g = offeredGroup s.ltb.pos (s.group g) := by
  obtain ⟨chans, settled, chan⟩ :=
    foldl_setChan (fun s _ ch => settleChannel s.ltb.pos ch) (fun _ _ _ => rfl) s
  obtain ⟨groups, dropped, group⟩ :=
    foldl_setGroup (fun s _ x => dropVacated s.ltb.pos x) (fun _ _ _ => rfl) { s with chans := chans }
  refine ⟨chans, groups, ?_, fun c => (chan c).trans (settleChannel_eq _ _),
    fun g => (group g).trans (dropVacated_eq _ _)⟩
  unfold atOffer
  exact (congrArg dropVacatedPositions settled).trans dropped

theorem atOffer_frame (s : State) :
    atOffer s = { s with chans := (atOffer s).chans, groups := (atOffer s).groups } := by
  obtain ⟨_, _, e, -⟩ := atOffer_fields s; rw [e]

theorem atOffer_chan (s : State) (c : Chan) :
    (atOffer s).chan c =
      { s.chan c with
        settled := (s.chan c).settled || decide (66048 ≤ signedDistance s.ltb.pos (s.chan c).changePos) } := by
  obtain ⟨_, _, e, chan, -⟩ := atOffer_fields s; rw [e]; exact chan c

theorem atOffer_group (s : State) (g : GroupId) : (atOffer s).group g = offeredGroup s.ltb.pos (s.group g) := by
  obtain ⟨_, _, e, -, group⟩ := atOffer_fields s; rw [e]; exact group g

@[simp] theorem atOffer_ltb (s : State) : (atOffer s).ltb = s.ltb := by rw [atOffer_frame]
@[simp] theorem atOffer_sched (s : State) : (atOffer s).sched = s.sched := by rw [atOffer_frame]
@[simp] theorem atOffer_session (s : State) (p : Port) : (atOffer s).session p = s.session p := by
  obtain ⟨_, _, e, -⟩ := atOffer_fields s; rw [e]; rfl

theorem atOffer_keeps (s : State) : WorkKeeps s (atOffer s) where
  rest := by obtain ⟨_, _, e, -⟩ := atOffer_fields s; rw [e]; rfl
  sessions p := by rw [atOffer_session]; exact .refl _
  cfg c := by rw [atOffer_chan]
  feedback c := by rw [atOffer_chan]; exact ⟨rfl, rfl⟩
  gap g := by rw [atOffer_group]; rfl
  tagCounter := by rw [atOffer_sched]

/-- Free choices are none of the work's concern. -/
theorem WorkKeeps.draws_eq {s t : State} (h : WorkKeeps s t) (k : Nat) :
    WorkKeeps { s with draws := k } { t with draws := k } :=
  ⟨(congrArg (fun u : State => { u with draws := k }) h.rest :), h.sessions, h.cfg, h.feedback, h.gap, h.tagCounter⟩

/-- What an offer of the position can do: what the work can do, with a count of free choices. -/
theorem offerPosition_keeps (s : State) : ∃ k, WorkKeeps { s with draws := k } (offerPosition s) := by
  obtain ⟨k, e⟩ := State.inFreeOrder_state (offerTasks (atOffer s)) (atOffer s)
  refine ⟨k, ?_⟩
  rw [offerPosition_eq, e]
  exact ((atOffer_keeps s).draws_eq k).trans (work_keeps _ _)

theorem headReached_of_ahead {s : State} (h : Ahead s.ltb.pos s.sched.pending) : headReached s = false := by
  unfold headReached
  split
  · next x l e => simpa [reached] using h x (e ▸ List.mem_cons_self)
  · rfl

theorem offerTasks_noOpens {s : State} (h : ∀ c, (s.chan c).pendingOpen = none) :
    offerTasks s = if headReached s then [.fire] else [] := by
  unfold offerTasks
  simp [h]

theorem atOffer_noOpens {s : State} (h : ∀ c, (s.chan c).pendingOpen = none) (c : Chan) :
    ((atOffer s).chan c).pendingOpen = none := by
  rw [atOffer_chan]
  exact h c

/-- Nothing is to fire and no open is owed: the offer settles dwells and drops vacated positions alone. -/
theorem offerPosition_quiet {s : State} (h : NothingToFire s.ltb.pos s) : offerPosition s = atOffer s := by
  obtain ⟨ahead, noOpens⟩ := h
  have idle : offerTasks (atOffer s) = [] := by
    rw [offerTasks_noOpens (atOffer_noOpens noOpens), headReached_of_ahead (by simpa using ahead)]
    rfl
  rw [offerPosition_eq, idle]
  rfl

/-! ## One MARK fires -/

/-- R46, R49: a MARK with tolerance ANY and no repeat gives DONE and ends. -/
theorem issue_mark {x : PendingEntry} (s : State) (mark : x.entry.action = .mark) (once : x.entry.rep = none)
    (any : x.entry.tol = .any) :
    issue x s =
      (s.handTo x.entry.owner s.ltb.pos (.done x.entry.tag x.entry.label .mark false none false false 0), []) := by
  simp [issue, mark, any, isSecond, toleranceMet, isClosing, chanOf, issueDone, doneRecord, kindOf, issueFigure, once,
    remainingFigure, afterDone, endFiring, lastEntryReport]

/-- R46: a head that has been reached is removed and issued, and the loop goes on. -/
theorem fireHead_reached {x : PendingEntry} {rest : List PendingEntry} {s : State} (head : s.sched.pending = x :: rest)
    (h : signedDistance x.fire s.ltb.pos ≤ 0) :
    fireHead s =
      ((issue x { s with sched := { s.sched with pending := rest } }).1,
        (issue x { s with sched := { s.sched with pending := rest } }).2 ++ [.fireOn]) := by
  unfold fireHead
  rw [head]
  simp [reached, h]

theorem fireHead_ahead {s : State} (h : Ahead s.ltb.pos s.sched.pending) : fireHead s = (s, []) := by
  unfold fireHead
  split
  · rfl
  · next x l e =>
    have ahead := h x (e ▸ List.mem_cons_self)
    simp [reached, Int.not_le.mpr ahead]

/-- The bound of log 12 leaves room for the tasks of one MARK. -/
theorem workFuel_succ : workFuel = workFuel - 2 + 1 + 1 := by
  have : 2 ≤ workFuel := by unfold workFuel; norm_num
  omega

theorem runTasks_nil (n : Nat) (s : State) : runTasks n [] s = s := by cases n <;> rfl

/-- One MARK is reached, and the rest lies ahead: it leaves the store with its DONE record. -/
theorem work_fire_mark {x : PendingEntry} {rest : List PendingEntry} {s : State} (h : OneMark s.ltb.pos x rest s) :
    work [.fire] s =
      { s with sched := { s.sched with pending := rest } }.handTo x.entry.owner s.ltb.pos
        (.done x.entry.tag x.entry.label .mark false none false false 0) := by
  obtain ⟨head, reached, ahead, mark, once, any, -⟩ := h
  have issued := issue_mark { s with sched := { s.sched with pending := rest } } mark once any
  have fired : Task.run false .fire s = _ := (fireHead_reached head reached).trans (by rw [issued])
  unfold work
  rw [workFuel_succ, runTasks_cons]
  simp only [List.contains_nil, fired, List.nil_append, List.append_nil]
  rw [runTasks_cons]
  simp only [Task.run, List.append_nil]
  rw [fireHead_ahead (by simpa using ahead)]
  exact runTasks_nil _ _

/-- R2, R46: an offer that one MARK meets. -/
theorem offerPosition_mark {x : PendingEntry} {rest : List PendingEntry} {s : State} (h : OneMark s.ltb.pos x rest s) :
    offerPosition s =
      { atOffer s with sched := { s.sched with pending := rest } }.handTo x.entry.owner s.ltb.pos
        (.done x.entry.tag x.entry.label .mark false none false false 0) := by
  obtain ⟨head, reachedPos, ahead, mark, once, any, noOpens⟩ := h
  have marked : OneMark (atOffer s).ltb.pos x rest (atOffer s) :=
    ⟨by simpa using head, by simpa using reachedPos, by simpa using ahead, mark, once, any, atOffer_noOpens noOpens⟩
  have headReached : headReached (atOffer s) = true := by
    unfold Machine.headReached
    rw [atOffer_sched, head]
    simpa [reached] using reachedPos
  have tasks : offerTasks (atOffer s) = [.fire] := by
    rw [offerTasks_noOpens (atOffer_noOpens noOpens), headReached]
    rfl
  rw [offerPosition_eq, tasks, State.inFreeOrder_short _ _ (by simp)]
  have fired := work_fire_mark marked
  simpa only [atOffer_ltb, atOffer_sched] using fired

end Sys2Proof.Machine
end

section
/-! What the taking of a request leaves as it is, whatever the request: the clock, the queue, the pins and the filters. -/

namespace Sys2Proof.Machine

/-- The parts of the state that the taking of a request never changes. -/
def State.unserved (s : State) : State :=
  { s with
    draws := 0
    ltb := Ltb.reset
    sel := Selector.reset
    sched := Schedule.reset
    chans := resetChannels 0
    groups := Vector.replicate 4 Group.reset
    supply := Supply.reset true
    sessions := Vector.replicate 3 Session.reset
    arms := Vector.replicate 3 (Vector.replicate 4 Arm.idle)
    fronts := Vector.replicate 3 FrontEnd.reset }

/-- Only what a request can change has changed. -/
def Served (s t : State) : Prop := t.unserved = s.unserved

namespace Served

theorem refl (s : State) : Served s s := rfl

theorem trans {a b c : State} (h : Served a b) (k : Served b c) : Served a c := Eq.trans k h

theorem of_work {s t : State} (h : WorkKeeps s t) : Served s t := (congrArg State.unserved h.rest :)

theorem of_timebase {s t : State} (h : TimebaseKeeps s t) : Served s t := (congrArg State.unserved h.beside :)

theorem now {s t : State} (h : Served s t) : t.now = s.now := (congrArg State.now h :)

theorem pending {s t : State} (h : Served s t) : t.pending = s.pending := (congrArg State.pending h :)

theorem foldl {α : Type} {f : State → α → State} (turn : ∀ s x, Served s (f s x)) (l : List α) (s : State) :
    Served s (l.foldl f s) :=
  foldl_rel Served refl (fun _ _ _ => trans) f turn l s

end Served

theorem setChan_served (c : Chan) (x : Channel) (s : State) : Served s (s.setChan c x) := rfl
theorem setSession_served (p : Port) (x : Session) (s : State) : Served s (s.setSession p x) := rfl
theorem setFront_served (p : Port) (x : FrontEnd) (s : State) : Served s (s.setFront p x) := rfl
theorem setArm_served (p : Port) (i : CapInput) (x : Arm) (s : State) : Served s (s.setArm p i x) := rfl

theorem inFreeOrder_served {α : Type} (l : List α) (s : State) : Served s (s.inFreeOrder l).2 := by
  obtain ⟨k, e⟩ := State.inFreeOrder_state l s
  rw [e]
  rfl

theorem offerPosition_served (s : State) : Served s (offerPosition s) := by
  obtain ⟨k, h⟩ := offerPosition_keeps s
  exact Served.trans (b := { s with draws := k }) rfl (.of_work h)

theorem sessionEnd_served (p : Port) (cause : EndCause) (s : State) : Served s (sessionEnd p cause s) := by
  have disarmed : ∀ u, Served u (disarmPort p u) := fun u =>
    .foldl (f := fun s i => s.setArm p i .idle) (fun s i => setArm_served p i _ s) allInputs u
  exact (((Served.of_work (removeWhere_keeps _ s)).trans (.of_work (releaseForSessionEnd_keeps p _))).trans
    (disarmed _)).trans (setSession_served p _ _)

theorem moveGroup_served (c : Chan) (new : Option GroupId) (s : State) : Served s (moveGroup c new s) := by
  unfold moveGroup
  dsimp only
  split
  · exact .refl s
  · split
    · split <;> rfl
    · rfl

theorem changeFeedbackMode_served (c : Chan) (was : Bool) (s : State) : Served s (changeFeedbackMode c was s) := by
  unfold changeFeedbackMode
  dsimp only
  split
  · split
    · exact .of_work (enterFault_keeps c _ s)
    · exact .refl s
  · split
    · exact .refl s
    · exact .of_work (enterFault_keeps c _ s)
  · exact (setChan_served c _ s).trans (.of_work (work_keeps _ _))
  · exact (setChan_served c _ s).trans (.of_work (work_keeps _ _))
  · exact .refl s

theorem configure_served (c : Chan) (cfg : ChanConfig) (s : State) : Served s (configure c cfg s) :=
  ((moveGroup_served c cfg.group s).trans (setChan_served c _ _)).trans (changeFeedbackMode_served c _ _)

theorem setDevice_served (d : DeviceSettings) (s : State) : Served s (setDevice d s) :=
  Served.trans (by rfl) (.of_timebase (setSelector_keeps d.mode d.offsetA d.offsetB _))

theorem admitEntry_served (p : Port) (q : ScheduleParams) (s : State) : Served s (admitEntry p q s).state := by
  unfold admitEntry
  dsimp only
  split <;> rfl

theorem act_served (p : Port) (r : Request) (s : State) : Served s (act p r s).state := by
  cases r with
  | nop => exact .refl s
  | attach keepalive subs =>
    unfold act serveAttach
    dsimp only
    split
    · exact .refl s
    · dsimp only [accept]
      split
      · exact setSession_served p _ s
      · exact (setSession_served p _ s).trans (setFront_served p _ _)
  | detach =>
    unfold act serveDetach
    dsimp only
    split
    · exact .refl s
    · exact sessionEnd_served p _ s
  | resetPort =>
    unfold act serveResetPort
    dsimp only [accept]
    split
    · exact (sessionEnd_served p _ s).trans (setFront_served p _ _)
    · exact setFront_served p _ s
  | readStatus => exact .refl s
  | clearNotices notices =>
    unfold act serveClearNotices
    dsimp only
    split
    · exact .refl s
    · exact setSession_served p _ s
  | setDevice a =>
    unfold act serveSetDevice
    dsimp only
    split
    · exact .refl s
    · split
      · exact .refl s
      · exact setDevice_served _ s
  | readDevice => exact .refl s
  | claim chans =>
    unfold act serveClaim
    dsimp only
    split
    · exact .refl s
    · split
      · exact .refl s
      · exact .of_work (claimChans_keeps p _ s)
  | release chans mode =>
    unfold act serveRelease
    dsimp only
    split
    · split
      · exact .of_work (releaseChans_keeps _ _ s)
      · exact .refl s
    · exact .refl s
  | setChannel a =>
    unfold act serveSetChannel
    dsimp only
    split
    · split
      · exact .refl s
      · exact configure_served _ _ s
    · exact .refl s
  | readChannel c =>
    unfold act serveReadChannel
    dsimp only
    split <;> exact .refl s
  | clearFault c =>
    unfold act serveClearFault
    dsimp only
    split
    · exact .refl s
    · split
      · exact .refl s
      · exact (setChan_served _ _ s).trans (.of_work (work_keeps _ _))
  | schedule a =>
    unfold act serveSchedule
    dsimp only
    split
    · exact .refl s
    · split
      · exact .refl s
      · exact admitEntry_served p _ s
  | cancel form tag channel =>
    unfold act serveCancel
    dsimp only
    split
    · exact .refl s
    · split
      · exact .refl s
      · exact ((inFreeOrder_served _ s).trans (.of_work (removeWhere_keeps _ _))).trans (.of_work (work_keeps _ _))
  | readSchedule start =>
    unfold act serveReadSchedule
    dsimp only
    split <;> exact .refl s
  | armCapture input edge count =>
    unfold act serveArmCapture
    dsimp only
    split
    · exact setArm_served p _ _ s
    · exact .refl s
  | disarmCapture input =>
    unfold act serveDisarmCapture
    dsimp only
    split
    · exact setArm_served p _ _ s
    · exact .refl s
  | takeEvents count =>
    unfold act serveTakeEvents
    dsimp only
    split <;> exact .refl s
  | ackEvents number =>
    unfold act serveAckEvents
    dsimp only
    split
    · exact .refl s
    · exact setSession_served p _ s

theorem restartKeepalive_served (p : Port) (s : State) : Served s (restartKeepalive p s) := by
  unfold restartKeepalive
  dsimp only
  split
  · exact setSession_served p _ s
  · exact .refl s

/-- What the taking of a request can do. -/
theorem replyTo_served (p : Port) (b : Received) (s : State) : Served s (replyTo p b s).state := by
  have restarted := restartKeepalive_served p s
  cases b with
  | checkError => exact .refl s
  | badRequest => exact restarted
  | good r =>
    unfold replyTo serve
    dsimp only
    split
    · exact restarted.trans (act_served p r _)
    · exact restarted

/-! ## The clock and the queue -/

/-- The part is at a count, with a queue of commands. -/
def AtCount (n : Nat) (queue : List Instr) (s : State) : Prop := s.now = n ∧ s.pending = queue

theorem Served.atCount {n : Nat} {queue : List Instr} {s t : State} (k : Served s t) (h : AtCount n queue s) :
    AtCount n queue t :=
  ⟨k.now.trans h.1, k.pending.trans h.2⟩

theorem setMonitor_test_atCount {n : Nat} {queue : List Instr} (r : RefId) (m : Monitor) {s : State}
    (h : AtCount n queue s) : AtCount n queue (testStanding (s.setMonitor r m)) :=
  (Served.of_timebase (testStanding_keeps _)).atCount ⟨by simpa using h.1, by simpa using h.2⟩

theorem feedbackChange_served (c : Chan) (closed : Bool) (s : State) : Served s (feedbackChange c closed s) := by
  have confirmed : ∀ state u, Served u (confirm c state u) := fun _ u =>
    (setChan_served c _ u).trans (.of_work (work_keeps _ _))
  have faulted : ∀ u, Served u (enterFault c .uncommanded u) := fun u => .of_work (enterFault_keeps c _ u)
  have set := setChan_served c { s.chan c with feedback := closed } s
  unfold feedbackChange
  split
  · exact .refl s
  · refine set.trans ?_
    unfold feedbackActs
    dsimp only
    split
    · split
      · exact confirmed _ _
      · exact .refl _
    · split
      · exact .refl _
      · exact confirmed _ _
    · split
      · exact faulted _
      · exact .refl _
    · split
      · exact faulted _
      · exact .refl _
    · exact .of_work (updateOccupancy_keeps c _)

theorem verifyExpiry_served (c : Chan) (s : State) : Served s (verifyExpiry c s) := by
  unfold verifyExpiry
  split
  · exact .of_work (enterFault_keeps c _ s)
  · exact .of_work (enterFault_keeps c _ s)
  · exact .refl s

theorem supplyRecord_served (low : Bool) (shed : List Chan) (s : State) : Served s (supplyRecord low shed s) := rfl

theorem supplyEntry_served (s : State) : Served s (supplyEntry s) := by
  have shedding := Served.foldl (f := fun s c => overrideWork c s) fun s c => .of_work (overrideWork_keeps c s)
  unfold supplyEntry
  dsimp only
  split
  · exact .refl s
  · refine Served.trans ?_ ((shedding _ _).trans (supplyRecord_served _ _ _))
    rfl

theorem supplyLeaving_served (s : State) : Served s (supplyLeaving s) := by
  unfold supplyLeaving
  split <;> rfl

theorem keepaliveExpiry_served (p : Port) (s : State) : Served s (keepaliveExpiry p s) := by
  unfold keepaliveExpiry
  split
  · exact sessionEnd_served p _ s
  · exact .refl s

theorem drainCompletion_served (c : Chan) (s : State) : Served s (drainCompletion c s) := by
  unfold drainCompletion
  split
  · exact .of_work (work_keeps _ s)
  · exact .refl s

theorem distributeEdge_served (i : CapInput) (d : EdgeDir) (s : State) : Served s (distributeEdge i d s) := by
  have reported : ∀ s p, Served s (reportEdge i d s p) := fun s p => by
    unfold reportEdge
    split
    · exact .refl s
    · split
      · exact (Served.of_work (handTo_keeps p _ _ s)).trans (setArm_served p i _ _)
      · exact .refl s
  have triggered : ∀ pos u, Served u (offerTrigger i d pos u) := fun pos u =>
    Served.trans (by rfl) (Served.foldl (f := fun s e => triggerEntry pos e s) (fun _ _ => rfl) _ _)
  exact (Served.foldl reported allPorts s).trans (triggered _ _)

/-- The handling of what comes at a count leaves the count and the queue. -/
theorem atCount_keptByHandling (n : Nat) (queue : List Instr) : KeptByHandling (AtCount n queue) where
  draws _ _ h := h
  inputs _ _ _ _ _ _ h := h
  ports _ _ _ _ _ _ _ _ _ h := h
  feedbackRun _ _ _ h := h
  supplyRun _ _ h := h
  work s h := (Served.of_timebase (timebaseWork_keeps s)).atCount h
  offer s h := (offerPosition_served s).atCount h
  edge t s h := (Served.of_timebase (timebaseEdge_keeps t s)).atCount h
  monitor r _ h := setMonitor_test_atCount r _ h
  silence r s h := by
    unfold silenceLimitExpiry
    split
    · exact setMonitor_test_atCount r _ h
    · exact h
  capture i d s h := (distributeEdge_served i d s).atCount h
  feedback c closed s h := (feedbackChange_served c closed s).atCount h
  verify c s h := (verifyExpiry_served c s).atCount h
  supplyLow s h := (supplyEntry_served s).atCount h
  supplyHigh s h := (supplyLeaving_served s).atCount h
  keepalive p s h := (keepaliveExpiry_served p s).atCount h
  examine c s h := (Served.of_work (work_keeps [.examine c] s)).atCount h
  drain c _ h := (drainCompletion_served c _).atCount h
  reply p b s h := (replyTo_served p b s).atCount h
  blocks _ _ _ _ _ _ h := h

theorem nextCount_atCount (s : State) : AtCount (s.now + 1) s.pending (nextCount s) :=
  ⟨nextCount_now s, nextCount_pending s⟩

/-- One count passes in a tick, and no command is taken. -/
theorem tick_atCount (s : State) : AtCount (s.now + 1) s.pending (tick s) := by
  have K := atCount_keptByHandling (s.now + 1) s.pending
  have sampled : AtCount (s.now + 1) s.pending (sampleReset { s with now := s.now + 1 }) := ⟨rfl, rfl⟩
  unfold tick runningCount resetCount
  dsimp only
  split
  · split
    · exact K.resetPinLow (nextCount_atCount s)
    · split
      · exact K.handleWithAdvance (nextCount_atCount s)
      · exact K.handleAll (nextCount_atCount s)
  · split
    · exact K.releaseReset sampled
    · exact sampled

end Sys2Proof.Machine
end

section
/-! O2: an idle step is one count. What comes at the count, said without the model's functions; and one thing that comes
alone is what its command is. -/

namespace Sys2Proof.Machine

/-! ## Samples -/

theorem sample_eq {full : Nat} (h : 1 ≤ full) (level : Bool) (r : SampleRun) :
    sample full level r =
      if r.level = level then { level := level, count := min (r.count + 1) full }
      else { level := level, count := 1 } := by
  unfold sample
  split
  · next e => rw [e]
  · rw [Nat.min_eq_left h]

theorem sample_level (full : Nat) (level : Bool) (r : SampleRun) : (sample full level r).level = level := by
  unfold sample
  split
  · assumption
  · rfl

/-- R141: the present count lies in the hold-off. -/
theorem clearOfHoldOff_one (now : Nat) (f : CapFilter) :
    clearOfHoldOff 1 now f = 0 ↔ (f.holdOff.any fun last => decide (now ≤ last)) = true := by
  unfold clearOfHoldOff
  cases f.holdOff with
  | none => simp
  | some last => simp only [Option.any_some, decide_eq_true_iff]; omega

/-! ## What comes -/

theorem mem_allDue (d : Due) : d ∈ allDue := by
  cases d with
  | refLevel r high => cases r <;> cases high <;> simp [allDue]
  | supplyLevel high => cases high <;> simp [allDue]
  | silence r => cases r <;> simp [allDue]
  | capLevel i high => cases high <;> simp [allDue, mem_allInputs]
  | fbkLevel c closed => cases closed <;> simp [allDue, mem_allChans]
  | verify c => simp [allDue, mem_allChans]
  | keepalive p => simp [allDue, mem_allPorts]
  | compose p => simp [allDue, mem_allPorts]
  | byteGap => simp [allDue]
  | quiet => simp [allDue]
  | sent => simp [allDue]

theorem mem_dueNow {s : State} {d : Due} : d ∈ dueNow s ↔ isDue s d = true := by
  simp [dueNow, mem_allDue]

theorem sentBits_length (bytes : List Byte) : (sentBits bytes).length = 11 * bytes.length := by
  induction bytes with
  | nil => rfl
  | cons b bytes ih =>
    unfold sentBits at ih ⊢
    rw [List.flatMap_cons, List.length_append, ih, List.length_cons]
    simp only [serialBits, List.length_cons, List.length_nil]
    omega

theorem timerOut_eq (now : Nat) (deadline : Option Nat) :
    timerOut now deadline = deadline.any fun n => decide (n ≤ now) := by
  cases deadline <;> rfl

theorem silenceOut_eq (now : Nat) (m : Monitor) :
    silenceOut now m = m.lastEdge.any fun t0 => decide (t0 + silenceLimit m ≤ now) := by
  unfold silenceOut
  cases m.lastEdge <;> rfl

theorem isDue_byteGap (s : State) :
    isDue s .byteGap = match s.receiver with
      | .receiving _ n => s.pins.rxd && decide (8000 < s.now - n)
      | _ => false := by
  have gap : ∀ n, n + 8000 < s.now ↔ 8000 < s.now - n := fun n => by omega
  unfold isDue
  cases s.receiver <;> simp only [gap]

theorem isDue_quiet (s : State) :
    isDue s .quiet = match s.receiver with
      | .discarding n => decide (8000 < s.now - n)
      | _ => false := by
  have gap : ∀ n, n + 8000 < s.now ↔ 8000 < s.now - n := fun n => by omega
  unfold isDue
  cases s.receiver <;> simp only [gap]

theorem isDue_sent (s : State) :
    isDue s .sent =
      s.sending.any fun x =>
        decide (11 * x.bytes.length ≤ (s.now - x.since) * hp0BitRate s.straps / 4000000) := by
  have sent : allSent s = fun x =>
      decide (11 * x.bytes.length ≤ (s.now - x.since) * hp0BitRate s.straps / 4000000) :=
    funext fun x => by rw [allSent, bitsPassed, sentBits_length]
  rw [isDue, sent]

theorem nextCount_straps (s : State) : (nextCount s).straps = s.straps := by rw [nextCount_sampled s]

/-! ## One level without an edge -/

/-- A level that has been qualified without an edge is no longer due, and nothing else has become due. -/
theorem dueNow_of_qualified {s t : State} {d : Due} (alone : dueNow s = [d]) (own : isDue t d = false)
    (others : ∀ d', d' ≠ d → isDue t d' = true → isDue s d' = true) : dueNow t = [] := by
  refine List.filter_eq_nil_iff.mpr fun d' _ due => ?_
  by_cases e : d' = d
  · rw [e, own] at due
    cases due
  · have mem := mem_dueNow.mpr (others d' e due)
    rw [alone] at mem
    exact e (List.mem_singleton.mp mem)

theorem refQualified_quiet {r : RefId} {high : Bool} {s : State} (quiet : withoutEdge s (.refLevel r high) = true) :
    refQualified id r high s = s.setRefFilter r { s.refFilter r with level := some high } := by
  unfold refQualified
  dsimp only
  rw [if_neg fun ⟨up, low⟩ => by simp [withoutEdge, up, low] at quiet]
  rfl

theorem capQualified_first {i : CapInput} {high : Bool} {s : State} (first : (s.capFilter i).level = none) :
    capQualified i high s = s.setCapFilter i { s.capFilter i with level := some high } := by
  unfold capQualified
  rw [first]

theorem State.setRefFilter_refFilter_ne (s : State) {r r' : RefId} (f : RefFilter) (other : r' ≠ r) :
    (s.setRefFilter r f).refFilter r' = s.refFilter r' :=
  match r, r', other with
  | .a, .b, _ => rfl
  | .b, .a, _ => rfl
  | .a, .a, h => absurd rfl h
  | .b, .b, h => absurd rfl h

/-- After a level of a reference without an edge nothing is left to come. -/
theorem dueNow_refLevel {r : RefId} {high : Bool} {s : State} (alone : dueNow s = [.refLevel r high]) :
    dueNow (s.setRefFilter r { s.refFilter r with level := some high }) = [] := by
  have due := isDue_of_mem (alone ▸ List.mem_singleton_self _)
  simp only [isDue, runFull, Bool.and_eq_true, decide_eq_true_iff] at due
  refine dueNow_of_qualified alone (by simp [isDue]) fun d' other due' => ?_
  cases d' with
  | refLevel r' high' =>
    by_cases same : r' = r
    · subst same
      have flip : high' ≠ high := fun e => other (by rw [e])
      simp [isDue, runFull, due.1, fullRun, Ne.symm flip] at due'
    · simpa [isDue, State.setRefFilter_refFilter_ne _ _ same] using due'
  | _ => cases r <;> exact due'

/-- After the first level of a capture input nothing is left to come. -/
theorem dueNow_capLevel {i : CapInput} {high : Bool} {s : State} (alone : dueNow s = [.capLevel i high]) :
    dueNow (s.setCapFilter i { s.capFilter i with level := some high }) = [] := by
  have due := isDue_of_mem (alone ▸ List.mem_singleton_self _)
  simp only [isDue, runFull, Bool.and_eq_true, decide_eq_true_iff] at due
  refine dueNow_of_qualified alone (by simp [isDue]) fun d' other due' => ?_
  cases d' with
  | capLevel j high' =>
    by_cases same : i = j
    · subst same
      have flip : high' ≠ high := fun e => other (by rw [e])
      simp [isDue, runFull, due.1, fullRun, Ne.symm flip] at due'
    · simpa [isDue, State.setCapFilter_capFilter_ne _ _ same] using due'
  | _ => exact due'

/-- One thing comes alone at a count without an advance: it is handled. -/
theorem handleAll_one {s : State} {d : Due} (alone : dueNow s = [d]) : handleAll s = handle d s := by
  by_cases quiet : withoutEdge s d = true
  · have due := isDue_of_mem (alone ▸ List.mem_singleton_self d)
    have qualified : qualifyLevels s = handle d s := by
      unfold qualifyLevels
      rw [alone, List.filter_cons_of_pos quiet]
      exact handleDue_due due
    have rest : dueNow (handle d s) = [] := by
      cases d with
      | refLevel r high =>
        rw [handle, refQualified_quiet quiet]
        exact dueNow_refLevel alone
      | capLevel i high =>
        rw [handle, capQualified_first (Option.isNone_iff_eq_none.mp quiet)]
        exact dueNow_capLevel alone
      | _ => cases quiet
    unfold handleAll
    dsimp only
    rw [qualified, rest]
    rfl
  · exact handleAll_alone alone (Bool.not_eq_true _ ▸ quiet)

/-! ## A thing that comes alone is what its command is -/

theorem putBit_self {n : Nat} {x : BitVec n} {i : Nat} {b : Bool} (h : x.getLsbD i = b) : putBit x i b = x := by
  have mask : ∀ j, (BitVec.ofNat n (2 ^ i)).getLsbD j = (decide (j < n) && decide (i = j)) := fun j => by
    simp only [BitVec.getLsbD_ofNat, Nat.testBit_two_pow]
  unfold putBit
  generalize BitVec.ofNat n (2 ^ i) = m at mask
  apply BitVec.eq_of_getLsbD_eq
  intro j _
  by_cases e : i = j
  · subst e
    cases b <;> simp [h]
  · cases b with
    | true => simp [mask, e]
    | false => simpa [mask, e] using BitVec.lt_of_getLsbD

/-- A pin that shows its level, with the run of its filter full, is left as it is. -/
theorem showRef_self {r : RefId} {high : Bool} {s : State} (pin : refLevel s r = high)
    (full : (s.refFilter r).run = fullRun edgeSamples high) : showRef r high edgeSamples s = s := by
  unfold showRef
  rw [shownFor_full, ← full, ← pin]
  cases r <;> rfl

theorem State.setCapFilter_self (s : State) (i : CapInput) : s.setCapFilter i (s.capFilter i) = s := by
  simp [State.setCapFilter, State.capFilter, Vector.get_eq_getElem]

theorem State.setChan_self (s : State) (c : Chan) : s.setChan c (s.chan c) = s := by
  simp [State.setChan, State.chan, Vector.get_eq_getElem]

theorem showCap_self {i : CapInput} {high : Bool} {s : State} (pin : s.pins.cap.getLsbD i.val = high)
    (full : (s.capFilter i).run = fullRun edgeSamples high)
    (clear : clearOfHoldOff edgeSamples s.now (s.capFilter i) = edgeSamples) : showCap i high edgeSamples s = s := by
  unfold showCap
  dsimp only
  rw [clear, shownFor_full, ← full, putBit_self pin]
  exact State.setCapFilter_self s i

theorem showFbk_self {c : Chan} {closed : Bool} {s : State} (pin : s.pins.fbk.getLsbD c.val = closed)
    (full : (s.chan c).fbkRun = fullRun feedbackSamples closed) : showFbk c closed feedbackSamples s = s := by
  unfold showFbk
  rw [shownFor_full, ← full, putBit_self pin]
  exact State.setChan_self s c

theorem showSupply_self {high : Bool} {s : State} (pin : s.pins.suplowN = high)
    (full : s.supply.run = fullRun supplySamples high) : showSupply high supplySamples s = s := by
  unfold showSupply
  rw [shownFor_full, ← full, ← pin]

/-- Every input's run ends at the level of its pin. -/
structure PinsSampled (s : State) : Prop where
  ref : ∀ r, (s.refFilter r).run.level = refLevel s r
  cap : ∀ i, (s.capFilter i).run = SampleRun.none ∨ (s.capFilter i).run.level = s.pins.cap.getLsbD i.val
  fbk : ∀ c, (s.chan c).fbkRun.level = s.pins.fbk.getLsbD c.val
  supply : s.supply.run.level = s.pins.suplowN
  reset : s.resetRun.level = s.pins.resetN

theorem nextCount_pinsSampled (s : State) : PinsSampled (nextCount s) where
  ref r := by
    cases r with
    | a =>
      show (nextCount s).filterA.run.level = (nextCount s).pins.refA
      rw [nextCount_filterA, nextCount_pins]
      exact sample_level _ _ _
    | b =>
      show (nextCount s).filterB.run.level = (nextCount s).pins.refB
      rw [nextCount_filterB, nextCount_pins]
      exact sample_level _ _ _
  cap i := by
    rw [nextCount_capFilter, nextCount_pins]
    dsimp only
    split
    · exact .inl rfl
    · exact .inr (sample_level _ _ _)
  fbk c := by
    rw [nextCount_chan, nextCount_pins]
    exact sample_level _ _ _
  supply := by
    rw [nextCount_supply, nextCount_pins]
    exact sample_level _ _ _
  reset := by
    rw [nextCount_resetRun, nextCount_pins]
    exact sample_level _ _ _

theorem runFull_eq {full : Nat} {level : Bool} {r : SampleRun} (h : runFull full level r = true) :
    r = fullRun full level :=
  of_decide_eq_true h

/-- The command of a thing that has come does what its handling does. -/
theorem exec_dueCommand {s : State} {d : Due} (running : s.power = .running) (sampled : PinsSampled s)
    (due : isDue s d = true)
    (clear : ∀ i high, d = .capLevel i high → clearOfHoldOff edgeSamples s.now (s.capFilter i) = edgeSamples) :
    exec (dueCommand s d) s = .next (handle d s) := by
  have handled := handleDue_due due
  cases d with
  | refLevel r high =>
    have full := runFull_eq (Bool.and_eq_true_iff.mp due).1
    have shown : showRef r high edgeSamples s = s := showRef_self (by rw [← sampled.ref, full]; rfl) full
    unfold dueCommand
    dsimp only
    split
    · next rising =>
      obtain ⟨rfl, -⟩ := rising
      simp only [exec, execReferenceEdge, State.whileRunning_running running, levelAfterCounts_zero _ _ _ running, shown,
        handled]
    · next quiet =>
      simp only [exec, execReferenceLevelQualified, State.whileRunning_running running, quietRefLevel, if_neg quiet,
        shown, handled]
  | capLevel i high =>
    have full := runFull_eq (Bool.and_eq_true_iff.mp due).1
    have pin : s.pins.cap.getLsbD i.val = high := by
      rcases sampled.cap i with none | level
      · rw [full] at none; cases none
      · rw [← level, full]; rfl
    have shown : showCap i high edgeSamples s = s := showCap_self pin full (clear i high rfl)
    unfold dueCommand
    dsimp only
    split
    · next first =>
      simp only [exec, execCaptureFirstQualification, State.whileRunning_running running, firstCapLevel, first, shown,
        handled]
    · have direction : levelAfter (directionOf high) = high := by cases high <;> rfl
      simp only [exec, execCaptureEdge, State.whileRunning_running running, direction,
        levelAfterCounts_zero _ _ _ running, shown, handled]
  | fbkLevel c closed =>
    have full := runFull_eq (Bool.and_eq_true_iff.mp due).1
    have shown : showFbk c closed feedbackSamples s = s := showFbk_self (by rw [← sampled.fbk, full]; rfl) full
    simp only [dueCommand, exec, execFeedbackChange, State.whileRunning_running running,
      levelAfterCounts_zero _ _ _ running, shown, handled]
  | supplyLevel high =>
    have full := runFull_eq (Bool.and_eq_true_iff.mp due).1
    have shown : showSupply high supplySamples s = s := showSupply_self (by rw [← sampled.supply, full]; rfl) full
    cases high with
    | true =>
      simp only [dueCommand, if_true, exec, execSupplyLeavingLow, State.whileRunning_running running, shown, handle]
    | false =>
      simp only [dueCommand, Bool.false_eq_true, if_false, exec, execSupplyEntryToLow,
        State.whileRunning_running running, shown, handle]
  | silence r => exact congrArg Host.Outcome.next (State.whileRunning_running running _)
  | verify c => exact congrArg Host.Outcome.next (State.whileRunning_running running _)
  | keepalive p => exact congrArg Host.Outcome.next (State.whileRunning_running running _)
  | byteGap => exact congrArg Host.Outcome.next (State.whileRunning_running running _)
  | quiet => exact congrArg Host.Outcome.next (State.whileRunning_running running _)
  | compose p => exact congrArg Host.Outcome.next (State.whileRunning_running running _)
  | sent => exact congrArg Host.Outcome.next (State.whileRunning_running running _)

/-! ## O2 -/

/-- One count of a part held in reset (R188). -/
theorem tick_inReset {s : State} {hold : Bool} (held : s.power = .inReset hold) :
    let u : State := { s with now := s.now + 1, resetRun := sample resetSamples s.pins.resetN s.resetRun }
    Host.Outcome.next (tick s) =
      if hold = false ∧ u.resetRun.level = true ∧ 8 ≤ u.resetRun.count then
        exec (.resetRelease s.pins.straps s.pins.fbk s.pins.suplowN) u
      else .next u := by
  intro u
  have counted : tick s = resetCount hold s := by unfold tick; rw [held]
  rw [counted]
  unfold resetCount
  dsimp only
  split
  · next released =>
    have high : s.pins.resetN = true := (sample_level _ _ _).symm.trans released.2.1
    refine Eq.trans ?_ (if_pos released).symm
    refine congrArg Host.Outcome.next (Eq.symm ?_)
    have inReset : u.power ≠ .running := by simp [u, held]
    rw [releaseResetAt_reset _ _ _ inReset]
    refine congrArg (fun pins => releaseReset { u with pins := pins }) (?_ : _ = s.pins)
    rw [← high]
  · next kept => exact (if_neg kept).symm

/-- Settles O2: a step on an empty queue is `tick`, whose count and whose handling the lemmas above say. -/
theorem idleStepIsOneCount : Obligations.IdleStepIsOneCount := by
  unfold Obligations.IdleStepIsOneCount
  intro s idle run now
  have stepped : step s = .next (tick s) := step_of_idle idle
  have runs : ∀ full, 1 ≤ full → ∀ level r, run full level r = sample full level r := fun full h level r =>
    (sample_eq h level r).symm
  refine ⟨⟨_, stepped, (tick_atCount s).1, (tick_atCount s).2.trans idle⟩, fun running => ?_, fun hold held => ?_⟩
  · intro u l heldOff alone
    have runningU : u.power = .running := (nextCount_power s).trans running
    have counted : step s = .next (runningCount s) := stepped.trans (congrArg _ (tick_running running))
    have resets : resetLow u = true ↔ u.resetRun = { level := false, count := 40 } := decide_eq_true_iff
    have goesOn : alone → resetLow u = false ∧ advances l = false := fun h =>
      ⟨Bool.eq_false_iff.mpr fun low => h.1 (resets.mp low), h.2⟩
    refine ⟨?_, ?_, ?_, ?_, fun i => ?_, fun c => ?_, ?_, ?_, ?_, fun p => ?_, fun d => ?_, fun low => ?_,
      fun h none => ?_, fun d h one clear => ?_⟩
    · obtain ⟨_, _, _, fields, -⟩ := nextCount_fields s
      simp only [u, now]
      rw [fields]
    · refine (nextCount_ltb s).trans ?_
      unfold countLtb advances
      split
      · rfl
      · next moving => simp only [moving, ne_eq, not_false_eq_true, true_and, decide_eq_true_eq, l]
    · rw [runs 8 (by decide)]; exact nextCount_filterA s
    · rw [runs 8 (by decide)]; exact nextCount_filterB s
    · simp only [runs 8 (by decide), heldOff, now, ← clearOfHoldOff_one]
      exact nextCount_capFilter s i
    · rw [runs 4000 (by decide)]; exact nextCount_chan s c
    · rw [runs 400 (by decide)]; exact nextCount_supply s
    · rw [runs 40 (by decide)]; exact nextCount_resetRun s
    · refine (nextCount_receiver s).trans ?_
      cases s.receiver <;> rfl
    · refine (nextCount_front s p).trans ?_
      unfold closedFront
      cases (s.front p).buffer <;> rfl
    · rw [mem_dueNow]
      cases d with
      | refLevel r high => rw [isDue, runFull, ← Bool.decide_and]; rfl
      | capLevel i high => rw [isDue, runFull, ← Bool.decide_and]; rfl
      | fbkLevel c closed => rw [isDue, runFull, ← Bool.decide_and]; rfl
      | supplyLevel high => rw [isDue, runFull, ← Bool.decide_and]; rfl
      | silence r => rw [isDue, silenceOut_eq, nextCount_now]; rfl
      | verify c => rw [isDue, timerOut_eq, nextCount_now]
      | keepalive p => rw [isDue, timerOut_eq, nextCount_now]
      | byteGap => rw [isDue_byteGap, nextCount_pins, nextCount_now] <;> rfl
      | quiet => rw [isDue_quiet, nextCount_now] <;> rfl
      | compose p => rw [isDue, nextCount_now] <;> rfl
      | sent => rw [isDue_sent, nextCount_now, nextCount_straps]
    · rw [counted, runningCount_reset (resets.mpr low)]
      rfl
    · obtain ⟨noReset, noAdvance⟩ := goesOn h
      rw [counted, runningCount_step noReset noAdvance, handleAll_quiet none]
    · obtain ⟨noReset, noAdvance⟩ := goesOn h
      have due : isDue u d = true := isDue_of_mem (one ▸ List.mem_singleton_self d)
      rw [counted, runningCount_step noReset noAdvance, handleAll_one one]
      refine (exec_dueCommand runningU (nextCount_pinsSampled s) due fun i high e => ?_).symm
      rw [nextCount_now]
      exact clear i high e
  · rw [runs 40 (by decide), stepped]
    exact tick_inReset held

end Sys2Proof.Machine
end

section
/-! What the timebase's operations make of the selector and of each port's session, said once; and O24, the change of
selection that leaves LOCKED. -/

namespace Sys2Proof.Machine

/-! ## Records and notices of the timebase -/

/-- R131: the session record of a port to which a TIMEBASE record has been handed. -/
def told (pos : Pos) (body : EventBody) (r : Session) : Session :=
  if (r.attached && r.subs.timebase) = true then placeIn pos body r else r

/-- R20: the session record of a port with TIMEBASE_LEFT_LOCK set. -/
def noticedLeft (r : Session) : Session := { r with notices := { r.notices with leftLock := true } }

/-- R30: the session record of a port with REFERENCE_SWITCHED set. -/
def noticedSwitch (r : Session) : Session := { r with notices := { r.notices with refSwitched := true } }

theorem told_placed (pos : Pos) (body : EventBody) (r : Session) : Placed r (told pos body r) := by
  unfold told
  split
  · next h => exact .place (.refl r) pos body (Bool.and_eq_true_iff.mp h).1
  · exact .refl r

@[simp] theorem timebaseRecord_sel (new old : LockState) (cause : TimebaseCause) (s : State) :
    (timebaseRecord new old cause s).sel = s.sel := by
  simp [timebaseRecord, State.handToTimebase]

theorem timebaseRecord_session (new old : LockState) (cause : TimebaseCause) (s : State) (q : Port) :
    (timebaseRecord new old cause s).session q =
      told s.ltb.pos (.timebase new old cause s.sel.selected s.ltb.period) (s.session q) := by
  unfold timebaseRecord State.handToTimebase told
  rw [State.handToEach_session]

@[simp] theorem changeLock_sel (new : LockState) (cause : TimebaseCause) (s : State) :
    (changeLock new cause s).sel = s.sel := by
  unfold changeLock
  dsimp only
  split <;> simp

/-- R19, R20: a change of lock state out of LOCKED. -/
theorem changeLock_session_locked (new : LockState) (cause : TimebaseCause) {s : State} (locked : s.ltb.lock = .locked)
    (q : Port) :
    (changeLock new cause s).session q =
      noticedLeft (told s.ltb.pos (.timebase new .locked cause s.sel.selected s.ltb.period) (s.session q)) := by
  unfold changeLock
  dsimp only
  rw [if_pos locked, locked, State.setNotice_session, timebaseRecord_session]
  rfl

/-- R19: a change of lock state out of another. -/
theorem changeLock_session_other (new : LockState) (cause : TimebaseCause) {s : State} (other : s.ltb.lock ≠ .locked)
    (q : Port) :
    (changeLock new cause s).session q =
      told s.ltb.pos (.timebase new s.ltb.lock cause s.sel.selected s.ltb.period) (s.session q) := by
  unfold changeLock
  dsimp only
  rw [if_neg other, timebaseRecord_session]
  rfl

@[simp] theorem enterHoldover_sel (cause : TimebaseCause) (s : State) : (enterHoldover cause s).sel = s.sel :=
  changeLock_sel _ _ _

theorem enterHoldover_session (cause : TimebaseCause) {s : State} (locked : s.ltb.lock = .locked) (q : Port) :
    (enterHoldover cause s).session q =
      noticedLeft (told s.ltb.pos (.timebase .holdover .locked cause s.sel.selected s.ltb.period) (s.session q)) :=
  changeLock_session_locked _ _ (s := { s with ltb := { s.ltb with holdCount := 0, relockCount := 0 } }) locked q

/-! ## The selector -/

/-- Outside AUTO the standing condition is never met. -/
theorem testStanding_fixed {s : State} (fixed : s.sel.mode ≠ .auto) : testStanding s = s := by
  unfold testStanding standingCondition
  simp [fixed]

/-- In LOCKED the standing condition is never met. -/
theorem testStanding_locked {s : State} (locked : s.ltb.lock = .locked) : testStanding s = s := by
  unfold testStanding standingCondition
  simp [locked]

/-- R29: the state of an AUTO switch, but for its record and its notice. -/
def switched (s : State) : State :=
  { s with
    ltb := switchedLtb s.ltb
    sel :=
      { s.sel with
        selected := otherRef s.sel.selected, working := storedOffset s.sel (otherRef s.sel.selected) } }

theorem loadOffset_select (s : State) (r : RefId) :
    loadOffset { s with sel := { s.sel with selected := r } } =
      { s with sel := { s.sel with selected := r, working := storedOffset s.sel r } } := by
  cases r <;> rfl

theorem autoSwitch_eq (s : State) :
    autoSwitch s =
      (timebaseRecord s.ltb.lock s.ltb.lock .switched (switched s)).setNotice
        fun n => { n with refSwitched := true } := by
  unfold autoSwitch switched switchedLtb
  rw [loadOffset_select]
  cases lock : s.ltb.lock <;> simp only [lock, clearWindow, restartAcquisition]

theorem autoSwitch_sel (s : State) :
    (autoSwitch s).sel =
      { s.sel with
        selected := otherRef s.sel.selected, working := storedOffset s.sel (otherRef s.sel.selected) } := by
  rw [autoSwitch_eq, State.setNotice_sel, timebaseRecord_sel]
  rfl

/-- R30: the record and the notice of an AUTO switch. -/
theorem autoSwitch_session (s : State) (q : Port) :
    (autoSwitch s).session q =
      noticedSwitch (told s.ltb.pos
        (.timebase s.ltb.lock s.ltb.lock .switched (otherRef s.sel.selected) s.ltb.period) (s.session q)) := by
  have kept : (switchedLtb s.ltb).pos = s.ltb.pos ∧ (switchedLtb s.ltb).period = s.ltb.period := by
    unfold switchedLtb
    split <;> exact ⟨rfl, rfl⟩
  rw [autoSwitch_eq, State.setNotice_session, timebaseRecord_session]
  unfold switched
  dsimp only
  rw [kept.1, kept.2]
  rfl

/-! ## The taking of a request -/

theorem restartKeepalive_session (p : Port) (s : State) (q : Port) :
    (restartKeepalive p s).session q = if q = p then restarted s.now (s.session q) else s.session q := by
  unfold restartKeepalive restarted
  dsimp only
  by_cases same : q = p
  · subst same
    by_cases attached : (s.session q).attached = true
    · rw [if_pos attached, if_pos rfl, if_pos attached, State.setSession_session_same]
      rfl
    · rw [if_neg attached, if_pos rfl, if_neg attached]
  · rw [if_neg same]
    split
    · exact State.setSession_session_ne _ _ (Ne.symm same)
    · rfl

/-- R122: a restart changes sessions alone. -/
theorem restartKeepalive_frame (p : Port) (s : State) :
    restartKeepalive p s = { s with sessions := (restartKeepalive p s).sessions } := by
  unfold restartKeepalive
  dsimp only
  split <;> rfl

/-- R152, R155: a request of an ATTACHED port that is taken at once is answered by its owning block. -/
theorem exec_request {p : Port} {seq : Byte} {r : Request} {s : State} (can : CanAct p s) :
    sendRequest p seq r s =
      setPending p (responseOf seq (act p r (restartKeepalive p s))) (act p r (restartKeepalive p s)).state := by
  obtain ⟨⟨running, takes⟩, attached⟩ := can
  have idle : ∀ r n, (s.front p).buffer ≠ .pending r n := fun r n e => by
    rw [e] at takes
    cases takes
  have stays : ((restartKeepalive p s).session p).attached = true := by
    rw [restartKeepalive_session, if_pos rfl, restarted, if_pos attached]
    exact attached
  have replied : replyTo p (.good r) s = act p r (restartKeepalive p s) := by
    unfold replyTo serve
    dsimp only
    rw [stays]
    rfl
  unfold sendRequest
  rw [State.whileRunning_running running, submit_taken idle (by simp), replied]

/-! ## O24 -/

/-- R163, R164: a SET DEVICE with good settings, all claims being the port's own. -/
theorem serveSetDevice_state {p : Port} {a : SetDeviceArgs} {d : DeviceSettings} {s : State} (good : deviceOf a = some d)
    (own : ∀ c q, ownerOf (s.chan c).claim = some q → q = p) : (serveSetDevice p a s).state = setDevice d s := by
  have unshared : sharedInUse p s = false := by
    refine List.any_eq_false.mpr fun c _ => ?_
    cases owner : ownerOf (s.chan c).claim with
    | none => simp
    | some q => simp [State.holds, owner, own c q owner]
  unfold serveSetDevice
  rw [good]
  dsimp only
  rw [unshared]
  rfl

/-- R31: the reference that a fixed mode selects. -/
theorem selectionOf_change {mode : RefMode} {selected : RefId}
    (change : mode = .fixedA ∧ selected = .b ∨ mode = .fixedB ∧ selected = .a) :
    mode ≠ .auto ∧ selectionOf mode selected = otherRef selected ∧ otherRef selected ≠ selected := by
  rcases change with ⟨rfl, rfl⟩ | ⟨rfl, rfl⟩ <;> decide

/-- R32: a change of the selection in LOCKED. -/
theorem changeSelection_locked (r : RefId) {s : State} (locked : s.ltb.lock = .locked) :
    changeSelection r s =
      enterHoldover .selection
        { s with
          ltb := { s.ltb with accepted := false, rejected := 0, baseValid := false, missCount := 0 }
          sel := { s.sel with selected := r, working := storedOffset s.sel r } } := by
  unfold changeSelection
  rw [loadOffset_select]
  simp only [clearWindow, locked]

/-- R31, R32: a fixed mode that changes the selection in LOCKED. -/
theorem setSelector_leaves {mode : RefMode} (oa ob : LineStep) {s : State} (locked : s.ltb.lock = .locked)
    (change : mode = .fixedA ∧ s.sel.selected = .b ∨ mode = .fixedB ∧ s.sel.selected = .a) :
    setSelector mode oa ob s =
      enterHoldover .selection
        { s with
          ltb := { s.ltb with accepted := false, rejected := 0, baseValid := false, missCount := 0 }
          sel :=
            { mode := mode, offsetA := oa, offsetB := ob, selected := otherRef s.sel.selected
              working := if mode = .fixedA then oa else ob } } := by
  obtain ⟨fixed, selection, differs⟩ := selectionOf_change change
  have offset : ∀ v : Selector, storedOffset { v with mode := mode, offsetA := oa, offsetB := ob }
      (otherRef s.sel.selected) = if mode = .fixedA then oa else ob := fun v => by
    rcases change with ⟨rfl, e⟩ | ⟨rfl, e⟩ <;> rw [e] <;> rfl
  unfold setSelector
  dsimp only
  rw [if_neg fun h => fixed h.1, selection, if_pos differs]
  refine (changeSelection_locked (otherRef s.sel.selected) (by exact locked)).trans ?_
  dsimp only
  rw [offset s.sel]

/-- R165: the settings written, but for the selector's. -/
def settingsWritten (d : DeviceSettings) (s : State) : State :=
  setGap 3 d.gap4 (setGap 2 d.gap3 (setGap 1 d.gap2 (setGap 0 d.gap1
    { s with ltb := { s.ltb with limit := d.limit }, supply := { s.supply with shed := d.shed } })))

theorem setDevice_eq (d : DeviceSettings) (s : State) :
    setDevice d s = setSelector d.mode d.offsetA d.offsetB (settingsWritten d s) := rfl

theorem settingsWritten_ltb (d : DeviceSettings) (s : State) :
    (settingsWritten d s).ltb = { s.ltb with limit := d.limit } := by
  simp only [settingsWritten, setGap, State.setGroup_ltb]

theorem settingsWritten_sel (d : DeviceSettings) (s : State) : (settingsWritten d s).sel = s.sel := by
  simp only [settingsWritten, setGap, State.setGroup_sel]

theorem settingsWritten_session (d : DeviceSettings) (s : State) (q : Port) :
    (settingsWritten d s).session q = s.session q := by
  simp only [settingsWritten, setGap, State.setGroup_session]
  rfl

/-- Settles O24: the settings, with the entry to HOLDOVER that they lead to. -/
theorem setDeviceLeavesLock : Obligations.SetDeviceLeavesLock := by
  unfold Obligations.SetDeviceLeavesLock
  intro p seq a d s can good own locked change
  refine ⟨_, congrArg Host.Outcome.next (exec_request can), ?_⟩
  have frame := restartKeepalive_frame p s
  have restart := restartKeepalive_session p s
  generalize restartKeepalive p s = u at frame restart ⊢
  have chans : u.chans = s.chans := by rw [frame]
  have served : (act p (.setDevice a) u).state = setDevice d u :=
    serveSetDevice_state good fun c q => by unfold State.chan; rw [chans]; exact own c q
  have ltb : (settingsWritten d u).ltb = { s.ltb with limit := d.limit } := by rw [settingsWritten_ltb, frame]
  have sel : (settingsWritten d u).sel = s.sel := by rw [settingsWritten_sel, frame]
  have session : ∀ q, (settingsWritten d u).session q = if q = p then restarted s.now (s.session q) else s.session q :=
    fun q => (settingsWritten_session d u q).trans (restart q)
  rw [served, setDevice_eq]
  generalize settingsWritten d u = v at ltb sel session ⊢
  have lockedV : v.ltb.lock = .locked := by rw [ltb]; exact locked
  rw [setSelector_leaves d.offsetA d.offsetB lockedV (by rw [sel]; exact change)]
  dsimp only
  refine ⟨(enterHoldover_ltb _ _).trans ?_, (enterHoldover_sel _ _).trans ?_, fun q => ?_⟩
  · rw [ltb]
  · rw [sel]
  · refine (enterHoldover_session _ (by exact lockedV) q).trans ?_
    show noticedLeft (told v.ltb.pos (.timebase _ _ _ (otherRef v.sel.selected) v.ltb.period) (v.session q)) = _
    rw [session, ltb, sel]
    rfl

end Sys2Proof.Machine
end

section
/-! O35: the next advance. The counts before it, its own count, and the places of a capture edge at it. -/

namespace Sys2Proof.Machine

/-! ## The command ADVANCE -/

/-- R1, R2: the next advance comes: all that comes at its count is handled. -/
theorem exec_advance_comes {s : State} (comes : AdvanceComes s) :
    exec .advance s = .next (handleWithAdvance (advanceCount s)) := by
  obtain ⟨running, moving, runningV, advancing, noReset⟩ := comes
  show Host.Outcome.next (s.whileRunning advanceNow) = _
  rw [State.whileRunning_running running, advanceNow_eq moving, tick_running runningV]
  exact congrArg Host.Outcome.next (runningCount_advance noReset advancing)

/-- R2: the next advance comes alone: the timebase's own work, then the offer of the position. -/
theorem exec_advance_alone {s : State} (alone : AdvanceAlone s) :
    exec .advance s = .next (offerPosition (timebaseWork (advanceCount s))) := by
  rw [exec_advance_comes alone.1, handleWithAdvance_alone alone.2]

theorem exec_advance_stopped {s : State} (running : s.power = .running) (stopped : s.ltb.lock = .stopped) :
    exec .advance s = .next s := by
  show Host.Outcome.next (s.whileRunning advanceNow) = _
  rw [State.whileRunning_running running]
  unfold advanceNow
  rw [stopped]

/-- R2: neither the evaluation point nor a cycle boundary. -/
theorem timebaseWork_between {s : State} (point : stepOf s.ltb.pos ≠ s.sel.working + 32)
    (boundary : stepOf s.ltb.pos ≠ 0) : timebaseWork s = s := by
  unfold timebaseWork evaluationPoint
  dsimp only
  rw [if_neg point, if_neg boundary]

/-! ## The counts before an advance -/

theorem sampled_chan_nextCount {s t : State} (h : ∀ c, t.chan c = { s.chan c with fbkRun := (t.chan c).fbkRun })
    (c : Chan) : (nextCount t).chan c = { s.chan c with fbkRun := ((nextCount t).chan c).fbkRun } := by
  rw [nextCount_chan, h c]

/-- R1: what `k` counts make of a part at which nothing else comes. -/
structure QuietlyCounted (k : Nat) (s t : State) : Prop where
  sampled : Sampled s t
  now : t.now = s.now + k
  ltb : t.ltb = { s.ltb with acc := s.ltb.acc + 1024 * k }
  chan : ∀ c, t.chan c = { s.chan c with fbkRun := (t.chan c).fbkRun }

theorem countLtb_gains {l : Ltb} (moving : l.lock ≠ .stopped) (short : advances l = false) :
    countLtb l = { l with acc := l.acc + 1024 } := by
  unfold countLtb
  rw [if_neg moving, short]
  rfl

theorem countLtb_advances {l : Ltb} (moving : l.lock ≠ .stopped) (enough : l.period ≤ l.acc + 1024) :
    countLtb l = { l with acc := l.acc + 1024 - l.period, pos := l.pos + 1 } := by
  unfold countLtb
  have reached : advances l = true := decide_eq_true ⟨moving, enough⟩
  rw [if_neg moving, if_pos reached]

theorem runClock_quiet {n : Nat} {s : State} (moving : s.ltb.lock ≠ .stopped) (quiet : QuietCounts n s) :
    ∀ k ≤ n, QuietlyCounted k s (runClock k s) := by
  intro k
  induction k with
  | zero => exact fun _ => ⟨.refl s, rfl, rfl, fun _ => rfl⟩
  | succ k ih =>
    intro within
    obtain ⟨sampled, now, ltb, chan⟩ := ih (Nat.le_of_succ_le within)
    obtain ⟨running, short, noReset, none⟩ := quiet k within
    have counted : runClock (k + 1) s = nextCount (runClock k s) := tick_quiet running noReset short none
    rw [counted]
    refine ⟨sampled.trans (nextCount_sampled _), ?_, ?_, sampled_chan_nextCount chan⟩
    · rw [nextCount_now, now, Nat.add_assoc]
    · rw [nextCount_ltb, countLtb_gains (by rw [ltb]; exact moving) short, ltb]
      simp only [Nat.mul_add, Nat.add_assoc]

/-- R1: the counts to the next advance. -/
theorem countsToAdvance_spec {l : Ltb} (below : l.acc < l.period) :
    l.acc + 1024 * (countsToAdvance l - 1) < l.period ∧ l.period ≤ l.acc + 1024 * countsToAdvance l := by
  unfold countsToAdvance
  omega

/-- R1, R2: a count of the next advance behind quiet counts. -/
theorem advanceCount_quiet {s : State} (moving : s.ltb.lock ≠ .stopped) (below : s.ltb.acc < s.ltb.period)
    (quiet : QuietCounts (countsToAdvance s.ltb - 1) s) :
    Sampled s (advanceCount s) ∧ (advanceCount s).now = s.now + countsToAdvance s.ltb
      ∧ (advanceCount s).ltb =
        { s.ltb with acc := s.ltb.acc + 1024 * countsToAdvance s.ltb - s.ltb.period, pos := s.ltb.pos + 1 }
      ∧ ∀ c, (advanceCount s).chan c = { s.chan c with fbkRun := ((advanceCount s).chan c).fbkRun } := by
  obtain ⟨sampled, now, ltb, chan⟩ := runClock_quiet moving quiet _ (Nat.le_refl _)
  have positive := countsToAdvance_pos s.ltb
  have gained : s.ltb.acc + 1024 * (countsToAdvance s.ltb - 1) + 1024 = s.ltb.acc + 1024 * countsToAdvance s.ltb := by
    omega
  unfold advanceCount
  refine ⟨sampled.trans (nextCount_sampled _), ?_, ?_, sampled_chan_nextCount chan⟩
  · rw [nextCount_now, now]
    omega
  · have enough := (countsToAdvance_spec below).2
    rw [nextCount_ltb, ltb, countLtb_advances (by exact moving) (by simpa only [gained] using enough)]
    simp only [gained]

/-! ## A capture edge at the count of an advance -/

/-- A free order of one thing and a work: the thing comes before the work, or not. -/
theorem chosenBefore_one (d : Due) (s : State) :
    chosenBefore [d] s = ([], { s with draws := s.draws + 1 })
      ∨ chosenBefore [d] s = ([d], { s with draws := s.draws + 1 }) := by
  have two : Config.freeOrder s.draws % 2 = 0 ∨ Config.freeOrder s.draws % 2 = 1 := by omega
  unfold chosenBefore State.inFreeOrder
  rcases two with e | e
  · left; simp [shuffle, State.draw, e]
  · right; simp [shuffle, State.draw, e, List.reduceOption]

theorem capFilter_timebaseWork (s : State) (i : CapInput) : (timebaseWork s).capFilter i = s.capFilter i :=
  (congrArg (fun u : State => u.capFilter i) (timebaseWork_keeps s).beside :)

theorem capFilter_offerPosition (s : State) (i : CapInput) : (offerPosition s).capFilter i = s.capFilter i := by
  obtain ⟨k, h⟩ := offerPosition_keeps s
  exact h.capFilter i

/-- A capture level that is due is handled as its qualification. -/
theorem handleDue_cap {i : CapInput} {high : Bool} {s t : State} (due : isDue s (.capLevel i high) = true)
    (same : t.capFilter i = s.capFilter i) : handleDue t (.capLevel i high) = capQualified i high t :=
  handleDue_due (by simpa only [isDue, same] using due)

/-- One thing is taken in its order. -/
theorem handleInOrder_one (d : Due) (s : State) : handleInOrder [] [d] s = handleDue s d := by
  rw [← handleRest_one, handleRest, inFreeOrder_one]

theorem moveAhead_nil (s : State) : moveAhead [] s = false := rfl

theorem without_self (d : Due) : without [d] [d] = [] := by simp [without]

theorem without_none (d : Due) : without [d] [] = [d] := by simp [without]

/-- What an advance makes of a count at which one thing comes that may be taken anywhere around its work. -/
theorem handleWithAdvance_free {d : Due} {s : State} (alone : dueNow s = [d]) (edge : withoutEdge s d = false)
    (precedesWork : ∀ u, mayPrecedeWork u d = true) (precedesOffer : ∀ u, mayPrecedeOffer u d = true) :
    handleWithAdvance s = offerPosition (timebaseWork (handleDue { s with draws := s.draws + 1 } d))
      ∨ handleWithAdvance s = offerPosition (handleDue (timebaseWork { s with draws := s.draws + 2 }) d)
      ∨ handleWithAdvance s = handleDue (offerPosition (timebaseWork { s with draws := s.draws + 2 })) d := by
  have beforeWork (u : State) : [d].filter (mayPrecedeWork u) = [d] := List.filter_cons_of_pos (precedesWork u)
  have beforeOffer (u : State) : [d].filter (mayPrecedeOffer u) = [d] := List.filter_cons_of_pos (precedesOffer u)
  simp only [handleWithAdvance, qualifyLevels_edge alone edge, alone, beforeWork]
  rcases chosenBefore_one d s with behindWork | first
  · right
    simp only [behindWork, without_none, inFreeOrder_one, beforeOffer, List.foldl_nil]
    rcases chosenBefore_one d { s with draws := s.draws + 1 } with behind | between
    · right
      simp only [behind, without_none, vacatingNone_nil, ite_self, List.foldl_nil, handleInOrder_one]
    · left
      simp only [between, without_self, moveAhead_nil, Bool.false_eq_true, if_false, List.foldl_cons, List.foldl_nil,
        handleInOrder_nil]
  · left
    simp only [first, without_self, inFreeOrder_nil, List.filter_nil, chosenBefore_nil, without_nil, vacatingNone_nil,
      ite_self, List.foldl_cons, List.foldl_nil, handleInOrder_nil]

/-- R143: where a capture edge at an advance's count is taken. -/
theorem handleWithAdvance_cap {i : CapInput} {high : Bool} {s : State} (alone : dueNow s = [.capLevel i high])
    (edge : (s.capFilter i).level = some (!high)) :
    handleWithAdvance s = offerPosition (timebaseWork (capQualified i high { s with draws := s.draws + 1 }))
      ∨ handleWithAdvance s = offerPosition (capQualified i high (timebaseWork { s with draws := s.draws + 2 }))
      ∨ handleWithAdvance s = capQualified i high (offerPosition (timebaseWork { s with draws := s.draws + 2 })) := by
  have due : isDue s (.capLevel i high) = true := isDue_of_mem (alone ▸ List.mem_singleton_self _)
  have worked : (timebaseWork { s with draws := s.draws + 2 }).capFilter i = s.capFilter i :=
    capFilter_timebaseWork { s with draws := s.draws + 2 } i
  have free := handleWithAdvance_free alone (by simp [withoutEdge, edge]) (fun _ => rfl) (fun _ => rfl)
  rwa [handleDue_cap (t := { s with draws := s.draws + 1 }) due rfl, handleDue_cap due worked,
    handleDue_cap due ((capFilter_offerPosition _ i).trans worked)] at free

/-- Settles O35: the counts to the next advance, the advance that comes alone, and the one with a capture edge. -/
theorem advanceMovesOneStep : Obligations.AdvanceMovesOneStep := by
  unfold Obligations.AdvanceMovesOneStep
  intro s running n u
  refine ⟨exec_advance_stopped running, fun moving below quiet => ?_, fun quiet ahead => ?_,
    fun i high comes alone edge => ?_⟩
  · obtain ⟨sampled, now, ltb, chan⟩ := advanceCount_quiet moving below quiet
    obtain ⟨before, reached⟩ := countsToAdvance_spec below
    exact ⟨countsToAdvance_pos s.ltb, before, reached, now, ltb, sampled, chan⟩
  · obtain ⟨alone, point, boundary, noOpens⟩ := quiet
    refine ⟨_, exec_advance_alone alone, ?_⟩
    rw [timebaseWork_between point boundary, offerPosition_quiet ⟨ahead, noOpens⟩]
    exact ⟨atOffer_frame _, atOffer_chan _, atOffer_group _⟩
  · refine ⟨_, exec_advance_comes comes, ?_⟩
    exact handleWithAdvance_cap alone edge

end Sys2Proof.Machine
end

section
/-! O42 and O47: the timebase's own work for an advance, the window evaluation and the end of a holdover, as the offer
behind it leaves them. -/

namespace Sys2Proof.Machine

/-! ## The offer behind a work of the timebase -/

theorem offerPosition_ltb (s : State) : (offerPosition s).ltb = s.ltb := by
  obtain ⟨k, h⟩ := offerPosition_keeps s
  exact h.ltb

theorem offerPosition_sel (s : State) : (offerPosition s).sel = s.sel := by
  obtain ⟨k, h⟩ := offerPosition_keeps s
  exact h.sel

theorem offerPosition_notices (s : State) (q : Port) :
    ((offerPosition s).session q).notices = (s.session q).notices := by
  obtain ⟨k, h⟩ := offerPosition_keeps s
  exact (h.sessions q).keeps.2.2.2.2.1

theorem told_notices (pos : Pos) (body : EventBody) (r : Session) : (told pos body r).notices = r.notices :=
  (told_placed pos body r).keeps.2.2.2.2.1

/-- What an offer with nothing to fire makes of a state that the timebase's work has left at its position. -/
structure QuietlyOffered (u w t : State) : Prop where
  frame : t = { u with ltb := t.ltb, sel := t.sel, sessions := t.sessions, chans := t.chans, groups := t.groups }
  chan : ∀ c, t.chan c = { u.chan c with settled := (t.chan c).settled }
  group : ∀ g, t.group g = offeredGroup u.ltb.pos (u.group g)
  session : ∀ q, t.session q = w.session q

theorem TimebaseKeeps.chan {s t : State} (k : TimebaseKeeps s t) (c : Chan) : t.chan c = s.chan c :=
  (congrArg (fun u : State => u.chan c) k.beside :)

theorem TimebaseKeeps.group {s t : State} (k : TimebaseKeeps s t) (g : GroupId) : t.group g = s.group g :=
  (congrArg (fun u : State => u.group g) k.beside :)

theorem TimebaseKeeps.monitor {s t : State} (k : TimebaseKeeps s t) (r : RefId) : t.monitor r = s.monitor r :=
  (congrArg (fun u : State => u.monitor r) k.beside :)

theorem NothingToFire.of_keeps {pos : Pos} {u w : State} (k : TimebaseKeeps u w) (h : NothingToFire pos u) :
    NothingToFire pos w :=
  ⟨by rw [k.sched]; exact h.1, fun c => by rw [k.chan]; exact h.2 c⟩

theorem quietlyOffered {u w : State} (k : TimebaseKeeps u w) (stays : w.ltb.pos = u.ltb.pos)
    (quiet : NothingToFire u.ltb.pos u) : QuietlyOffered u w (offerPosition w) := by
  rw [offerPosition_quiet (stays ▸ quiet.of_keeps k)]
  refine ⟨?_, fun c => ?_, fun g => ?_, atOffer_session w⟩
  · rw [atOffer_frame, k.eq]
  · rw [atOffer_chan, k.chan]
  · rw [atOffer_group, k.group, stays]

/-! ## The window evaluation, case by case (R13, R14, R16) -/

/-- R26: the selector with its working offset loaded. -/
def offsetLoaded (v : Selector) : Selector := { v with working := storedOffset v v.selected }

/-- R13: the timebase with its window evaluated, but for the counts. -/
def windowClosed (l : Ltb) : Ltb := { l with accepted := false, rejected := 0, baseValid := windowGood l }

/-- R14: a miss in LOCKED that is not the first. -/
def secondMiss (l : Ltb) : Bool := decide (l.lock = .locked ∧ l.missCount ≠ 0) && !windowGood l

/-- R16: a good window in HOLDOVER that is not the first. -/
def secondGood (l : Ltb) : Bool := decide (l.lock = .holdover ∧ l.relockCount ≠ 0) && windowGood l

/-- R28: the second miss switches the reference. -/
def missSwitches (s : State) : Bool :=
  secondMiss s.ltb && decide (s.sel.mode = .auto) && (s.monitor (otherRef s.sel.selected)).qualified

section evaluateWindow

variable {s : State}

theorem evaluateWindow_good (locked : s.ltb.lock = .locked) (good : windowGood s.ltb = true) :
    evaluateWindow s =
      { s with ltb := { windowClosed s.ltb with missCount := 0 }, sel := offsetLoaded s.sel } := by
  unfold evaluateWindow
  simp only [locked, good, if_true]
  rfl

theorem evaluateWindow_firstMiss (locked : s.ltb.lock = .locked) (bad : windowGood s.ltb = false)
    (first : s.ltb.missCount = 0) :
    evaluateWindow s =
      { s with ltb := { windowClosed s.ltb with missCount := 1 }, sel := offsetLoaded s.sel } := by
  have short : ¬ 2 ≤ (closeWindow s).ltb.missCount + 1 := by
    rw [closeWindow_ltb]
    show ¬ 2 ≤ s.ltb.missCount + 1
    omega
  unfold evaluateWindow
  simp only [locked, bad, Bool.false_eq_true, if_false, short]
  rw [closeWindow_ltb]
  simp only [closeWindow, loadOffset, clearWindow, windowClosed, offsetLoaded, first]

/-- R14: the state of a second miss, before HOLDOVER is entered. -/
def missedTwice (s : State) : State :=
  { s with ltb := { windowClosed s.ltb with missCount := s.ltb.missCount + 1 }, sel := offsetLoaded s.sel }

theorem missSwitches_of (locked : s.ltb.lock = .locked) (bad : windowGood s.ltb = false)
    (second : s.ltb.missCount ≠ 0) :
    secondMiss s.ltb = true
      ∧ missSwitches s = (decide (s.sel.mode = .auto) && (s.monitor (otherRef s.sel.selected)).qualified) := by
  have miss : secondMiss s.ltb = true := by simp [secondMiss, locked, bad, second]
  exact ⟨miss, by rw [missSwitches, miss, Bool.true_and]⟩

theorem evaluateWindow_secondMiss (locked : s.ltb.lock = .locked) (bad : windowGood s.ltb = false)
    (second : s.ltb.missCount ≠ 0) :
    evaluateWindow s =
      if missSwitches s = true then autoSwitch (enterHoldover .missed (missedTwice s))
      else enterHoldover .missed (missedTwice s) := by
  have many : 2 ≤ s.ltb.missCount + 1 := by omega
  have due : missedSwitchDue (enterHoldover .missed (missedTwice s)) = missSwitches s := by
    rw [(missSwitches_of locked bad second).2]
    unfold missedSwitchDue
    rw [enterHoldover_sel, (enterHoldover_keeps _ _).monitor]
    rfl
  rw [← due]
  unfold evaluateWindow
  simp only [locked, bad, Bool.false_eq_true, if_false]
  exact if_pos many

theorem evaluateWindow_bad (holdover : s.ltb.lock = .holdover) (bad : windowGood s.ltb = false) :
    evaluateWindow s =
      { s with ltb := { windowClosed s.ltb with relockCount := 0 }, sel := offsetLoaded s.sel } := by
  unfold evaluateWindow
  simp only [holdover, bad, Bool.false_eq_true, if_false]
  rfl

theorem evaluateWindow_firstGood (holdover : s.ltb.lock = .holdover) (good : windowGood s.ltb = true)
    (first : s.ltb.relockCount = 0) :
    evaluateWindow s =
      { s with ltb := { windowClosed s.ltb with relockCount := 1 }, sel := offsetLoaded s.sel } := by
  have short : ¬ 2 ≤ (closeWindow s).ltb.relockCount + 1 := by
    rw [closeWindow_ltb]
    show ¬ 2 ≤ s.ltb.relockCount + 1
    omega
  unfold evaluateWindow
  simp only [holdover, good, if_true, short, if_false]
  rw [closeWindow_ltb]
  simp only [closeWindow, loadOffset, clearWindow, windowClosed, offsetLoaded, first]

/-- R16: the state of a second good window in HOLDOVER, before LOCKED is entered. -/
def goodTwice (s : State) : State :=
  { s with
    ltb := { windowClosed s.ltb with missCount := 0, relockCount := s.ltb.relockCount + 1 }
    sel := offsetLoaded s.sel }

theorem evaluateWindow_secondGood (holdover : s.ltb.lock = .holdover) (good : windowGood s.ltb = true)
    (second : s.ltb.relockCount ≠ 0) : evaluateWindow s = changeLock .locked .relocked (goodTwice s) := by
  have many : 2 ≤ s.ltb.relockCount + 1 := by omega
  unfold evaluateWindow
  simp only [holdover, good, if_true]
  exact if_pos many

/-! ## What an evaluation leaves -/

/-- R14, R19, R20: the session record of a port behind a second miss. -/
def missTold (s : State) (r : Session) : Session :=
  noticedLeft (told s.ltb.pos (.timebase .holdover .locked .missed s.sel.selected s.ltb.period) r)

theorem enterMissed_session (locked : s.ltb.lock = .locked) (q : Port) :
    (enterHoldover .missed (missedTwice s)).session q = missTold s (s.session q) :=
  enterHoldover_session (s := missedTwice s) .missed locked q

theorem enterMissed_ltb :
    (enterHoldover .missed (missedTwice s)).ltb =
      { windowClosed s.ltb with
        lock := .holdover, missCount := s.ltb.missCount + 1, holdCount := 0, relockCount := 0 } := by
  rw [enterHoldover_ltb]
  rfl

/-- R14, R16: the timebase behind an evaluation. -/
theorem evaluateWindow_ltb (lock : s.ltb.lock = .locked ∨ s.ltb.lock = .holdover) :
    (evaluateWindow s).ltb =
      if s.ltb.lock = .locked then
        if windowGood s.ltb = true then { windowClosed s.ltb with missCount := 0 }
        else if s.ltb.missCount = 0 then { windowClosed s.ltb with missCount := 1 }
        else
          { windowClosed s.ltb with
            lock := .holdover, missCount := s.ltb.missCount + 1, holdCount := 0, relockCount := 0 }
      else if windowGood s.ltb = true then
        if s.ltb.relockCount = 0 then { windowClosed s.ltb with relockCount := 1 }
        else { windowClosed s.ltb with lock := .locked, missCount := 0, relockCount := s.ltb.relockCount + 1 }
      else { windowClosed s.ltb with relockCount := 0 } := by
  rcases lock with locked | holdover
  · rw [if_pos locked]
    cases good : windowGood s.ltb with
    | true => rw [evaluateWindow_good locked good, if_pos rfl]
    | false =>
      rw [if_neg Bool.false_ne_true]
      by_cases first : s.ltb.missCount = 0
      · rw [evaluateWindow_firstMiss locked good first, if_pos first]
      · rw [evaluateWindow_secondMiss locked good first, if_neg first]
        split
        · rw [autoSwitch_ltb, enterMissed_ltb]
          simp only [switchedLtb, clearWindow, windowClosed, good]
        · exact enterMissed_ltb
  · rw [if_neg (by rw [holdover]; decide)]
    cases good : windowGood s.ltb with
    | false => rw [evaluateWindow_bad holdover good, if_neg Bool.false_ne_true]
    | true =>
      rw [if_pos rfl]
      by_cases first : s.ltb.relockCount = 0
      · rw [evaluateWindow_firstGood holdover good first, if_pos first]
      · rw [evaluateWindow_secondGood holdover good first, if_neg first, changeLock_ltb]
        rfl

/-- R26, R28: the selector behind an evaluation. -/
theorem evaluateWindow_sel (lock : s.ltb.lock = .locked ∨ s.ltb.lock = .holdover) :
    (evaluateWindow s).sel =
      if missSwitches s = true then
        { s.sel with
          selected := otherRef s.sel.selected, working := storedOffset s.sel (otherRef s.sel.selected) }
      else offsetLoaded s.sel := by
  have stays (none : secondMiss s.ltb = false) : ¬ missSwitches s = true := by simp [missSwitches, none]
  rcases lock with locked | holdover
  · cases good : windowGood s.ltb with
    | true => rw [evaluateWindow_good locked good, if_neg (stays (by simp [secondMiss, good]))]
    | false =>
      by_cases first : s.ltb.missCount = 0
      · rw [evaluateWindow_firstMiss locked good first, if_neg (stays (by simp [secondMiss, first]))]
      · rw [evaluateWindow_secondMiss locked good first]
        split
        · rw [autoSwitch_sel, enterHoldover_sel]
          rfl
        · rw [enterHoldover_sel]
          rfl
  · rw [if_neg (stays (by simp [secondMiss, holdover]))]
    cases good : windowGood s.ltb with
    | false => rw [evaluateWindow_bad holdover good]
    | true =>
      by_cases first : s.ltb.relockCount = 0
      · rw [evaluateWindow_firstGood holdover good first]
      · rw [evaluateWindow_secondGood holdover good first, changeLock_sel]
        rfl

/-- R14, R16, R19, R20, R30: each port's session behind an evaluation. -/
theorem evaluateWindow_session (lock : s.ltb.lock = .locked ∨ s.ltb.lock = .holdover) (q : Port) :
    (evaluateWindow s).session q =
      if secondMiss s.ltb = true then
        if missSwitches s = true then
          noticedSwitch (told s.ltb.pos
            (.timebase .holdover .holdover .switched (otherRef s.sel.selected) s.ltb.period) (missTold s (s.session q)))
        else missTold s (s.session q)
      else if secondGood s.ltb = true then
        told s.ltb.pos (.timebase .locked .holdover .relocked s.sel.selected s.ltb.period) (s.session q)
      else s.session q := by
  rcases lock with locked | holdover
  · have relocks : ¬ secondGood s.ltb = true := by simp [secondGood, locked]
    cases good : windowGood s.ltb with
    | true =>
      rw [evaluateWindow_good locked good, if_neg (by simp [secondMiss, good]), if_neg relocks]
      rfl
    | false =>
      by_cases first : s.ltb.missCount = 0
      · rw [evaluateWindow_firstMiss locked good first, if_neg (by simp [secondMiss, first]), if_neg relocks]
        rfl
      · rw [evaluateWindow_secondMiss locked good first, if_pos (missSwitches_of locked good first).1]
        split
        · rw [autoSwitch_session, enterMissed_session locked, enterMissed_ltb, enterHoldover_sel]
          rfl
        · exact enterMissed_session locked q
  · rw [if_neg (by simp [secondMiss, holdover])]
    cases good : windowGood s.ltb with
    | false =>
      rw [evaluateWindow_bad holdover good, if_neg (by simp [secondGood, good])]
      rfl
    | true =>
      by_cases first : s.ltb.relockCount = 0
      · rw [evaluateWindow_firstGood holdover good first, if_neg (by simp [secondGood, first])]
        rfl
      · have relocks : secondGood s.ltb = true := by simp [secondGood, holdover, good, first]
        have lock : (goodTwice s).ltb.lock = .holdover := holdover
        rw [evaluateWindow_secondGood holdover good first, if_pos relocks,
          changeLock_session_other _ _ (by rw [lock]; decide), lock]
        rfl

theorem evaluateWindow_pos (lock : s.ltb.lock = .locked ∨ s.ltb.lock = .holdover) :
    (evaluateWindow s).ltb.pos = s.ltb.pos := by
  rw [evaluateWindow_ltb lock]
  split_ifs <;> rfl

/-- R14, R16, R20, R26, R28: the timebase, the selector and the notices behind an evaluation. -/
theorem evaluateWindow_line (lock : s.ltb.lock = .locked ∨ s.ltb.lock = .holdover) :
    if s.ltb.lock = .locked then
      if windowGood s.ltb = true then
        (evaluateWindow s).ltb = { windowClosed s.ltb with missCount := 0 }
          ∧ (evaluateWindow s).sel = offsetLoaded s.sel
      else if s.ltb.missCount = 0 then
        (evaluateWindow s).ltb = { windowClosed s.ltb with missCount := 1 }
          ∧ (evaluateWindow s).sel = offsetLoaded s.sel
      else
        (evaluateWindow s).ltb =
            { windowClosed s.ltb with
              lock := .holdover, missCount := s.ltb.missCount + 1, holdCount := 0, relockCount := 0 }
          ∧ (∀ q, ((evaluateWindow s).session q).notices.leftLock = true)
          ∧ if s.sel.mode = .auto ∧ (s.monitor (otherRef s.sel.selected)).qualified = true then
              (evaluateWindow s).sel =
                  { s.sel with
                    selected := otherRef s.sel.selected, working := storedOffset s.sel (otherRef s.sel.selected) }
                ∧ ∀ q, ((evaluateWindow s).session q).notices.refSwitched = true
            else (evaluateWindow s).sel = offsetLoaded s.sel
    else
      (evaluateWindow s).sel = offsetLoaded s.sel
        ∧ if windowGood s.ltb = true then
            if s.ltb.relockCount = 0 then (evaluateWindow s).ltb = { windowClosed s.ltb with relockCount := 1 }
            else
              (evaluateWindow s).ltb =
                { windowClosed s.ltb with lock := .locked, missCount := 0, relockCount := s.ltb.relockCount + 1 }
          else (evaluateWindow s).ltb = { windowClosed s.ltb with relockCount := 0 } := by
  have ltb := evaluateWindow_ltb lock
  have sel := evaluateWindow_sel lock
  have session := evaluateWindow_session lock
  have stays (none : secondMiss s.ltb = false) : (evaluateWindow s).sel = offsetLoaded s.sel :=
    sel.trans (if_neg (by simp [missSwitches, none]))
  by_cases locked : s.ltb.lock = .locked
  · rw [if_pos locked] at ltb ⊢
    by_cases good : windowGood s.ltb = true
    · rw [if_pos good] at ltb ⊢
      exact ⟨ltb, stays (by simp [secondMiss, good])⟩
    · rw [if_neg good] at ltb ⊢
      by_cases first : s.ltb.missCount = 0
      · rw [if_pos first] at ltb ⊢
        exact ⟨ltb, stays (by simp [secondMiss, first])⟩
      · rw [if_neg first] at ltb ⊢
        obtain ⟨miss, switches⟩ := missSwitches_of locked (Bool.eq_false_iff.mpr good) first
        simp only [if_pos miss] at session
        refine ⟨ltb, fun q => ?_, ?_⟩
        · rw [session]
          split
          · rw [noticedSwitch, told_notices]
            rfl
          · rfl
        · by_cases auto : s.sel.mode = .auto ∧ (s.monitor (otherRef s.sel.selected)).qualified = true
          · have switches : missSwitches s = true := by rw [switches]; simpa using auto
            rw [if_pos auto]
            exact ⟨sel.trans (if_pos switches), fun q => by rw [session, if_pos switches]; rfl⟩
          · rw [if_neg auto]
            exact sel.trans (if_neg (by rw [switches]; simpa using auto))
  · rw [if_neg locked] at ltb ⊢
    refine ⟨stays (by simp [secondMiss, locked]), ?_⟩
    by_cases good : windowGood s.ltb = true
    · rw [if_pos good] at ltb ⊢
      by_cases first : s.ltb.relockCount = 0
      · rwa [if_pos first] at ltb ⊢
      · rwa [if_neg first] at ltb ⊢
    · rwa [if_neg good] at ltb ⊢

end evaluateWindow

/-! ## O42 -/

/-- Settles O42: the evaluation case by case, as the offer behind it leaves it. -/
theorem windowEvaluated : Obligations.WindowEvaluated := by
  unfold Obligations.WindowEvaluated
  intro s alone u point boundary lock
  refine ⟨_, exec_advance_alone alone, ?_⟩
  have work : timebaseWork (advanceCount s) = evaluateWindow u := by
    unfold timebaseWork evaluationPoint
    dsimp only
    rw [if_pos point, if_neg boundary]
  rw [work]
  clear_value u
  dsimp only
  simp only [offerPosition_notices, offerPosition_ltb, offerPosition_sel]
  refine ⟨fun quiet => ?_, ?_⟩
  · obtain ⟨frame, chan, group, session⟩ := quietlyOffered (evaluateWindow_keeps u) (evaluateWindow_pos lock) quiet
    rw [offerPosition_ltb, offerPosition_sel] at frame
    exact ⟨frame, chan, group, fun q => (session q).trans (evaluateWindow_session lock q)⟩
  · exact evaluateWindow_line lock

/-! ## The end of a holdover (R15, R17) -/

/-- R17: the timebase behind an entry to LOST. An AUTO switch at it restarts acquisition once more. -/
theorem enterLost_ltb (s : State) : (enterLost s).ltb = { s.ltb with lock := .lost, acq := Acquisition.none } := by
  unfold enterLost testStanding
  split
  · rw [autoSwitch_ltb, changeLock_ltb]
    rfl
  · rw [changeLock_ltb]
    rfl

theorem enterLost_fixed {s : State} (fixed : s.sel.mode ≠ .auto) :
    enterLost s = changeLock .lost .holdoverExpired (loadOffset (restartAcquisition s)) :=
  testStanding_fixed (by rw [changeLock_sel]; exact fixed)

theorem enterLost_sel {s : State} (fixed : s.sel.mode ≠ .auto) : (enterLost s).sel = offsetLoaded s.sel := by
  rw [enterLost_fixed fixed, changeLock_sel]
  rfl

theorem enterLost_session {s : State} (fixed : s.sel.mode ≠ .auto) (holdover : s.ltb.lock = .holdover) (q : Port) :
    (enterLost s).session q =
      told s.ltb.pos (.timebase .lost .holdover .holdoverExpired s.sel.selected s.ltb.period) (s.session q) := by
  have lock : (loadOffset (restartAcquisition s)).ltb.lock = .holdover := holdover
  rw [enterLost_fixed fixed, changeLock_session_other _ _ (by rw [lock]; decide), lock]
  rfl

/-- R15: the state of a crossing in HOLDOVER with its holdover count. -/
def heldOnce (s : State) : State := { s with ltb := { s.ltb with holdCount := s.ltb.holdCount + 1 } }

theorem crossForward_expires {s : State} (holdover : s.ltb.lock = .holdover)
    (last : s.ltb.limit ≤ s.ltb.holdCount + 1) : crossForward s = enterLost (heldOnce s) := by
  unfold crossForward
  rw [if_pos holdover]
  exact if_pos last

theorem crossForward_counts {s : State} (holdover : s.ltb.lock = .holdover)
    (more : ¬ s.ltb.limit ≤ s.ltb.holdCount + 1) : crossForward s = heldOnce s := by
  unfold crossForward
  rw [if_pos holdover]
  exact if_neg more

theorem crossForward_other {s : State} (other : s.ltb.lock ≠ .holdover) : crossForward s = s := if_neg other

/-- R15: the command HOLDOVER_EXPIRED is the advance of an expiring crossing. -/
theorem exec_holdoverExpired {s : State} (running : s.power = .running)
    (crossing : s.ltb.lock = .holdover ∧ s.ltb.limit ≤ s.ltb.holdCount + 1 ∧ stepOf s.ltb.pos = 1023) :
    exec .holdoverExpired s = exec .advance s := by
  show Host.Outcome.next (s.whileRunning holdoverExpiry) = .next (s.whileRunning advanceNow)
  rw [State.whileRunning_running running, State.whileRunning_running running, holdoverExpiry, if_pos crossing]

theorem exec_holdoverExpired_idle {s : State} (running : s.power = .running)
    (idle : ¬ (s.ltb.lock = .holdover ∧ s.ltb.limit ≤ s.ltb.holdCount + 1 ∧ stepOf s.ltb.pos = 1023)) :
    exec .holdoverExpired s = .next s := by
  show Host.Outcome.next (s.whileRunning holdoverExpiry) = _
  rw [State.whileRunning_running running, holdoverExpiry, if_neg idle]

/-- Settles O47: the command is an advance, whose crossing enters LOST. -/
theorem holdoverExpires : Obligations.HoldoverExpires := by
  unfold Obligations.HoldoverExpires
  intro s running crossing
  refine ⟨exec_holdoverExpired_idle running, ?_⟩
  intro crosses alone u boundary point holdover last
  refine ⟨_, (exec_holdoverExpired running crosses).trans (exec_advance_alone alone), ?_⟩
  have work : timebaseWork (advanceCount s) = enterLost (heldOnce u) := by
    unfold timebaseWork evaluationPoint
    dsimp only
    have away : stepOf u.ltb.pos ≠ u.sel.working + 32 := fun e => point (e.symm.trans boundary)
    rw [if_neg away, if_pos boundary]
    exact crossForward_expires holdover last
  rw [work]
  clear_value u
  dsimp only
  have keeps : TimebaseKeeps u (enterLost (heldOnce u)) := (setLtb_keeps u _).trans (enterLost_keeps _)
  refine ⟨by rw [offerPosition_ltb, enterLost_ltb]; rfl, fun fixed quiet => ?_⟩
  obtain ⟨frame, chan, -, session⟩ := quietlyOffered keeps (by rw [enterLost_ltb]; rfl) quiet
  refine ⟨frame, ?_, chan, fun q => ?_⟩
  · rw [offerPosition_sel, enterLost_sel (by exact fixed)]
    rfl
  · rw [session, enterLost_session (by exact fixed) (by exact holdover)]
    rfl

end Sys2Proof.Machine
end

section
/-! The edges of the references: the part that a qualified rising edge meets (log 4), and O45, what the edge makes of its
own monitor. -/

namespace Sys2Proof.Machine

/-! ## The count of a level -/

/-- Something that is taken behind the work and the offer of an advance of its count (R2, R3). -/
theorem handleWithAdvance_behind {d : Due} {s : State} (alone : dueNow s = [d]) (edge : withoutEdge s d = false)
    (waitsWork : ∀ u, mayPrecedeWork u d = false) (waitsOffer : ∀ u, mayPrecedeOffer u d = false) :
    handleWithAdvance s = handleDue (offerPosition (timebaseWork s)) d := by
  have beforeWork (u : State) : [d].filter (mayPrecedeWork u) = [] := by simp [waitsWork]
  have beforeOffer (u : State) : [d].filter (mayPrecedeOffer u) = [] := by simp [waitsOffer]
  simp only [handleWithAdvance, qualifyLevels_edge alone edge, alone, beforeWork, beforeOffer, chosenBefore_nil,
    without_none, inFreeOrder_one, List.foldl_nil, vacatingNone_nil, ite_self, handleInOrder_one]

/-- With counts to pass, the level is qualified at the last of them. -/
theorem levelAfterCounts_tick {full after : Nat} {shown : Nat → State → State} {d : Due} {s : State} (later : after ≠ 0)
    (positive : full ≠ 0) (running : (runClock (after - min after full) s).power = .running) :
    levelAfterCounts full after shown d s = tick (beforeLevel full after shown s) := by
  obtain ⟨k, count⟩ : ∃ k, min after full = k + 1 := ⟨min after full - 1, by omega⟩
  unfold levelAfterCounts beforeLevel
  dsimp only
  rw [State.whileRunning_running running, count]
  rfl

/-! ## The part that an edge meets -/

theorem refFilter_timebaseWork (s : State) (r : RefId) : (timebaseWork s).refFilter r = s.refFilter r :=
  (congrArg (fun u : State => u.refFilter r) (timebaseWork_keeps s).beside :)

theorem refFilter_offerPosition (s : State) (r : RefId) : (offerPosition s).refFilter r = s.refFilter r := by
  obtain ⟨k, h⟩ := offerPosition_keeps s
  cases r
  · exact h.filterA
  · exact h.filterB

theorem refFilter_edgeCount (r : RefId) (after : Nat) (s : State) (q : RefId) :
    (edgeCount r after s).refFilter q = (levelCount edgeSamples after (showRef r true) s).refFilter q := by
  unfold edgeCount
  dsimp only
  split
  · rw [refFilter_offerPosition, refFilter_timebaseWork]
  · rfl

/-- R3: the edge is taken at the part that its count leaves. -/
theorem levelAfterCounts_edge {r : RefId} {after : Nat} {s : State} (comes : EdgeComes r after s) :
    levelAfterCounts edgeSamples after (showRef r true) (.refLevel r true) s =
      refQualified id r true (edgeCount r after s) := by
  obtain ⟨⟨running, due, counted⟩, low⟩ := comes
  have dueThere : isDue (edgeCount r after s) (.refLevel r true) = true := by
    simpa only [isDue, refFilter_edgeCount] using due
  have handled : handleDue (edgeCount r after s) (.refLevel r true) = refQualified id r true (edgeCount r after s) :=
    handleDue_due dueThere
  rw [← handled]
  by_cases now : after = 0
  · subst now
    exact levelAfterCounts_zero _ _ _ running
  · obtain ⟨clocked, runningV, noReset, alone⟩ := counted now
    have count : levelCount edgeSamples after (showRef r true) s =
        nextCount (beforeLevel edgeSamples after (showRef r true) s) := if_neg now
    have edge : withoutEdge (levelCount edgeSamples after (showRef r true) s) (.refLevel r true) = false := by
      simp [withoutEdge, low]
    rw [count] at noReset alone edge
    rw [levelAfterCounts_tick now (by decide) clocked, tick_running runningV]
    unfold edgeCount advanceWith
    rw [count]
    cases advancing : advances (beforeLevel edgeSamples after (showRef r true) s).ltb with
    | true =>
      rw [runningCount_advance noReset advancing, handleWithAdvance_behind alone edge (fun _ => rfl) (fun _ => rfl)]
      simp [now]
    | false =>
      rw [runningCount_step noReset advancing, handleAll, qualifyLevels_edge alone edge, alone, handleRest_one]
      simp

/-- R3: the part with the high level of a reference qualified. -/
def edgeShown (r : RefId) (u : State) : State := u.setRefFilter r { u.refFilter r with level := some true }

section edgeShown

variable (r : RefId) (u : State)

theorem edgeShown_now : (edgeShown r u).now = u.now := State.setRefFilter_now _ _ _
theorem edgeShown_ltb : (edgeShown r u).ltb = u.ltb := State.setRefFilter_ltb _ _ _
theorem edgeShown_sel : (edgeShown r u).sel = u.sel := State.setRefFilter_sel _ _ _
theorem edgeShown_sched : (edgeShown r u).sched = u.sched := State.setRefFilter_sched _ _ _
theorem edgeShown_chans : (edgeShown r u).chans = u.chans := State.setRefFilter_chans _ _ _
theorem edgeShown_groups : (edgeShown r u).groups = u.groups := State.setRefFilter_groups _ _ _
theorem edgeShown_chan (c : Chan) : (edgeShown r u).chan c = u.chan c := State.setRefFilter_chan _ _ _ c
theorem edgeShown_session (q : Port) : (edgeShown r u).session q = u.session q := State.setRefFilter_session _ _ _ q
theorem edgeShown_monitor (q : RefId) : (edgeShown r u).monitor q = u.monitor q := by cases r <;> rfl

end edgeShown

/-- R3, R27: the rising edge of a reference, at the part that its count leaves. -/
theorem exec_referenceEdge {r : RefId} {after : Nat} {s : State} (comes : EdgeComes r after s) :
    exec (.referenceEdge r after) s = .next (referenceEdge id r (edgeShown r (edgeCount r after s))) := by
  have low : ((edgeCount r after s).refFilter r).level = some false := by rw [refFilter_edgeCount, comes.2]
  show execReferenceEdge r after s = _
  rw [execReferenceEdge, State.whileRunning_running comes.1.1, levelAfterCounts_edge comes, refQualified,
    if_pos ⟨rfl, low⟩]
  rfl

/-! ## O45 -/

theorem setMonitor_refFilter (s : State) (r : RefId) (m : Monitor) (q : RefId) :
    (s.setMonitor r m).refFilter q = s.refFilter q := by
  cases r <;> rfl

theorem setRefFilter_refFilter_other (s : State) (r : RefId) (f : RefFilter) :
    (s.setRefFilter r f).refFilter (otherRef r) = s.refFilter (otherRef r) := by
  cases r <;> rfl

/-- What the timebase's handling of an edge and the offer behind it keep of the references' inputs and monitors. -/
structure RefsKept (s t : State) : Prop where
  now : t.now = s.now
  refFilter : ∀ q, t.refFilter q = s.refFilter q
  monitor : ∀ q, t.monitor q = s.monitor q

theorem RefsKept.refl (s : State) : RefsKept s s := ⟨rfl, fun _ => rfl, fun _ => rfl⟩

theorem RefsKept.trans {a b c : State} (h : RefsKept a b) (k : RefsKept b c) : RefsKept a c :=
  ⟨k.now.trans h.now, fun q => (k.refFilter q).trans (h.refFilter q), fun q => (k.monitor q).trans (h.monitor q)⟩

theorem TimebaseKeeps.refs {s t : State} (k : TimebaseKeeps s t) : RefsKept s t :=
  ⟨(congrArg State.now k.beside :), fun q => (congrArg (fun u : State => u.refFilter q) k.beside :), k.monitor⟩

theorem offerPosition_refs (s : State) : RefsKept s (offerPosition s) := by
  obtain ⟨k, h⟩ := offerPosition_keeps s
  refine ⟨h.now, refFilter_offerPosition s, fun q => ?_⟩
  cases q
  · exact h.monA
  · exact h.monB

/-- R11, R27: what the edge leaves to its monitor. -/
def beforeMonitor (r : RefId) (s : State) : State :=
  if s.sel.selected = r then
    if (timebaseEdge s.now s).2 = true then offerPosition (timebaseEdge s.now s).1 else (timebaseEdge s.now s).1
  else s

theorem referenceEdge_eq (r : RefId) (s : State) : referenceEdge id r s = monitorAndTest r (beforeMonitor r s) := by
  unfold referenceEdge beforeMonitor
  dsimp only [id]
  split
  · split <;> rfl
  · rfl

theorem beforeMonitor_refs (r : RefId) (s : State) : RefsKept s (beforeMonitor r s) := by
  have edge := (timebaseEdge_keeps s.now s).refs
  unfold beforeMonitor
  split
  · split
    · exact edge.trans (offerPosition_refs _)
    · exact edge
  · exact .refl s

/-- R23, R27: the references' inputs and monitors behind an edge of one of them. -/
theorem referenceEdge_refs (r : RefId) (s : State) :
    (∀ q, (referenceEdge id r s).refFilter q = s.refFilter q)
      ∧ (referenceEdge id r s).monitor r = monitorEdge s.now (s.monitor r)
      ∧ (referenceEdge id r s).monitor (otherRef r) = s.monitor (otherRef r) := by
  obtain ⟨now, refFilter, monitor⟩ := beforeMonitor_refs r s
  rw [referenceEdge_eq]
  obtain ⟨-, tested, testedMonitor⟩ := (testStanding_keeps ((beforeMonitor r s).setMonitor r
    (monitorEdge (beforeMonitor r s).now ((beforeMonitor r s).monitor r)))).refs
  unfold monitorAndTest
  refine ⟨fun q => ?_, ?_, ?_⟩
  · rw [tested, setMonitor_refFilter, refFilter]
  · rw [testedMonitor, State.setMonitor_monitor_same, now, monitor]
  · rw [testedMonitor, State.setMonitor_monitor_other, monitor]

/-- R6, R23: a good interval. -/
theorem goodInterval_iff (i : Nat) (previous : Option Nat) :
    goodInterval i previous =
      (decide (57143 ≤ i ∧ i ≤ 100000) && previous.all fun q => decide (32 * (max i q - min i q) ≤ q)) := by
  unfold goodInterval
  cases previous <;> rfl

theorem monitorEdge_first {m : Monitor} (t : Nat) (none : m.lastEdge = none) :
    monitorEdge t m = { m with lastEdge := some t } := by
  unfold monitorEdge
  rw [none]

theorem monitorEdge_next {m : Monitor} {t0 : Nat} (t : Nat) (last : m.lastEdge = some t0) :
    monitorEdge t m =
      if (57143 ≤ t - t0 ∧ t - t0 ≤ 100000)
          ∧ m.lastInterval.all (fun i => decide (32 * (max (t - t0) i - min (t - t0) i) ≤ i)) = true then
        { qualified := m.qualified || decide (8 ≤ m.good + 1)
          good := min (m.good + 1) 8, lastEdge := some t, lastInterval := some (t - t0) }
      else { qualified := false, good := 0, lastEdge := some t, lastInterval := none } := by
  unfold monitorEdge
  rw [last]
  simp only [goodInterval_iff, Bool.and_eq_true, decide_eq_true_eq]

/-- The references' inputs and monitors of a state, written as those of another. -/
theorem setRefs_eq (s : State) (r : RefId) (f : RefFilter) (m : Monitor) :
    (s.setRefFilter r f).setMonitor r m =
      { s with
        filterA := ((s.setRefFilter r f).setMonitor r m).filterA
        filterB := ((s.setRefFilter r f).setMonitor r m).filterB
        monA := ((s.setRefFilter r f).setMonitor r m).monA
        monB := ((s.setRefFilter r f).setMonitor r m).monB } := by
  cases r <;> rfl

/-- R27: outside AUTO an edge of the reference that is not selected is its monitor's alone. -/
theorem referenceEdge_unselected {r : RefId} {s : State} (unselected : s.sel.selected ≠ r) (fixed : s.sel.mode ≠ .auto) :
    referenceEdge id r s = s.setMonitor r (monitorEdge s.now (s.monitor r)) := by
  rw [referenceEdge_eq, beforeMonitor, if_neg unselected]
  exact testStanding_fixed (by cases r <;> exact fixed)

/-- Settles O45: the monitor by the interval test, whatever the timebase has made of the edge before it. -/
theorem edgeUpdatesMonitor : Obligations.EdgeUpdatesMonitor := by
  unfold Obligations.EdgeUpdatesMonitor
  intro r after s comes u
  refine ⟨referenceEdge id r (edgeShown r u), exec_referenceEdge comes, ?_⟩
  clear_value u
  obtain ⟨refFilter, own, other⟩ := referenceEdge_refs r (edgeShown r u)
  rw [edgeShown_now, edgeShown_monitor] at own
  rw [edgeShown_monitor] at other
  refine ⟨?_, other, ?_, fun t0 last => ?_, fun none => ?_, fun unselected fixed => ?_⟩
  · rw [refFilter, edgeShown, State.setRefFilter_refFilter_same]
  · rw [refFilter, edgeShown, setRefFilter_refFilter_other]
  · exact own.trans (monitorEdge_next _ last)
  · exact own.trans (monitorEdge_first _ none)
  · rw [referenceEdge_unselected (by rw [edgeShown_sel]; exact unselected) (by rw [edgeShown_sel]; exact fixed)]
    exact setRefs_eq _ _ _ _

end Sys2Proof.Machine
end

section
/-! What an edge of the selected reference leaves: the timebase's handling, the offer of a forward move and the edge's
monitor (R11, R27). -/

namespace Sys2Proof.Machine

/-! ## What no edge changes -/

/-- The parts of `z` that an edge of a reference may change, put into `s`. -/
def edgeParts (z s : State) : State :=
  { s with
    filterA := z.filterA, filterB := z.filterB, monA := z.monA, monB := z.monB, ltb := z.ltb, sel := z.sel
    sched := z.sched, chans := z.chans, groups := z.groups, sessions := z.sessions, draws := z.draws }

/-- Two states agree in all that no edge of a reference changes. -/
def EdgeFrame (s t : State) : Prop := ∀ z, edgeParts z t = edgeParts z s

theorem EdgeFrame.eq {s t : State} (h : EdgeFrame s t) : t = edgeParts t s := h t

theorem EdgeFrame.trans {a b c : State} (h : EdgeFrame a b) (k : EdgeFrame b c) : EdgeFrame a c :=
  fun z => (k z).trans (h z)

theorem TimebaseKeeps.edgeFrame {s t : State} (k : TimebaseKeeps s t) : EdgeFrame s t := fun z =>
  (congrArg (edgeParts z) k.beside :)

theorem WorkKeeps.edgeFrame {s t : State} {k : Nat} (h : WorkKeeps { s with draws := k } t) : EdgeFrame s t := fun z =>
  (congrArg (edgeParts z) h.rest :)

theorem offerPosition_edgeFrame (s : State) : EdgeFrame s (offerPosition s) := by
  obtain ⟨k, h⟩ := offerPosition_keeps s
  exact h.edgeFrame

theorem setMonitor_edgeFrame (s : State) (r : RefId) (m : Monitor) : EdgeFrame s (s.setMonitor r m) := by
  cases r <;> exact fun _ => rfl

theorem edgeShown_edgeFrame (r : RefId) (u : State) : EdgeFrame u (edgeShown r u) := by
  cases r <;> exact fun _ => rfl

/-! ## An edge of the selected reference -/

/-- What becomes of `u` when the timebase's handling of an edge, seen from `e`, leaves `w`, and the offer and the monitor
follow. -/
structure EdgeTaken (u w t : State) (forward : Bool) : Prop where
  frame : EdgeFrame u t
  ltb : t.ltb = w.ltb
  sel : t.sel = w.sel
  still : forward = false →
    t.sched = u.sched ∧ t.chans = u.chans ∧ t.groups = u.groups ∧ ∀ q, t.session q = w.session q
  quiet : forward = true → NothingToFire w.ltb.pos u → t.sched = u.sched ∧ ∀ q, t.session q = w.session q
  mark : forward = true → ∀ x rest, OneMark w.ltb.pos x rest u →
    t.sched = { u.sched with pending := rest }
      ∧ ∀ q, t.session q =
        if q = x.entry.owner then
          received w.ltb.pos (.done x.entry.tag x.entry.label .mark false none false false 0) (w.session q)
        else w.session q

theorem EdgeTaken.moveOffered {u w t : State} {forward : Bool} {old : Port → Session} (h : EdgeTaken u w t forward)
    (moves : forward = movesForward w.ltb.pos u.ltb.pos) (before : ∀ q, w.session q = old q) : MoveOffered u t old := by
  obtain rfl : w.session = old := funext before
  unfold MoveOffered
  rw [h.ltb]
  refine ⟨fun back => h.still (by simpa [moves, movesForward] using back), fun ahead => ?_⟩
  have offered : forward = true := by simpa [moves, movesForward] using ahead
  exact ⟨h.quiet offered, fun x _ one => h.mark offered x _ one⟩

theorem handTo_received (p : Port) (pos : Pos) (body : EventBody) (s : State) (q : Port) :
    (s.handTo p pos body).session q = if q = p then received pos body (s.session q) else s.session q := by
  rw [State.handTo_session]
  unfold received
  by_cases own : q = p
  · subst own
    simp
  · simp [own, Ne.symm own]

theorem setSched_session (s : State) (d : Schedule) (q : Port) : { s with sched := d }.session q = s.session q := rfl

/-- R11, R27: the edge's monitor, with no switch behind it, ends the taking of an edge. -/
theorem edgeTaken {r : RefId} {m : Monitor} {u e w : State} (forward : Bool) (shown : e = edgeShown r u)
    (keeps : TimebaseKeeps e w) :
    EdgeTaken u w ((if forward = true then offerPosition w else w).setMonitor r m) forward := by
  have sched : w.sched = u.sched := by rw [keeps.sched, shown, edgeShown_sched]
  have chan (c : Chan) : w.chan c = u.chan c := by rw [keeps.chan, shown, edgeShown_chan]
  have frame : EdgeFrame u w := .trans (shown ▸ edgeShown_edgeFrame r u) keeps.edgeFrame
  cases forward with
  | false =>
    have chans : w.chans = e.chans := (congrArg State.chans keeps.beside :)
    have groups : w.groups = e.groups := (congrArg State.groups keeps.beside :)
    rw [if_neg Bool.false_ne_true]
    refine ⟨frame.trans (setMonitor_edgeFrame _ _ _), State.setMonitor_ltb _ _ _, State.setMonitor_sel _ _ _,
      fun _ => ⟨?_, ?_, ?_, State.setMonitor_session _ _ _⟩, nofun, nofun⟩
    · rw [State.setMonitor_sched, sched]
    · rw [State.setMonitor_chans, chans, shown, edgeShown_chans]
    · rw [State.setMonitor_groups, groups, shown, edgeShown_groups]
  | true =>
    rw [if_pos rfl]
    refine ⟨?_, ?_, ?_, nofun, fun _ quiet => ?_, fun _ x rest one => ?_⟩
    · exact (frame.trans (offerPosition_edgeFrame _)).trans (setMonitor_edgeFrame _ _ _)
    · rw [State.setMonitor_ltb, offerPosition_ltb]
    · rw [State.setMonitor_sel, offerPosition_sel]
    · have quietThere : NothingToFire w.ltb.pos w :=
        ⟨by rw [sched]; exact quiet.1, fun c => by rw [chan]; exact quiet.2 c⟩
      rw [offerPosition_quiet quietThere, State.setMonitor_sched, atOffer_sched, sched]
      exact ⟨rfl, fun q => by rw [State.setMonitor_session, atOffer_session]⟩
    · obtain ⟨head, reached, ahead, mark, once, any, noOpens⟩ := one
      have oneThere : OneMark w.ltb.pos x rest w :=
        ⟨sched ▸ head, reached, ahead, mark, once, any, fun c => by rw [chan]; exact noOpens c⟩
      rw [offerPosition_mark oneThere]
      refine ⟨by rw [State.setMonitor_sched, State.handTo_sched, sched], fun q => ?_⟩
      rw [State.setMonitor_session, handTo_received]
      rw [setSched_session, atOffer_session]

/-- R18, R27: an edge of the selected reference behind which no switch is made. -/
theorem referenceEdge_selected {r : RefId} {e : State} (selected : e.sel.selected = r)
    (settled : (timebaseEdge e.now e).1.ltb.lock = .locked ∨ (timebaseEdge e.now e).1.sel.mode ≠ .auto) :
    ∃ m, referenceEdge id r e =
      (if (timebaseEdge e.now e).2 = true then offerPosition (timebaseEdge e.now e).1
        else (timebaseEdge e.now e).1).setMonitor r m := by
  have before : beforeMonitor r e = if (timebaseEdge e.now e).2 = true then offerPosition (timebaseEdge e.now e).1
      else (timebaseEdge e.now e).1 := if_pos selected
  refine ⟨monitorEdge (beforeMonitor r e).now ((beforeMonitor r e).monitor r), ?_⟩
  have ltb : (beforeMonitor r e).ltb = (timebaseEdge e.now e).1.ltb := by
    rw [before]
    split
    · exact offerPosition_ltb _
    · rfl
  have sel : (beforeMonitor r e).sel = (timebaseEdge e.now e).1.sel := by
    rw [before]
    split
    · exact offerPosition_sel _
    · rfl
  rw [← before, referenceEdge_eq, monitorAndTest]
  rcases settled with locked | fixed
  · exact testStanding_locked (by rw [State.setMonitor_ltb, ltb, locked])
  · exact testStanding_fixed (by rw [State.setMonitor_sel, sel]; exact fixed)

end Sys2Proof.Machine
end

section
/-! O43: an edge in LOCKED or HOLDOVER, with the position of a snap, the period update and the crossing of a cycle
boundary. -/

namespace Sys2Proof.Machine

/-! ## Positions and steps -/

theorem stepOf_add (x y : Pos) : stepOf (x + y) = stepOf x + stepOf y := BitVec.extractLsb'_add (by decide)

theorem stepOf_sub (x y : Pos) : stepOf (x - y) = stepOf x - stepOf y := by
  rw [← BitVec.add_sub_cancel (stepOf (x - y)) (stepOf y), ← stepOf_add, BitVec.sub_add_cancel]

theorem stepOf_setWidth (d : LineStep) : stepOf (d.setWidth 42) = d := by
  refine BitVec.eq_of_toNat_eq ?_
  have : d.toNat < 1024 := d.isLt
  simp [stepOf]
  omega

theorem stepOf_signExtend (d : LineStep) : stepOf (d.signExtend 42) = d := by
  refine BitVec.eq_of_toNat_eq ?_
  have : d.toNat < 1024 := d.isLt
  simp [stepOf, BitVec.toNat_signExtend]
  split <;> omega

theorem stepOf_snapTarget (o : LineStep) (pos : Pos) : stepOf (snapTarget o pos) = o := by
  rw [snapTarget, stepOf_sub, stepOf_signExtend]
  grind

theorem signedDistance_sub (x : Pos) (d : LineStep) : signedDistance (x - d.signExtend 42) x = -d.toInt := by
  have back : x - d.signExtend 42 - x = -d.signExtend 42 := by grind
  have low := BitVec.le_toInt d
  have high := BitVec.toInt_lt (x := d)
  rw [signedDistance, back, BitVec.toInt_neg, BitVec.toInt_signExtend_of_le (by decide)]
  exact Int.bmod_eq_of_le (by omega) (by omega)

theorem snapTarget_distance {o : LineStep} {pos : Pos} (inside : (stepOf pos - (o - 32)).toNat < 64) :
    -31 ≤ signedDistance (snapTarget o pos) pos ∧ signedDistance (snapTarget o pos) pos ≤ 32 := by
  have shift : stepOf pos - (o - 32) = (stepOf pos - o) + 32 := by grind
  rw [shift] at inside
  unfold snapTarget
  rw [signedDistance_sub]
  generalize stepOf pos - o = d at inside ⊢
  have range : d.toNat < 1024 := d.isLt
  rw [BitVec.toInt_eq_toNat_cond]
  simp only [BitVec.toNat_add] at inside
  have margin : (32 : LineStep).toNat = 32 := rfl
  split <;> omega

theorem nearestPosition_step (o : LineStep) (pos : Pos) : stepOf (nearestPosition o pos) = o := by
  unfold nearestPosition
  dsimp only
  split
  · rw [stepOf_add, stepOf_setWidth]
    grind
  · rw [stepOf_sub, stepOf_setWidth]
    grind

theorem nearestPosition_distance (o : LineStep) (pos : Pos) :
    -511 ≤ signedDistance (nearestPosition o pos) pos ∧ signedDistance (nearestPosition o pos) pos ≤ 512 := by
  unfold nearestPosition signedDistance
  dsimp only
  have back : stepOf pos - o = -(o - stepOf pos) := by grind
  rw [back]
  generalize o - stepOf pos = d
  have range : d.toNat < 1024 := d.isLt
  split
  · have forth : pos + d.setWidth 42 - pos = d.setWidth 42 := by grind
    rw [forth, BitVec.toInt_eq_toNat_cond]
    simp
    omega
  · have forth : pos - (-d).setWidth 42 - pos = -(-d).setWidth 42 := by grind
    rw [forth, BitVec.toInt_eq_toNat_cond]
    simp
    omega

/-! ## An accepted edge (R9, R10, R12, R15) -/

/-- R12: the interval from the last accepted edge takes part in the period update. -/
def joins (t : Nat) (l : Ltb) : Bool :=
  l.baseValid && (l.lastAccepted.map fun t0 => t - t0).any fun i => decide (57143 ≤ i ∧ i ≤ 100000)

/-- R12: the period history behind an accepted edge. -/
def joinedHistory (t : Nat) (l : Ltb) : List Nat :=
  if joins t l then l.history.drop 1 ++ [(l.lastAccepted.map fun t0 => t - t0).getD 0] else l.history

/-- R9, R10, R12: the timebase behind an accepted edge, but for a crossing. -/
def snappedLtb (t : Nat) (o : LineStep) (l : Ltb) : Ltb :=
  { l with
    pos := snapTarget o l.pos, acc := 0, accepted := true, lastAccepted := some t, history := joinedHistory t l
    period := if joins t l then (joinedHistory t l).sum / 8 else l.period }

theorem periodUpdate_snapped (t : Nat) (o : LineStep) (l : Ltb) :
    { periodUpdate t l with accepted := true, pos := snapTarget o l.pos, acc := 0 } = snappedLtb t o l := by
  unfold periodUpdate snappedLtb joinedHistory joins
  cases based : l.baseValid with
  | false => simp [based]
  | true =>
    cases last : l.lastAccepted with
    | none => simp [based]
    | some t0 =>
      simp only [Bool.true_and, Option.map_some, Option.any_some, decide_eq_true_eq, Option.getD_some]
      by_cases inside : 57143 ≤ t - t0 ∧ t - t0 ≤ 100000
      · simp only [if_pos inside, meanOf]
      · simp only [if_neg inside, based]

/-- R15: the snap crosses a cycle boundary in HOLDOVER. -/
def snapCrosses (o : LineStep) (l : Ltb) : Bool :=
  decide (l.lock = .holdover ∧ cycleOf (snapTarget o l.pos) ≠ cycleOf l.pos)

/-- R10: the snap is forward. -/
def snapForward (o : LineStep) (l : Ltb) : Bool := decide (0 < signedDistance (snapTarget o l.pos) l.pos)

/-- R15: the crossing of a snap ends the holdover. -/
def snapExpires (o : LineStep) (l : Ltb) : Bool :=
  snapCrosses o l && snapForward o l && decide (l.limit ≤ l.holdCount + 1)

/-- The state of an accepted edge, but for a crossing. -/
def snapped (t : Nat) (s : State) : State := { s with ltb := snappedLtb t s.sel.working s.ltb }

theorem acceptEdge_eq (t : Nat) (s : State) :
    acceptEdge t s =
      (if snapCrosses s.sel.working s.ltb then
        if snapForward s.sel.working s.ltb then crossForward (snapped t s) else crossBackward (snapped t s)
      else snapped t s,
        snapForward s.sel.working s.ltb) := by
  unfold acceptEdge
  dsimp only
  rw [periodUpdate_snapped]
  refine Prod.ext ?_ rfl
  unfold snapCrosses
  by_cases same : cycleOf (snapTarget s.sel.working s.ltb.pos) = cycleOf s.ltb.pos
  · simp only [same, if_true, ne_eq, not_true_eq_false, and_false, decide_false, Bool.false_eq_true, if_false]
    rfl
  · by_cases holdover : s.ltb.lock = .holdover
    · simp only [same, holdover, if_false, ne_eq, not_false_eq_true, and_self, decide_true, if_true]
      rfl
    · simp only [same, holdover, if_false, false_and, decide_false, Bool.false_eq_true]
      split
      · exact crossForward_other holdover
      · exact if_neg holdover

/-- R15, R17, R19: timebase, selector and sessions behind an accepted edge in LOCKED, or out of AUTO. -/
theorem acceptEdge_line (t : Nat) {s : State} (fixed : s.ltb.lock = .locked ∨ s.sel.mode ≠ .auto) :
    let l := s.ltb
    let o := s.sel.working
    let w := (acceptEdge t s).1
    (w.ltb =
      if snapExpires o l then
        { snappedLtb t o l with lock := .lost, holdCount := l.holdCount + 1, acq := Acquisition.none }
      else if snapCrosses o l && snapForward o l then { snappedLtb t o l with holdCount := l.holdCount + 1 }
      else if snapCrosses o l then { snappedLtb t o l with holdCount := l.holdCount - 1 }
      else snappedLtb t o l)
    ∧ w.sel = (if snapExpires o l then offsetLoaded s.sel else s.sel)
    ∧ ∀ q, w.session q =
        if snapExpires o l then
          told (snapTarget o l.pos)
            (.timebase .lost .holdover .holdoverExpired s.sel.selected (snappedLtb t o l).period) (s.session q)
        else s.session q := by
  intro l o w
  have accepted : w = _ := congrArg Prod.fst (acceptEdge_eq t s)
  rw [accepted]
  unfold snapExpires
  cases crosses : snapCrosses s.sel.working s.ltb with
  | false =>
    simp only [l, o]
    exact ⟨rfl, rfl, fun _ => rfl⟩
  | true =>
    have holdover : s.ltb.lock = .holdover := (of_decide_eq_true crosses).1
    have lock : (snapped t s).ltb.lock = .holdover := holdover
    have mode : s.sel.mode ≠ .auto := fixed.resolve_left (by rw [holdover]; decide)
    cases forward : snapForward s.sel.working s.ltb with
    | false =>
      simp only [l, o, crossBackward, if_pos lock]
      exact ⟨rfl, rfl, fun _ => rfl⟩
    | true =>
      by_cases last : s.ltb.limit ≤ s.ltb.holdCount + 1
      · rw [if_pos rfl, if_pos rfl, crossForward_expires lock last]
        simp only [l, o, last]
        refine ⟨enterLost_ltb _, enterLost_sel (by exact mode), fun q => ?_⟩
        exact enterLost_session (s := heldOnce (snapped t s)) mode lock q
      · rw [if_pos rfl, if_pos rfl, crossForward_counts lock last]
        simp only [l, o, last]
        exact ⟨rfl, rfl, fun _ => rfl⟩

/-- Behind an accepted edge in LOCKED, or out of AUTO, no switch is due. -/
theorem acceptEdge_settled (t : Nat) {s : State} (fixed : s.ltb.lock = .locked ∨ s.sel.mode ≠ .auto) :
    (acceptEdge t s).1.ltb.lock = .locked ∨ (acceptEdge t s).1.sel.mode ≠ .auto := by
  obtain ⟨ltb, sel, -⟩ := acceptEdge_line t fixed
  rcases fixed with locked | fixed
  · have stays : snapCrosses s.sel.working s.ltb = false := by simp [snapCrosses, locked]
    left
    rw [ltb]
    simp only [snapExpires, stays, Bool.false_and, Bool.false_eq_true, if_false]
    exact locked
  · right
    rw [sel]
    split <;> exact fixed

theorem acceptEdge_pos (t : Nat) {s : State} (fixed : s.ltb.lock = .locked ∨ s.sel.mode ≠ .auto) :
    (acceptEdge t s).1.ltb.pos = snapTarget s.sel.working s.ltb.pos := by
  rw [(acceptEdge_line t fixed).1]
  split_ifs <;> rfl

theorem acceptEdge_forward (t : Nat) (s : State) :
    (acceptEdge t s).2 = movesForward (snapTarget s.sel.working s.ltb.pos) s.ltb.pos := rfl

theorem told_if (c : Bool) (pos : Pos) (body : EventBody) (r : Session) :
    (if c = true then told pos body r else r) =
      if (c && r.attached && r.subs.timebase) = true then placeIn pos body r else r := by
  cases c
  · rfl
  · rw [if_pos rfl, told, Bool.true_and]

/-! ## O43 -/

theorem timebaseEdge_accepts (t : Nat) {s : State} (running : s.ltb.lock = .locked ∨ s.ltb.lock = .holdover)
    (accepts : (stepOf s.ltb.pos - (s.sel.working - 32)).toNat < 64 ∧ s.ltb.accepted = false) :
    timebaseEdge t s = acceptEdge t s := by
  have inside : (inWindow s.sel.working (stepOf s.ltb.pos) && !s.ltb.accepted) = true := by
    rw [inWindow, decide_eq_true accepts.1, accepts.2]
    rfl
  unfold timebaseEdge
  rcases running with lock | lock <;> simp only [lock, inside, if_true]

theorem timebaseEdge_rejects (t : Nat) {s : State} (running : s.ltb.lock = .locked ∨ s.ltb.lock = .holdover)
    (rejects : ¬ ((stepOf s.ltb.pos - (s.sel.working - 32)).toNat < 64 ∧ s.ltb.accepted = false)) :
    timebaseEdge t s = (rejectEdge s, false) := by
  have outside : (inWindow s.sel.working (stepOf s.ltb.pos) && !s.ltb.accepted) = false := by
    simpa [inWindow] using rejects
  unfold timebaseEdge
  rcases running with lock | lock <;> simp only [lock, outside, Bool.false_eq_true, if_false]

/-- R27: a handling of the edge that changes the timebase alone, with the edge's monitor behind it. -/
theorem referenceEdge_confined {r : RefId} {u : State} {l : Ltb} (selected : u.sel.selected = r)
    (settled : l.lock = .locked ∨ u.sel.mode ≠ .auto)
    (edge : timebaseEdge (edgeShown r u).now (edgeShown r u) = ({ edgeShown r u with ltb := l }, false)) :
    let t := referenceEdge id r (edgeShown r u)
    t = { u with filterA := t.filterA, filterB := t.filterB, monA := t.monA, monB := t.monB, ltb := l } := by
  obtain ⟨m, result⟩ := referenceEdge_selected (r := r) (e := edgeShown r u) (by rw [edgeShown_sel, selected])
    (by rw [edge]; exact settled.imp_right fun fixed => by rw [edgeShown_sel]; exact fixed)
  rw [result, edge]
  simp only [Bool.false_eq_true, if_false]
  cases r <;> rfl

/-- Settles O43: an accepted edge with its snap and the offer of it, or a rejected one. -/
theorem edgeInLock : Obligations.EdgeInLock := by
  unfold Obligations.EdgeInLock
  intro r after s comes u l selected lock
  refine ⟨referenceEdge id r (edgeShown r u), exec_referenceEdge comes, ?_⟩
  clear_value u
  have running : (edgeShown r u).ltb.lock = .locked ∨ (edgeShown r u).ltb.lock = .holdover := by
    rw [edgeShown_ltb]
    exact lock.imp_right And.left
  have fixed : (edgeShown r u).ltb.lock = .locked ∨ (edgeShown r u).sel.mode ≠ .auto := by
    rw [edgeShown_ltb, edgeShown_sel]
    exact lock.imp_right And.right
  have selectedThere : (edgeShown r u).sel.selected = r := by rw [edgeShown_sel, selected]
  dsimp only
  by_cases accepts : (stepOf l.pos - (u.sel.working - 32)).toNat < 64 ∧ l.accepted = false
  · have edge := timebaseEdge_accepts (edgeShown r u).now running (by rw [edgeShown_ltb, edgeShown_sel]; exact accepts)
    have keeps := timebaseEdge_keeps (edgeShown r u).now (edgeShown r u)
    obtain ⟨m, result⟩ := referenceEdge_selected selectedThere (by rw [edge]; exact acceptEdge_settled _ fixed)
    have taken := edgeTaken (m := m) (timebaseEdge (edgeShown r u).now (edgeShown r u)).2 rfl keeps
    have pos := acceptEdge_pos (edgeShown r u).now fixed
    obtain ⟨lineLtb, lineSel, lineSession⟩ := acceptEdge_line (edgeShown r u).now fixed
    rw [← result, edge, edgeShown_now] at taken
    rw [if_pos accepts]
    simp only [edgeShown_ltb, edgeShown_sel, edgeShown_now, edgeShown_session, selected]
      at lineLtb lineSel lineSession pos
    obtain ⟨back, forth⟩ := snapTarget_distance (o := u.sel.working) (pos := u.ltb.pos) accepts.1
    refine ⟨taken.frame.eq, stepOf_snapTarget _ _, back, forth, taken.ltb.trans lineLtb, ?_, ?_⟩
    · rw [taken.sel, lineSel, offsetLoaded, selected]
      rfl
    · refine taken.moveOffered ?_ fun q => (lineSession q).trans (told_if _ _ _ _)
      rw [pos, acceptEdge_forward, edgeShown_ltb, edgeShown_sel]
  · have edge := timebaseEdge_rejects (edgeShown r u).now running (by rw [edgeShown_ltb, edgeShown_sel]; exact accepts)
    rw [if_neg accepts]
    refine referenceEdge_confined selected (lock.imp_right And.right) (edge.trans ?_)
    rw [rejectEdge, edgeShown_ltb]

end Sys2Proof.Machine
end

section
/-! O44: an edge in acquisition, in STOPPED or LOST. -/

namespace Sys2Proof.Machine

/-! ## The acquisition run (R6) -/

/-- R6: the interval from the start edge. -/
def acquisitionInterval (t : Nat) (a : Acquisition) : Nat := t - a.start.getD 0

/-- R6: the edge ends a good interval of the run. -/
def acquisitionGood (t : Nat) (a : Acquisition) : Bool :=
  a.start.isSome && decide (57143 ≤ acquisitionInterval t a ∧ acquisitionInterval t a ≤ 100000)
    && a.run.getLast?.all fun i => decide (32 * (max (acquisitionInterval t a) i - min (acquisitionInterval t a) i) ≤ i)

theorem acquisitionEdge_eq (t : Nat) (a : Acquisition) :
    acquisitionEdge t a =
      { start := some t
        run :=
          if acquisitionGood t a then a.run ++ [acquisitionInterval t a]
          else if a.start.isSome then [] else a.run } := by
  unfold acquisitionEdge acquisitionGood acquisitionInterval
  cases started : a.start with
  | none => rfl
  | some t0 =>
    simp only [goodInterval_iff, Option.isSome_some, Bool.true_and, Option.getD_some, if_true]
    split <;> rfl

/-- R7, R8: the edge completes a run of eight. -/
theorem acquisitionEdge_full (t : Nat) {a : Acquisition} (short : a.run.length < 8) :
    ¬ (acquisitionEdge t a).run.length < 8 ↔
      acquisitionGood t a = true ∧ (a.run ++ [acquisitionInterval t a]).length = 8 := by
  rw [acquisitionEdge_eq]
  dsimp only
  cases good : acquisitionGood t a with
  | true =>
    simp only [if_true, List.length_append, List.length_singleton, true_and]
    omega
  | false =>
    have few : (if a.start.isSome = true then [] else a.run).length < 8 := by
      split
      · exact Nat.zero_lt_succ 7
      · exact short
    simp [few]

/-! ## The lock from acquisition (R7, R8) -/

/-- R7: the timebase behind the lock, at a position. -/
def acquiredLtb (t : Nat) (pos : Pos) (l : Ltb) : Ltb :=
  { l with
    lock := .locked, pos := pos, acc := 0
    period := (l.acq.run ++ [acquisitionInterval t l.acq]).sum / 8
    history := l.acq.run ++ [acquisitionInterval t l.acq]
    started := true, missCount := 0, relockCount := 0, stray := 0, accepted := true, rejected := 0
    baseValid := false, lastAccepted := some t, acq := acquisitionEdge t l.acq }

/-- R7, R8: the position that the lock sets. -/
def acquiredPos (s : State) : Pos :=
  if s.ltb.lock = .stopped then posOf 0 s.sel.working else nearestPosition s.sel.working s.ltb.pos

/-- R11, log 17: the lock moves the position forward, and is to be offered. -/
def acquiredForward (s : State) : Bool :=
  if s.ltb.lock = .stopped then false
  else movesForward (nearestPosition s.sel.working s.ltb.pos) s.ltb.pos

theorem timebaseEdge_acquires (t : Nat) {s : State} (unlocked : s.ltb.lock = .stopped ∨ s.ltb.lock = .lost) :
    timebaseEdge t s = acquire t s := by
  unfold timebaseEdge
  rcases unlocked with lock | lock <;> rw [lock]

/-- R6: an edge that does not complete the run. -/
theorem acquire_continues (t : Nat) {s : State} (short : s.ltb.acq.run.length < 8)
    (continues : ¬ (acquisitionGood t s.ltb.acq = true
      ∧ (s.ltb.acq.run ++ [acquisitionInterval t s.ltb.acq]).length = 8)) :
    acquire t s = ({ s with ltb := { s.ltb with acq := acquisitionEdge t s.ltb.acq } }, false) :=
  if_pos (not_not.mp (mt (acquisitionEdge_full t short).mp continues))

/-- R7, R8: an edge that completes the run. -/
theorem acquire_locks (t : Nat) {s : State} (unlocked : s.ltb.lock = .stopped ∨ s.ltb.lock = .lost)
    (short : s.ltb.acq.run.length < 8)
    (completes : acquisitionGood t s.ltb.acq = true
      ∧ (s.ltb.acq.run ++ [acquisitionInterval t s.ltb.acq]).length = 8) :
    acquire t s =
      (changeLock .locked .acquired
        { s with ltb := { acquiredLtb t (acquiredPos s) s.ltb with lock := s.ltb.lock } }, acquiredForward s) := by
  have run : (acquisitionEdge t s.ltb.acq).run = s.ltb.acq.run ++ [acquisitionInterval t s.ltb.acq] := by
    rw [acquisitionEdge_eq, if_pos completes.1]
  unfold acquire acquiredPos acquiredForward
  dsimp only
  rw [if_neg ((acquisitionEdge_full t short).mpr completes)]
  unfold lockFromAcquisition acquiredLtb meanOf
  rcases unlocked with lock | lock
  · simp only [lock, run, if_true]
  · simp only [lock, run, reduceCtorEq, if_false]

/-- R7, R8, R19: timebase, selector and sessions behind the lock. -/
theorem acquired_line (t : Nat) {s : State} (unlocked : s.ltb.lock = .stopped ∨ s.ltb.lock = .lost) :
    let w := changeLock .locked .acquired
      { s with ltb := { acquiredLtb t (acquiredPos s) s.ltb with lock := s.ltb.lock } }
    w.ltb = acquiredLtb t (acquiredPos s) s.ltb
      ∧ w.sel = s.sel
      ∧ ∀ q, w.session q =
          told (acquiredPos s)
            (.timebase .locked s.ltb.lock .acquired s.sel.selected (acquiredLtb t (acquiredPos s) s.ltb).period)
            (s.session q) := by
  have unlockedYet : s.ltb.lock ≠ .locked := by rcases unlocked with lock | lock <;> rw [lock] <;> decide
  refine ⟨changeLock_ltb _ _ _, changeLock_sel _ _ _, fun q => ?_⟩
  exact changeLock_session_other _ _
    (s := { s with ltb := { acquiredLtb t (acquiredPos s) s.ltb with lock := s.ltb.lock } }) unlockedYet q

/-! ## O44 -/

/-- Settles O44: the edge completes the run and locks, or the run goes on. -/
theorem edgeInAcquisition : Obligations.EdgeInAcquisition := by
  unfold Obligations.EdgeInAcquisition
  intro r after s comes u l selected fixed unlocked short
  refine ⟨referenceEdge id r (edgeShown r u), exec_referenceEdge comes, ?_⟩
  clear_value u
  have unlockedThere : (edgeShown r u).ltb.lock = .stopped ∨ (edgeShown r u).ltb.lock = .lost := by
    rw [edgeShown_ltb]
    exact unlocked
  have shortThere : (edgeShown r u).ltb.acq.run.length < 8 := by
    rw [edgeShown_ltb]
    exact short
  have edge := timebaseEdge_acquires (edgeShown r u).now unlockedThere
  have run : acquisitionEdge u.now l.acq = _ := acquisitionEdge_eq u.now l.acq
  dsimp only
  by_cases completes : acquisitionGood u.now l.acq = true
      ∧ (l.acq.run ++ [acquisitionInterval u.now l.acq]).length = 8
  · have locks := acquire_locks (edgeShown r u).now unlockedThere shortThere
      (by rw [edgeShown_now, edgeShown_ltb]; exact completes)
    obtain ⟨lineLtb, lineSel, lineSession⟩ := acquired_line (edgeShown r u).now unlockedThere
    have keeps := timebaseEdge_keeps (edgeShown r u).now (edgeShown r u)
    have settled : (timebaseEdge (edgeShown r u).now (edgeShown r u)).1.sel.mode ≠ .auto := by
      rw [edge, locks, lineSel, edgeShown_sel]
      exact fixed
    obtain ⟨m, result⟩ := referenceEdge_selected (r := r) (by rw [edgeShown_sel, selected]) (.inr settled)
    have taken := edgeTaken (m := m) (timebaseEdge (edgeShown r u).now (edgeShown r u)).2 rfl keeps
    rw [← result, edge, locks] at taken
    have place : acquiredPos (edgeShown r u) = acquiredPos u := by
      unfold acquiredPos
      rw [edgeShown_ltb, edgeShown_sel]
    have forward : acquiredForward (edgeShown r u) = acquiredForward u := by
      unfold acquiredForward
      rw [edgeShown_ltb, edgeShown_sel]
    simp only [place, forward, edgeShown_ltb, edgeShown_sel, edgeShown_now, edgeShown_session, selected]
      at lineLtb lineSel lineSession taken
    generalize referenceEdge id r (edgeShown r u) = t at taken ⊢
    have tLtb : t.ltb = acquiredLtb u.now (acquiredPos u) u.ltb := taken.ltb.trans lineLtb
    have tPos : t.ltb.pos = acquiredPos u := by rw [tLtb]; rfl
    rw [if_pos (by exact completes)]
    refine ⟨taken.frame.eq, ?_, taken.sel.trans lineSel, ?_⟩
    · rw [tLtb, acquiredLtb, run]
      rfl
    · rw [tPos]
      by_cases stopped : u.ltb.lock = .stopped
      · obtain ⟨sched, chans, groups, stays⟩ := taken.still (if_pos stopped)
        rw [if_pos (by exact stopped)]
        exact ⟨if_pos stopped, sched, chans, groups, fun q => (stays q).trans (lineSession q)⟩
      · have nearest : acquiredPos u = nearestPosition u.sel.working u.ltb.pos := if_neg stopped
        obtain ⟨back, forth⟩ := nearestPosition_distance u.sel.working u.ltb.pos
        rw [if_neg (by exact stopped), nearest]
        refine ⟨nearestPosition_step _ _, back, forth, taken.moveOffered ?_ (nearest ▸ lineSession)⟩
        rw [lineLtb, acquiredForward, if_neg stopped, acquiredLtb, nearest]
  · have continues := acquire_continues (edgeShown r u).now shortThere
      (by rw [edgeShown_now, edgeShown_ltb]; exact completes)
    rw [if_neg (by exact completes)]
    refine (referenceEdge_confined selected (.inr fixed) (edge.trans continues)).trans ?_
    rw [edgeShown_now, edgeShown_ltb, run]
    rfl

end Sys2Proof.Machine
end

section
/-! O9, O46: the standing condition of R28. It reads the selector, the lock state and the monitors; the Line Timebase's and
the selector's own operations make the switch that it asks for, and the other blocks leave what it reads as it is. -/

namespace Sys2Proof.Machine

/-! ## When the standing condition holds -/

/-- R28: what the standing condition asks. -/
theorem standingCondition_iff (s : State) :
    standingCondition s = true ↔
      s.sel.mode = .auto ∧ s.ltb.lock ≠ .locked ∧ (s.monitor s.sel.selected).qualified = false
        ∧ (s.monitor (otherRef s.sel.selected)).qualified = true := by
  simp [standingCondition, and_assoc]

/-- R28: in LOCKED the selection stands. -/
theorem standing_of_locked {s : State} (locked : s.ltb.lock = .locked) : standingCondition s = false := by
  simp [standingCondition, locked]

/-- R28: in a fixed mode the selection stands. -/
theorem standing_of_fixed {s : State} (fixed : s.sel.mode ≠ .auto) : standingCondition s = false := by
  simp [standingCondition, fixed]

/-- R28: a QUALIFIED reference stays selected. -/
theorem standing_of_qualified {s : State} (steady : (s.monitor s.sel.selected).qualified = true) :
    standingCondition s = false := by
  simp [standingCondition, steady]

/-- The condition goes on as it was where mode, selection, lock state and monitors do. -/
theorem standing_congr {s t : State} (mode : t.sel.mode = s.sel.mode) (selected : t.sel.selected = s.sel.selected)
    (lock : t.ltb.lock = s.ltb.lock) (monitor : ∀ r, t.monitor r = s.monitor r) :
    standingCondition t = standingCondition s := by
  unfold standingCondition
  rw [mode, selected, lock, monitor, monitor]

theorem setLtb_standing {s : State} {l : Ltb} (lock : l.lock = s.ltb.lock) :
    standingCondition { s with ltb := l } = standingCondition s :=
  standing_congr rfl rfl lock fun _ => rfl

/-! ## Switches -/

/-- R28: after a switch to a QUALIFIED reference the standing condition is false. -/
theorem autoSwitch_standing {s : State} (steady : (s.monitor (otherRef s.sel.selected)).qualified = true) :
    standingCondition (autoSwitch s) = false := by
  refine standing_of_qualified ?_
  rw [(autoSwitch_keeps s).monitor, autoSwitch_sel]
  exact steady

/-- R28: a test leaves the standing condition false. -/
theorem testStanding_standing (s : State) : standingCondition (testStanding s) = false := by
  unfold testStanding
  split
  · next stands => exact autoSwitch_standing ((standingCondition_iff s).mp stands).2.2.2
  · next stands => exact Bool.eq_false_iff.mpr stands

/-! ## The Line Timebase -/

theorem enterLost_standing (s : State) : standingCondition (enterLost s) = false := testStanding_standing _

theorem crossForward_standing {s : State} (h : standingCondition s = false) :
    standingCondition (crossForward s) = false := by
  unfold crossForward
  dsimp only
  split
  · split
    · exact enterLost_standing _
    · exact h
  · exact h

theorem crossBackward_standing {s : State} (h : standingCondition s = false) :
    standingCondition (crossBackward s) = false := by
  unfold crossBackward
  split <;> exact h

/-- R28, first case: an entry to HOLDOVER by misses switches to a QUALIFIED reference, whatever the selected one's
monitor. -/
theorem missedSwitch_standing (s : State) :
    standingCondition (if missedSwitchDue s then autoSwitch s else s) = false := by
  split
  · next due => exact autoSwitch_standing (Bool.and_eq_true_iff.mp due).2
  · next undue =>
    refine Bool.eq_false_iff.mpr fun stands => undue ?_
    obtain ⟨auto, _, _, steady⟩ := (standingCondition_iff s).mp stands
    simp [missedSwitchDue, auto, steady]

theorem evaluateWindow_standing {s : State} (h : standingCondition s = false) :
    standingCondition (evaluateWindow s) = false := by
  unfold evaluateWindow
  dsimp only
  split
  · next locked =>
    split
    · exact standing_of_locked locked
    · split
      · exact missedSwitch_standing _
      · exact standing_of_locked locked
  · split
    · split
      · exact standing_of_locked (by simp)
      · exact h
    · exact h
  · exact h

theorem timebaseWork_standing {s : State} (h : standingCondition s = false) :
    standingCondition (timebaseWork s) = false := by
  have evaluated : standingCondition (if stepOf s.ltb.pos = evaluationPoint s.sel then evaluateWindow s else s) = false := by
    split
    · exact evaluateWindow_standing h
    · exact h
  unfold timebaseWork
  dsimp only
  split
  · exact crossForward_standing evaluated
  · exact evaluated

theorem acquire_standing (t : Nat) {s : State} (h : standingCondition s = false) :
    standingCondition (acquire t s).1 = false := by
  unfold acquire
  dsimp only
  split
  · exact h
  · split <;> exact standing_of_locked (by simp)

theorem periodUpdate_lock (t : Nat) (l : Ltb) : (periodUpdate t l).lock = l.lock := by
  unfold periodUpdate
  split <;> [split; skip] <;> rfl

theorem acceptEdge_standing (t : Nat) {s : State} (h : standingCondition s = false) :
    standingCondition (acceptEdge t s).1 = false := by
  have snapped : ∀ pos, standingCondition
      { s with ltb := { periodUpdate t s.ltb with accepted := true, pos := pos, acc := 0 } } = false := fun _ =>
    (setLtb_standing (periodUpdate_lock t s.ltb)).trans h
  unfold acceptEdge
  dsimp only
  split
  · exact snapped _
  · split
    · exact crossForward_standing (snapped _)
    · exact crossBackward_standing (snapped _)

theorem timebaseEdge_standing (t : Nat) {s : State} (h : standingCondition s = false) :
    standingCondition (timebaseEdge t s).1 = false := by
  unfold timebaseEdge
  split
  · exact acquire_standing t h
  · exact acquire_standing t h
  · split
    · exact acceptEdge_standing t h
    · exact h

theorem silenceLimitExpiry_standing (r : RefId) {s : State} (h : standingCondition s = false) :
    standingCondition (silenceLimitExpiry r s) = false := by
  unfold silenceLimitExpiry
  split
  · exact testStanding_standing _
  · exact h

/-! ## SET DEVICE -/

/-- R32: a change of the selection leaves the mode. -/
theorem changeSelection_mode (r : RefId) (s : State) : (changeSelection r s).sel.mode = s.sel.mode := by
  unfold changeSelection
  dsimp only
  split
  · rw [enterHoldover_sel]; rfl
  · rfl
  · rfl
  · rfl

/-- R31, R32, R34: the selection that a mode implies, and the offset loaded. -/
def selectionMade (mode : RefMode) (s : State) : State :=
  if selectionOf mode s.sel.selected ≠ s.sel.selected then changeSelection (selectionOf mode s.sel.selected) s
  else if s.ltb.lock = .stopped ∨ s.ltb.lock = .lost then loadOffset s
  else s

theorem setSelector_eq (mode : RefMode) (oa ob : LineStep) (s : State) :
    setSelector mode oa ob s =
      if mode = .auto ∧ s.sel.mode ≠ .auto then
        testStanding
          (selectionMade mode { s with sel := { s.sel with mode := mode, offsetA := oa, offsetB := ob } })
      else selectionMade mode { s with sel := { s.sel with mode := mode, offsetA := oa, offsetB := ob } } := rfl

theorem selectionMade_mode (mode : RefMode) (s : State) : (selectionMade mode s).sel.mode = s.sel.mode := by
  unfold selectionMade
  split
  · exact changeSelection_mode _ s
  · split <;> rfl

/-- R31: AUTO keeps the selection. -/
theorem selectionMade_auto (s : State) : standingCondition (selectionMade .auto s) = standingCondition s := by
  unfold selectionMade
  split
  · next changes => exact absurd rfl changes
  · split <;> rfl

/-- R33: entering AUTO the condition is tested; staying in AUTO nothing that it reads changes. -/
theorem setSelector_standing (mode : RefMode) (oa ob : LineStep) {s : State} (h : standingCondition s = false) :
    standingCondition (setSelector mode oa ob s) = false := by
  rw [setSelector_eq]
  split
  · exact testStanding_standing _
  · next stays =>
    by_cases auto : mode = .auto
    · have was : s.sel.mode = .auto := not_not.mp fun old => stays ⟨auto, old⟩
      subst auto
      exact (selectionMade_auto _).trans (Eq.trans (standing_congr was.symm rfl rfl fun _ => rfl) h)
    · refine standing_of_fixed ?_
      rw [selectionMade_mode]
      exact auto

theorem setDevice_standing (d : DeviceSettings) {s : State} (h : standingCondition s = false) :
    standingCondition (setDevice d s) = false := by
  rw [setDevice_eq]
  exact setSelector_standing _ _ _ h

/-! ## The other blocks leave the condition as it is -/

theorem WorkKeeps.standing {s t : State} (k : WorkKeeps s t) : standingCondition t = standingCondition s := by
  refine standing_congr (by rw [k.sel]) (by rw [k.sel]) (by rw [k.ltb]) fun r => ?_
  cases r with
  | a => exact k.monA
  | b => exact k.monB

theorem setSession_standing (p : Port) (x : Session) (s : State) :
    standingCondition (s.setSession p x) = standingCondition s := rfl

theorem setFront_standing (p : Port) (x : FrontEnd) (s : State) :
    standingCondition (s.setFront p x) = standingCondition s := rfl

theorem supplyRecord_standing (low : Bool) (shed : List Chan) (s : State) :
    standingCondition (supplyRecord low shed s) = standingCondition s := rfl

theorem foldl_standing {α : Type} {f : State → α → State}
    (turn : ∀ s x, standingCondition (f s x) = standingCondition s) (l : List α) (s : State) :
    standingCondition (l.foldl f s) = standingCondition s :=
  foldl_rel (fun a b => standingCondition b = standingCondition a) (fun _ => rfl) (fun _ _ _ h k => k.trans h) f turn l s

theorem work_standing (tasks : List Task) (s : State) : standingCondition (work tasks s) = standingCondition s :=
  (work_keeps tasks s).standing

theorem enterFault_standing (c : Chan) (cause : FaultCause) (s : State) :
    standingCondition (enterFault c cause s) = standingCondition s := (enterFault_keeps c cause s).standing

theorem inFreeOrder_standing {α : Type} (l : List α) (s : State) :
    standingCondition (s.inFreeOrder l).2 = standingCondition s := by
  obtain ⟨k, e⟩ := State.inFreeOrder_state l s
  rw [e]
  rfl

theorem offerPosition_standing (s : State) : standingCondition (offerPosition s) = standingCondition s := by
  obtain ⟨k, h⟩ := offerPosition_keeps s
  exact h.standing

theorem confirm_standing (c : Chan) (state : ChanState) (s : State) :
    standingCondition (confirm c state s) = standingCondition s := work_standing _ _

theorem feedbackActs_standing (c : Chan) (closed : Bool) (s : State) :
    standingCondition (feedbackActs c closed s) = standingCondition s := by
  unfold feedbackActs
  dsimp only
  split
  · split <;> [exact confirm_standing _ _ _; rfl]
  · split <;> [rfl; exact confirm_standing _ _ _]
  · split <;> [exact enterFault_standing _ _ _; rfl]
  · split <;> [exact enterFault_standing _ _ _; rfl]
  · exact (updateOccupancy_keeps c s).standing

theorem feedbackChange_standing (c : Chan) (closed : Bool) (s : State) :
    standingCondition (feedbackChange c closed s) = standingCondition s := by
  unfold feedbackChange
  split
  · rfl
  · exact feedbackActs_standing _ _ _

theorem verifyExpiry_standing (c : Chan) (s : State) : standingCondition (verifyExpiry c s) = standingCondition s := by
  unfold verifyExpiry
  split
  · exact enterFault_standing _ _ _
  · exact enterFault_standing _ _ _
  · rfl

theorem drainCompletion_standing (c : Chan) (s : State) :
    standingCondition (drainCompletion c s) = standingCondition s := by
  unfold drainCompletion
  split
  · exact work_standing _ _
  · rfl

theorem supplyEntry_standing (s : State) : standingCondition (supplyEntry s) = standingCondition s := by
  unfold supplyEntry
  dsimp only
  split
  · rfl
  · refine (supplyRecord_standing _ _ _).trans (Eq.trans (foldl_standing ?_ _ _) rfl)
    exact fun s c => (overrideWork_keeps c s).standing

theorem supplyLeaving_standing (s : State) : standingCondition (supplyLeaving s) = standingCondition s := by
  unfold supplyLeaving
  split <;> rfl

theorem reportEdge_standing (i : CapInput) (d : EdgeDir) (s : State) (p : Port) :
    standingCondition (reportEdge i d s p) = standingCondition s := by
  unfold reportEdge
  split
  · rfl
  · split
    · exact (handTo_keeps p _ _ s).standing
    · rfl

theorem offerTrigger_standing (i : CapInput) (d : EdgeDir) (pos : Pos) (s : State) :
    standingCondition (offerTrigger i d pos s) = standingCondition s :=
  foldl_standing (f := fun s e => triggerEntry pos e s) (fun _ _ => rfl) _ _

theorem distributeEdge_standing (i : CapInput) (d : EdgeDir) (s : State) :
    standingCondition (distributeEdge i d s) = standingCondition s :=
  (offerTrigger_standing i d _ _).trans (foldl_standing (reportEdge_standing i d) allPorts s)

theorem disarmPort_standing (p : Port) (s : State) : standingCondition (disarmPort p s) = standingCondition s :=
  foldl_standing (f := fun s i => s.setArm p i .idle) (fun _ _ => rfl) allInputs s

theorem sessionEnd_standing (p : Port) (cause : EndCause) (s : State) :
    standingCondition (sessionEnd p cause s) = standingCondition s :=
  (setSession_standing p _ _).trans ((disarmPort_standing p _).trans
    ((removeWhere_keeps _ s).trans (releaseForSessionEnd_keeps p _)).standing)

theorem keepaliveExpiry_standing (p : Port) (s : State) :
    standingCondition (keepaliveExpiry p s) = standingCondition s := by
  unfold keepaliveExpiry
  split
  · exact sessionEnd_standing _ _ _
  · rfl

theorem moveGroup_standing (c : Chan) (new : Option GroupId) (s : State) :
    standingCondition (moveGroup c new s) = standingCondition s := by
  unfold moveGroup
  dsimp only
  split
  · rfl
  · split
    · split <;> rfl
    · rfl

theorem changeFeedbackMode_standing (c : Chan) (was : Bool) (s : State) :
    standingCondition (changeFeedbackMode c was s) = standingCondition s := by
  unfold changeFeedbackMode
  dsimp only
  split
  · split <;> [exact enterFault_standing _ _ _; rfl]
  · split <;> [rfl; exact enterFault_standing _ _ _]
  · exact work_standing _ _
  · exact work_standing _ _
  · rfl

theorem configure_standing (c : Chan) (cfg : ChanConfig) (s : State) :
    standingCondition (configure c cfg s) = standingCondition s :=
  (changeFeedbackMode_standing _ _ _).trans (moveGroup_standing _ _ _)

/-! ## Requests -/

/-- R28, R33: no request but SET DEVICE touches what the condition reads, and SET DEVICE tests it. -/
theorem act_standing (p : Port) (r : Request) {s : State} (h : standingCondition s = false) :
    standingCondition (act p r s).state = false := by
  cases r with
  | nop | readStatus | readDevice => exact h
  | attach keepalive subs =>
    unfold act serveAttach
    dsimp only [accept]
    split
    · exact h
    · split <;> exact h
  | detach =>
    unfold act serveDetach
    dsimp only [accept]
    split
    · exact h
    · exact (sessionEnd_standing p _ s).trans h
  | resetPort =>
    unfold act serveResetPort
    dsimp only [accept]
    split
    · exact (setFront_standing p _ _).trans ((sessionEnd_standing p _ s).trans h)
    · exact h
  | clearNotices notices =>
    unfold act serveClearNotices
    dsimp only
    split <;> exact h
  | setDevice a =>
    unfold act serveSetDevice
    dsimp only
    split
    · exact h
    · split
      · exact h
      · exact setDevice_standing _ h
  | claim chans =>
    unfold act serveClaim
    dsimp only
    split
    · exact h
    · split
      · exact h
      · exact (claimChans_keeps p _ s).standing.trans h
  | release chans mode =>
    unfold act serveRelease
    dsimp only
    split
    · split
      · exact (releaseChans_keeps _ _ s).standing.trans h
      · exact h
    · exact h
  | setChannel a =>
    unfold act serveSetChannel
    dsimp only
    split
    · split
      · exact h
      · exact (configure_standing _ _ s).trans h
    · exact h
  | readChannel c =>
    unfold act serveReadChannel
    dsimp only
    split <;> exact h
  | clearFault c =>
    unfold act serveClearFault
    dsimp only
    split
    · exact h
    · split
      · exact h
      · exact (work_standing _ _).trans h
  | schedule a =>
    unfold act serveSchedule
    dsimp only
    split
    · exact h
    · split
      · exact h
      · unfold admitEntry
        dsimp only
        split <;> exact h
  | cancel form tag channel =>
    unfold act serveCancel
    dsimp only
    split
    · exact h
    · split
      · exact h
      · exact (work_standing _ _).trans ((inFreeOrder_standing _ s).trans h)
  | readSchedule start =>
    unfold act serveReadSchedule
    dsimp only
    split <;> exact h
  | armCapture input edge count =>
    unfold act serveArmCapture
    dsimp only
    split <;> exact h
  | disarmCapture input =>
    unfold act serveDisarmCapture
    dsimp only
    split <;> exact h
  | takeEvents count =>
    unfold act serveTakeEvents
    dsimp only
    split <;> exact h
  | ackEvents number =>
    unfold act serveAckEvents
    dsimp only
    split <;> exact h

theorem restartKeepalive_standing (p : Port) (s : State) :
    standingCondition (restartKeepalive p s) = standingCondition s := by
  rw [restartKeepalive_frame]
  rfl

theorem replyTo_standing (p : Port) (b : Received) {s : State} (h : standingCondition s = false) :
    standingCondition (replyTo p b s).state = false := by
  have restarted := (restartKeepalive_standing p s).trans h
  cases b with
  | checkError => exact h
  | badRequest => exact restarted
  | good r =>
    unfold replyTo serve
    dsimp only
    split
    · exact act_standing p r restarted
    · exact restarted

/-! ## O9 -/

/-- Every part of a step that makes the standing condition true makes the switch. -/
theorem standing_keptByParts : KeptByParts fun s => standingCondition s = false where
  draws _ _ h := h
  clock _ _ _ h := h
  inputs _ _ _ _ _ _ h := h
  ports _ _ _ _ _ _ _ _ _ h := h
  feedbackRun _ _ _ h := h
  supplyRun _ _ h := h
  accumulator s h := (setLtb_standing (countLtb_lock s.ltb)).trans h
  work _ h := timebaseWork_standing h
  offer s h := (offerPosition_standing s).trans h
  edge t _ h := timebaseEdge_standing t h
  monitor _ _ _ := testStanding_standing _
  silence r _ h := silenceLimitExpiry_standing r h
  capture i d s h := (distributeEdge_standing i d s).trans h
  feedback c closed s h := (feedbackChange_standing c closed s).trans h
  verify c s h := (verifyExpiry_standing c s).trans h
  supplyLow s h := (supplyEntry_standing s).trans h
  supplyHigh s h := (supplyLeaving_standing s).trans h
  keepalive p s h := (keepaliveExpiry_standing p s).trans h
  examine c s h := (work_standing [.examine c] s).trans h
  drain c s h := (drainCompletion_standing c s).trans h
  reply p b _ h := replyTo_standing p b h
  blocks _ _ _ _ _ _ _ := rfl

/-- Settles O9: the condition is kept false by every part of a step, so by the step. -/
theorem standingConditionStaysFalse : Obligations.StandingConditionStaysFalse := by
  unfold Obligations.StandingConditionStaysFalse
  intro s t h e
  exact standing_keptByParts.step h e

/-! ## O46 -/

theorem silenceLimitExpiry_stopped {r : RefId} {s : State} (none : (s.monitor r).lastEdge = none) :
    silenceLimitExpiry r s = s := by
  unfold silenceLimitExpiry
  rw [none]

/-- R24, R28: the record is cleared, and the standing condition tested. -/
theorem silenceLimitExpiry_running {r : RefId} {s : State} (runs : (s.monitor r).lastEdge ≠ none) :
    silenceLimitExpiry r s = testStanding (s.setMonitor r Monitor.reset) := by
  obtain ⟨last, e⟩ := Option.ne_none_iff_exists'.mp runs
  unfold silenceLimitExpiry silenceExpiry
  rw [e]

theorem otherRef_of_ne {r q : RefId} : q ≠ r → q = otherRef r := by
  cases q <;> cases r <;> decide

theorem setMonitor_frame (r : RefId) (m : Monitor) (s : State) :
    s.setMonitor r m = { s with monA := (s.setMonitor r m).monA, monB := (s.setMonitor r m).monB } := by
  cases r <;> rfl

/-- What the timebase's work makes of a state with one monitor written. -/
theorem TimebaseKeeps.setMonitor_eq {r : RefId} {m : Monitor} {s t : State} (k : TimebaseKeeps (s.setMonitor r m) t) :
    t = { s with monA := t.monA, monB := t.monB, ltb := t.ltb, sel := t.sel, sessions := t.sessions } := by
  obtain ⟨e, _⟩ := k
  cases s
  cases t
  cases r <;> simp_all [State.beside, State.setMonitor]

/-- R24, R28: a cleared record asks for a switch only from the selected reference to a QUALIFIED one. -/
theorem standing_setMonitor_reset (r : RefId) (s : State) :
    standingCondition (s.setMonitor r Monitor.reset) = true ↔
      s.sel.mode = .auto ∧ s.ltb.lock ≠ .locked ∧ s.sel.selected = r
        ∧ (s.monitor (otherRef r)).qualified = true := by
  rw [standingCondition_iff, State.setMonitor_sel, State.setMonitor_ltb]
  by_cases selected : s.sel.selected = r
  · rw [selected, State.setMonitor_monitor_same, State.setMonitor_monitor_other]
    simp [Monitor.reset]
  · have back : otherRef (otherRef r) = r := by cases r <;> rfl
    rw [otherRef_of_ne selected, back, State.setMonitor_monitor_same]
    simp [Monitor.reset, otherRef_of_ne selected ▸ selected]

/-- R29: what a switch out of LOCKED makes of the timebase. -/
theorem switchedLtb_unlocked {l : Ltb} (unlocked : l.lock ≠ .locked) :
    switchedLtb l =
      if l.lock = .holdover then { l with accepted := false, rejected := 0, baseValid := false, relockCount := 0 }
      else { l with acq := Acquisition.none } := by
  unfold switchedLtb clearWindow
  cases lock : l.lock with
  | locked => exact absurd lock unlocked
  | holdover | lost | stopped => rfl

/-- Settles O46: the record cleared, and the switch of R29 and R30 where the cleared record asks for it. -/
theorem silenceLimitExpires : Obligations.SilenceLimitExpires := by
  unfold Obligations.SilenceLimitExpires
  intro r s running _
  have expires : exec (.monitorSilenceLimitExpiry r) s = .next (silenceLimitExpiry r s) :=
    congrArg Host.Outcome.next (State.whileRunning_running running _)
  rw [expires]
  refine ⟨fun none => by rw [silenceLimitExpiry_stopped none], fun runs => ⟨_, rfl, ?_⟩⟩
  rw [silenceLimitExpiry_running runs]
  have cleared := setMonitor_frame r Monitor.reset s
  have frame := (testStanding_keeps (s.setMonitor r Monitor.reset)).setMonitor_eq
  have asks := standing_setMonitor_reset r s
  have own := State.setMonitor_monitor_same s r Monitor.reset
  have other := State.setMonitor_monitor_other s r Monitor.reset
  generalize s.setMonitor r Monitor.reset = v at cleared frame asks own other
  have kept := testStanding_keeps v
  refine ⟨(kept.monitor r).trans own, (kept.monitor _).trans other, ?_⟩
  have ltb : v.ltb = s.ltb := by rw [cleared]
  have sel : v.sel = s.sel := by rw [cleared]
  have session : ∀ q, v.session q = s.session q := fun q => by rw [cleared]; rfl
  unfold testStanding at frame ⊢
  by_cases stands : standingCondition v = true
  · obtain ⟨_, unlocked, selected, _⟩ := asks.mp stands
    rw [if_pos stands] at frame ⊢
    rw [if_pos (asks.mp stands)]
    refine ⟨frame, ?_, ?_, fun q => ?_⟩
    · rw [autoSwitch_sel, sel, selected]
    · rw [autoSwitch_ltb, ltb]
      exact switchedLtb_unlocked unlocked
    · rw [autoSwitch_session, ltb, sel, selected, session]
      rfl
  · rw [if_neg stands, if_neg fun asked => stands (asks.mpr asked)]
    exact cleared

end Sys2Proof.Machine
end

section
/-! What the entry store, the claims and the held opens keep. The work moves entries between the collections, and to the
channels as held opens and back, but never under another tag, owner or channel. The invariants of O5, O7 and O8 are said of
these keys, and each kind of move is shown to keep them. -/

namespace Sys2Proof.Machine

/-! ## What an entry keeps all its life (R36, R37) -/

/-- What no issue, reinsertion or release changes of an entry. -/
structure EntryKey where
  tag : Tag
  owner : Port
  chan : Option Chan
deriving DecidableEq

def Entry.key (e : Entry) : EntryKey := { tag := e.tag, owner := e.owner, chan := chanOf e.action }

/-- The keys of the live entries, PENDING and WAITING. -/
def liveKeys (d : Schedule) : List EntryKey := d.pending.map (·.entry.key) ++ d.waiting.map Entry.key

/-- The keys of the DEFERRED entries. -/
def deferredKeys (d : Schedule) : List EntryKey := d.deferred.map (·.entry.key)

/-- The keys of all entries. -/
def storeKeys (d : Schedule) : List EntryKey := liveKeys d ++ deferredKeys d

theorem allEntries_keys (d : Schedule) : (allEntries d).map Entry.key = storeKeys d := by
  simp [allEntries, storeKeys, liveKeys, deferredKeys, Function.comp_def]

theorem ownCount_keys (d : Schedule) (p : Port) : ownCount d p = (storeKeys d).countP fun k => decide (k.owner = p) := by
  rw [← allEntries_keys, List.countP_map]
  rfl

theorem entry_names_key (c : Chan) (e : Entry) : e.names c = decide (e.key.chan = some c) := rfl

theorem namesChannel_keys (s : State) (c : Chan) :
    s.namesChannel c = false ↔ ∀ k ∈ storeKeys s.sched, k.chan ≠ some c := by
  rw [← allEntries_keys]
  simp [State.namesChannel, entry_names_key]

theorem liveTags_keys (s : State) : liveTags s = (liveKeys s.sched).map EntryKey.tag := by
  simp [liveTags, liveKeys, Entry.key, Function.comp_def]

theorem allTags_keys (d : Schedule) : (allEntries d).map (·.tag) = (storeKeys d).map EntryKey.tag := by
  rw [← allEntries_keys, List.map_map]
  rfl

/-! ## The invariants, said of keys -/

/-- R73: a channel in FAULT owes no open. -/
def FaultOwesNone (s : State) : Prop := ∀ c, inFault (s.chan c).state = true → (s.chan c).pendingOpen = none

/-- Entries and pending opens stay with the holders of their channels, and a channel in FAULT owes no open. -/
structure OwnedOk (s : State) : Prop where
  ownership : OwnershipOk s
  fault : FaultOwesNone s

theorem OwnedOk.of_switching {s : State} (switching : SwitchingOk s) (ownership : OwnershipOk s) : OwnedOk s :=
  ⟨ownership, fun c => (switching.1 c).fault⟩

theorem OwnershipOk.key_holder {s : State} (h : OwnershipOk s) {k : EntryKey} (hk : k ∈ storeKeys s.sched) {c : Chan}
    (names : k.chan = some c) : ownerOf (s.chan c).claim = some k.owner := by
  rw [← allEntries_keys] at hk
  obtain ⟨e, he, rfl⟩ := List.mem_map.mp hk
  exact h.entries e he c names

theorem OwnershipOk.key_owner {s : State} (h : OwnershipOk s) {k : EntryKey} (hk : k ∈ storeKeys s.sched) {p : Port}
    (detached : (s.session p).attached = false) : k.owner ≠ p := by
  rw [← allEntries_keys] at hk
  obtain ⟨e, he, rfl⟩ := List.mem_map.mp hk
  exact h.store p detached e he

theorem mem_storeKeys {d : Schedule} {e : Entry} (he : e ∈ allEntries d) : e.key ∈ storeKeys d :=
  allEntries_keys d ▸ List.mem_map_of_mem he

theorem TagsOk.deferred_key {s : State} (h : TagsOk s) {k : EntryKey} (hk : k ∈ deferredKeys s.sched) :
    ∃ c, k.chan = some c ∧ heldTag (s.chan c).pendingOpen = some k.tag := by
  obtain ⟨x, hx, rfl⟩ := List.mem_map.mp hk
  exact h.deferred x hx

/-- The invariant of R37 from what it says of keys. -/
theorem TagsOk.of_keys {s : State} (live : ((liveKeys s.sched).map EntryKey.tag ++ heldTags s).Nodup)
    (all : ((storeKeys s.sched).map EntryKey.tag).Nodup)
    (deferred : ∀ k ∈ deferredKeys s.sched, ∃ c, k.chan = some c ∧ heldTag (s.chan c).pendingOpen = some k.tag)
    (nonzero : ∀ k ∈ storeKeys s.sched, k.tag ≠ 0) : TagsOk s where
  live := liveTags_keys s ▸ live
  entries := allTags_keys s.sched ▸ all
  deferred _ hx := deferred _ (List.mem_map_of_mem (f := fun x : DeferredEntry => x.entry.key) hx)
  nonzero _ he := nonzero _ (mem_storeKeys he)

theorem TagsOk.live_keys {s : State} (h : TagsOk s) : ((liveKeys s.sched).map EntryKey.tag ++ heldTags s).Nodup :=
  liveTags_keys s ▸ h.live

theorem TagsOk.store_keys {s : State} (h : TagsOk s) : ((storeKeys s.sched).map EntryKey.tag).Nodup :=
  allTags_keys s.sched ▸ h.entries

theorem TagsOk.nonzero_key {s : State} (h : TagsOk s) {k : EntryKey} (hk : k ∈ storeKeys s.sched) : k.tag ≠ 0 := by
  rw [← allEntries_keys] at hk
  obtain ⟨e, he, rfl⟩ := List.mem_map.mp hk
  exact h.nonzero e he

/-! ## The tags of held opens -/

theorem heldTags_congr {s t : State} (h : ∀ c, heldTag (t.chan c).pendingOpen = heldTag (s.chan c).pendingOpen) :
    heldTags t = heldTags s := by
  unfold heldTags
  exact congrArg (List.filterMap · allChans) (funext h)

/-- The channels with one of them in front. -/
theorem allChans_perm (c : Chan) : allChans.Perm (c :: allChans.erase c) := List.perm_cons_erase (mem_allChans c)

/-- A held open that leaves its channel takes its tag from the tags in use; read the other way, one that comes brings it. -/
theorem heldTags_perm {s t : State} {c : Chan} {tag : Tag} (held : heldTag (s.chan c).pendingOpen = some tag)
    (none : heldTag (t.chan c).pendingOpen = none)
    (others : ∀ d, d ≠ c → heldTag (t.chan d).pendingOpen = heldTag (s.chan d).pendingOpen) :
    (heldTags s).Perm (tag :: heldTags t) := by
  have rest : (allChans.erase c).filterMap (fun d => heldTag (t.chan d).pendingOpen) =
      (allChans.erase c).filterMap (fun d => heldTag (s.chan d).pendingOpen) := by
    refine List.filterMap_congr fun d hd => others d ?_
    rintro rfl
    exact (List.Nodup.not_mem_erase (by decide)) hd
  have before := (allChans_perm c).filterMap fun d => heldTag (s.chan d).pendingOpen
  have after := (allChans_perm c).filterMap fun d => heldTag (t.chan d).pendingOpen
  rw [List.filterMap_cons_some (f := fun d => heldTag (s.chan d).pendingOpen) held, ← rest] at before
  rw [List.filterMap_cons_none (f := fun d => heldTag (t.chan d).pendingOpen) none] at after
  exact before.trans (after.symm.cons tag)

theorem mem_heldTags {s : State} {c : Chan} {tag : Tag} (held : heldTag (s.chan c).pendingOpen = some tag) :
    tag ∈ heldTags s := List.mem_filterMap.mpr ⟨c, mem_allChans c, held⟩

theorem subperm_map {α β : Type} (f : α → β) {l l' : List α} (h : List.Subperm l' l) :
    List.Subperm (l'.map f) (l.map f) := by
  obtain ⟨m, perm, sub⟩ := h
  exact ⟨m.map f, perm.map f, sub.map f⟩

theorem nodup_of_subperm {α : Type} {l l' : List α} (h : List.Subperm l' l) (nodup : l.Nodup) : l'.Nodup := by
  obtain ⟨m, perm, sub⟩ := h
  exact perm.nodup_iff.mp (nodup.sublist sub)

/-! ## What a part of a step keeps -/

/-- What a part of a step keeps of the store: no port comes to hold more entries, and the invariants of ownership and tags
stay. -/
structure StoreSound (s t : State) : Prop where
  counts : ∀ p, ownCount t.sched p ≤ ownCount s.sched p
  owned : OwnedOk s → OwnedOk t
  tags : OwnedOk s → TagsOk s → TagsOk t

/-- Nor does a port come to hold another channel. -/
structure StoreKeeps (s t : State) : Prop extends StoreSound s t where
  holders : ∀ p c, t.holds p c = true → s.holds p c = true

namespace StoreSound

theorem refl (s : State) : StoreSound s s := ⟨fun _ => Nat.le_refl _, id, fun _ h => h⟩

theorem trans {a b c : State} (h : StoreSound a b) (k : StoreSound b c) : StoreSound a c :=
  ⟨fun p => (k.counts p).trans (h.counts p), fun o => k.owned (h.owned o), fun o g => k.tags (h.owned o) (h.tags o g)⟩

end StoreSound

namespace StoreKeeps

theorem refl (s : State) : StoreKeeps s s := ⟨.refl s, fun _ _ h => h⟩

theorem trans {a b c : State} (h : StoreKeeps a b) (k : StoreKeeps b c) : StoreKeeps a c :=
  ⟨h.toStoreSound.trans k.toStoreSound, fun p d held => h.holders p d (k.holders p d held)⟩

theorem foldl {α : Type} {f : State → α → State} (turn : ∀ s x, StoreKeeps s (f s x)) (l : List α) (s : State) :
    StoreKeeps s (l.foldl f s) :=
  foldl_rel StoreKeeps refl (fun _ _ _ => trans) f turn l s

end StoreKeeps

/-- What the invariants read besides store and channels: who is attached, and the arm records. -/
structure PortsKept (s t : State) : Prop where
  attached : ∀ p, (t.session p).attached = (s.session p).attached
  arms : ∀ p i, t.arm p i = s.arm p i

theorem PortsKept.refl (s : State) : PortsKept s s := ⟨fun _ => rfl, fun _ _ => rfl⟩

theorem WorkKeeps.ports {s t : State} (k : WorkKeeps s t) : PortsKept s t :=
  ⟨fun p => (k.sessions p).keeps.1, fun p i => k.arm p i⟩

theorem holds_congr {s t : State} {p : Port} {c : Chan} (h : ownerOf (t.chan c).claim = ownerOf (s.chan c).claim) :
    t.holds p c = s.holds p c := by
  unfold State.holds
  rw [h]

/-- Entries that come from entries, on channels whose holders stand. -/
theorem OwnershipOk.of_keys {s t : State} (h : OwnershipOk s) (ports : PortsKept s t)
    (keys : ∀ k ∈ storeKeys t.sched, k ∈ storeKeys s.sched)
    (owners : ∀ c, (∃ k ∈ storeKeys t.sched, k.chan = some c) → ownerOf (t.chan c).claim = ownerOf (s.chan c).claim)
    (holders : ∀ p c, t.holds p c = true → s.holds p c = true)
    (owes : ∀ c, (t.chan c).claim = .free → (t.chan c).pendingOpen = none) : OwnershipOk t where
  entries e he c names := by
    have key := mem_storeKeys he
    rw [owners c ⟨e.key, key, names⟩]
    exact h.key_holder (keys _ key) names
  pendingOpens := owes
  claims p detached c := by
    have := h.claims p (ports.attached p ▸ detached) c
    cases holding : t.holds p c with
    | false => rfl
    | true => rw [holders p c holding] at this; cases this
  store p detached e he := h.key_owner (keys _ (mem_storeKeys he)) (ports.attached p ▸ detached)
  arms p detached i := (ports.arms p i).trans (h.arms p (ports.attached p ▸ detached) i)

theorem storeKeys_subperm {d d' : Schedule} (live : List.Subperm (liveKeys d') (liveKeys d))
    (deferred : List.Subperm (deferredKeys d') (deferredKeys d)) : List.Subperm (storeKeys d') (storeKeys d) :=
  live.append deferred

/-- Entries leave or move, on channels whose holders and held opens stand. -/
theorem StoreKeeps.of_moves {s t : State} (ports : PortsKept s t)
    (live : List.Subperm (liveKeys t.sched) (liveKeys s.sched))
    (deferred : List.Subperm (deferredKeys t.sched) (deferredKeys s.sched))
    (owner : ∀ c, ownerOf (t.chan c).claim = ownerOf (s.chan c).claim)
    (held : ∀ c, heldTag (t.chan c).pendingOpen = heldTag (s.chan c).pendingOpen)
    (owes : OwnedOk s → ∀ c, (t.chan c).claim = .free ∨ inFault (t.chan c).state = true →
      (t.chan c).pendingOpen = none) : StoreKeeps s t := by
  have all := storeKeys_subperm live deferred
  have holders : ∀ p c, t.holds p c = true → s.holds p c = true := fun p c => by rw [holds_congr (owner c)]; exact id
  refine ⟨⟨fun p => ?_, fun h => ⟨?_, fun c fault => owes h c (.inr fault)⟩, fun _ h => ?_⟩, holders⟩
  · rw [ownCount_keys, ownCount_keys]
    exact all.countP_le _
  · exact h.ownership.of_keys ports (fun k hk => all.subset hk) (fun c _ => owner c) holders
      fun c free => owes h c (.inl free)
  · refine .of_keys ?_ (nodup_of_subperm (subperm_map _ all) h.store_keys) (fun k hk => ?_) fun k hk =>
      h.nonzero_key (all.subset hk)
    · rw [heldTags_congr held]
      exact nodup_of_subperm ((subperm_map _ live).append (List.Subperm.refl _)) h.live_keys
    · obtain ⟨c, names, tag⟩ := h.deferred_key (deferred.subset hk)
      exact ⟨c, names, (held c).trans tag⟩

/-- What the invariants read of a channel record. -/
structure ChanKeeps (ch ch' : Channel) : Prop where
  claim : ch'.claim = ch.claim
  pendingOpen : ch'.pendingOpen = ch.pendingOpen
  fault : inFault ch'.state = true → inFault ch.state = true

namespace ChanKeeps

theorem refl (ch : Channel) : ChanKeeps ch ch := ⟨rfl, rfl, id⟩

theorem of_eq {ch ch' : Channel} (h : ch' = ch) : ChanKeeps ch ch' := h ▸ refl ch'

theorem trans {a b c : Channel} (h : ChanKeeps a b) (k : ChanKeeps b c) : ChanKeeps a c :=
  ⟨k.claim.trans h.claim, k.pendingOpen.trans h.pendingOpen, fun f => h.fault (k.fault f)⟩

/-- What is owed by nobody and in FAULT stays so. -/
theorem owes {s t : State} {c : Chan} (k : ChanKeeps (s.chan c) (t.chan c)) (h : OwnedOk s)
    (ends : (t.chan c).claim = .free ∨ inFault (t.chan c).state = true) : (t.chan c).pendingOpen = none := by
  rw [k.pendingOpen]
  rcases ends with free | fault
  · exact h.ownership.pendingOpens c (k.claim ▸ free)
  · exact h.fault c (k.fault fault)

end ChanKeeps

/-- Entries leave or move, and channels keep what the invariants read. -/
theorem StoreKeeps.of_keys {s t : State} (ports : PortsKept s t)
    (live : List.Subperm (liveKeys t.sched) (liveKeys s.sched))
    (deferred : List.Subperm (deferredKeys t.sched) (deferredKeys s.sched))
    (chans : ∀ c, ChanKeeps (s.chan c) (t.chan c)) : StoreKeeps s t :=
  .of_moves ports live deferred (fun c => by rw [(chans c).claim]) (fun c => by rw [(chans c).pendingOpen])
    fun h c => (chans c).owes h

/-- The store and what the invariants read of the channels stand, in a piece of work. -/
structure StoreStands (s t : State) : Prop where
  keeps : WorkKeeps s t
  sched : t.sched = s.sched
  chans : ∀ c, ChanKeeps (s.chan c) (t.chan c)

namespace StoreStands

theorem refl (s : State) : StoreStands s s := ⟨.refl s, rfl, fun _ => .refl _⟩

theorem trans {a b c : State} (h : StoreStands a b) (k : StoreStands b c) : StoreStands a c :=
  ⟨h.keeps.trans k.keeps, k.sched.trans h.sched, fun d => (h.chans d).trans (k.chans d)⟩

theorem store {s t : State} (h : StoreStands s t) : StoreKeeps s t :=
  .of_keys h.keeps.ports (h.sched ▸ List.Subperm.refl _) (h.sched ▸ List.Subperm.refl _) h.chans

end StoreStands

/-- Store and channels stand. -/
theorem StoreKeeps.of_ports {s t : State} (ports : PortsKept s t) (sched : t.sched = s.sched)
    (chan : ∀ c, t.chan c = s.chan c) : StoreKeeps s t :=
  .of_keys ports (sched ▸ List.Subperm.refl _) (sched ▸ List.Subperm.refl _) fun c => .of_eq (chan c)

/-! ## The channel commands -/

theorem setChan_chans {s : State} {c : Chan} {x : Channel} (h : ChanKeeps (s.chan c) x) (d : Chan) :
    ChanKeeps (s.chan d) ((s.setChan c x).chan d) := by
  rw [State.setChan_chan]
  split
  · next e => subst e; exact h
  · exact .refl _

theorem handTo_stands (p : Port) (pos : Pos) (body : EventBody) (s : State) : StoreStands s (s.handTo p pos body) :=
  ⟨handTo_keeps p pos body s, by simp, fun c => .of_eq (by simp)⟩

theorem handToOwner_stands (p : Option Port) (pos : Pos) (body : EventBody) (s : State) :
    StoreStands s (s.handToOwner p pos body) :=
  ⟨handToOwner_keeps p pos body s, by simp, fun c => .of_eq (by simp)⟩

theorem faultRecord_stands (c : Chan) (cause : FaultCause) (s : State) : StoreStands s (faultRecord c cause s) := by
  unfold faultRecord
  dsimp only
  split
  · exact handTo_stands _ _ _ s
  · exact ⟨handToFault_keeps _ _ s, rfl, fun d => .of_eq (by simp [State.handToFault])⟩

theorem updateOccupancy_stands (c : Chan) (s : State) : StoreStands s (updateOccupancy c s) := by
  refine ⟨updateOccupancy_keeps c s, ?_, ?_⟩ <;> unfold updateOccupancy <;> dsimp only <;> split
  · rfl
  · split <;> rfl
  · exact fun _ => .refl _
  · have occupied := setChan_chans (s := s) (c := c) (x := { s.chan c with occupant := occupies (s.chan c) }) ⟨rfl, rfl, id⟩
    split <;> exact occupied

/-- A channel record rewritten, with its group brought up to date. -/
theorem rewritten_stands {s : State} {c : Chan} {x : Channel} (k : WorkKeeps s (s.setChan c x))
    (h : ChanKeeps (s.chan c) x) : StoreStands s (updateOccupancy c (s.setChan c x)) :=
  StoreStands.trans (b := s.setChan c x) ⟨k, rfl, setChan_chans h⟩ (updateOccupancy_stands c _)

theorem driveOff_chan (pos : Pos) (ch : Channel) : ChanKeeps ch (driveOff pos ch) := ⟨rfl, rfl, id⟩

theorem enterOpening_chan (now : Nat) (ch : Channel) : ChanKeeps ch (enterOpening now ch) := by
  unfold enterOpening
  split <;> exact ⟨rfl, rfl, fun h => by cases h⟩

theorem closeCommand_stands (c : Chan) (s : State) : StoreStands s (closeCommand c s).2 := by
  unfold closeCommand
  split
  · obtain ⟨h1, h2, h3⟩ := closeChannel_keeps s.now s.ltb.pos (s.chan c)
    refine rewritten_stands (setChan_keeps s c _ h1 h2 h3) ?_
    unfold closeChannel
    dsimp only
    split <;> exact ⟨rfl, rfl, fun h => by cases h⟩
  · exact .refl s

theorem openCommand_stands (c : Chan) (s : State) : StoreStands s (openCommand c s).2 := by
  unfold openCommand
  split
  · obtain ⟨h1, h2, h3⟩ := enterOpening_keeps s.now (driveOff s.ltb.pos (s.chan c))
    exact rewritten_stands (setChan_keeps s c _ h1 h2 h3) ((driveOff_chan _ _).trans (enterOpening_chan _ _))
  · exact .refl s

theorem overrideOpen_stands (c : Chan) (s : State) : StoreStands s (overrideOpen c s) := by
  unfold overrideOpen
  split
  · obtain ⟨h1, h2, h3⟩ := overrideChannel_keeps s.now s.ltb.pos (s.chan c)
    refine rewritten_stands (setChan_keeps s c _ h1 h2 h3) ?_
    unfold overrideChannel
    dsimp only
    split
    · split <;> exact ⟨rfl, rfl, fun h => by cases h⟩
    · exact (driveOff_chan _ _).trans (enterOpening_chan _ _)
  · exact .refl s

/-! ## Entries that leave, move and come back -/

theorem removeEntries_liveKeys (f : Entry → Bool) (d : Schedule) :
    (liveKeys (removeEntries f d)).Sublist (liveKeys d) :=
  (List.filter_sublist.map _).append (List.filter_sublist.map _)

theorem removeEntries_deferredKeys (f : Entry → Bool) (d : Schedule) :
    (deferredKeys (removeEntries f d)).Sublist (deferredKeys d) := List.filter_sublist.map _

theorem removeWhere_store (f : Entry → Bool) (s : State) : StoreKeeps s (s.removeWhere f) :=
  .of_keys ⟨fun _ => rfl, fun _ _ => rfl⟩ (removeEntries_liveKeys f s.sched).subperm (removeEntries_deferredKeys f s.sched).subperm
    fun _ => .refl _

theorem mem_allEntries_removeEntries {f : Entry → Bool} {d : Schedule} {e : Entry} :
    e ∈ allEntries (removeEntries f d) ↔ e ∈ allEntries d ∧ f e = false := by
  simp only [allEntries, removeEntries, List.mem_append, List.mem_map, List.mem_filter, Bool.not_eq_true']
  grind

theorem insertByFire_perm (q : Pos) (x : PendingEntry) (l : List PendingEntry) : (insertByFire q x l).Perm (x :: l) := by
  induction l with
  | nil => exact .refl _
  | cons y l ih =>
    unfold insertByFire
    split
    · exact (ih.cons y).trans (.swap x y l)
    · exact .refl _

/-- R38: an insertion brings the entry's key. -/
theorem insertPending_liveKeys (e : Entry) (due fire : Pos) (s : State) :
    (liveKeys (s.insertPending e due fire).sched).Perm (e.key :: liveKeys s.sched) :=
  ((insertByFire_perm _ _ _).map _).append_right _

theorem insertPending_deferredKeys (e : Entry) (due fire : Pos) (s : State) :
    deferredKeys (s.insertPending e due fire).sched = deferredKeys s.sched := rfl

theorem firstPhase_chan (a : Action) : chanOf (firstPhase a) = chanOf a := by cases a <;> rfl

/-- R53: a reinsertion brings back the entry's key. -/
theorem reinsertNext_liveKeys (e : Entry) (r : Repeat) (due : Pos) (s : State) :
    (liveKeys (reinsertNext e r due s).sched).Perm (e.key :: liveKeys s.sched) := by
  have same : Entry.key { e with action := firstPhase e.action, rep := some r } = e.key := by
    simp [Entry.key, firstPhase_chan]
  exact same ▸ insertPending_liveKeys _ _ _ s

/-! ## Claims that end (R108, R109, R110) -/

/-- A channel that no entry names is freed and owes no open. -/
theorem setChan_freed {s : State} {c : Chan} {x : Channel} (free : x.claim = .free)
    (ends : OwnedOk s → s.namesChannel c = false ∧ x.pendingOpen = none) : StoreKeeps s (s.setChan c x) := by
  have holders : ∀ p d, (s.setChan c x).holds p d = true → s.holds p d = true := fun p d => by
    unfold State.holds
    rw [State.setChan_chan]
    split
    · rw [free]; intro h; simp [ownerOf] at h
    · exact id
  refine ⟨⟨fun p => Nat.le_refl _, fun h => ⟨?_, fun d fault => ?_⟩, fun o h => ?_⟩, holders⟩
  · refine h.ownership.of_keys ⟨fun _ => rfl, fun _ _ => rfl⟩ (fun k hk => hk) (fun d ⟨k, hk, names⟩ => ?_) holders
      fun d hd => ?_
    · have other : c ≠ d := fun e => (namesChannel_keys s c).mp (ends h).1 k hk (e ▸ names)
      rw [State.setChan_chan_ne _ _ other]
    · rw [State.setChan_chan] at hd ⊢
      split
      · exact (ends h).2
      · next other => rw [if_neg other] at hd; exact h.ownership.pendingOpens d hd
  · rw [State.setChan_chan] at fault ⊢
    split
    · exact (ends h).2
    · next other => rw [if_neg other] at fault; exact h.fault d fault
  · have unheld : heldTag ((s.setChan c x).chan c).pendingOpen = Option.none := by
      rw [State.setChan_chan_same, (ends o).2]
      rfl
    have others : ∀ d, d ≠ c → heldTag ((s.setChan c x).chan d).pendingOpen = heldTag (s.chan d).pendingOpen :=
      fun d other => by rw [State.setChan_chan_ne _ _ (Ne.symm other)]
    have held : List.Subperm (heldTags (s.setChan c x)) (heldTags s) := by
      cases was : heldTag (s.chan c).pendingOpen with
      | none =>
        rw [heldTags_congr fun d => ?_]
        by_cases e : d = c
        · rw [e, was, unheld]
        · exact others d e
      | some tag => exact (List.sublist_cons_self _ _).subperm.trans (heldTags_perm was unheld others).symm.subperm
    refine .of_keys (nodup_of_subperm ((List.Subperm.refl _).append held) h.live_keys) h.store_keys (fun k hk => ?_)
      fun k hk => h.nonzero_key hk
    obtain ⟨d, names, tag⟩ := h.deferred_key hk
    have other : d ≠ c := fun e =>
      (namesChannel_keys s c).mp (ends o).1 k (List.mem_append_right _ hk) (e ▸ names)
    exact ⟨d, names, (others d other).trans tag⟩

theorem removeChannelEntries_store (c : Chan) (s : State) : StoreKeeps s (removeChannelEntries c s) :=
  (removeWhere_store _ s).trans
    (StoreStands.store ⟨setChan_keeps _ c _ (by rfl) (by rfl) (by rfl), rfl, setChan_chans ⟨rfl, rfl, id⟩⟩)

theorem removeChannelEntries_unnamed (c : Chan) (s : State) : (removeChannelEntries c s).namesChannel c = false := by
  refine List.any_eq_false.mpr fun e he => ?_
  simpa using (mem_allEntries_removeEntries.mp he).2

theorem endClaim_store {c : Chan} {s : State} (cause : EndedCause)
    (ends : OwnedOk s → s.namesChannel c = false ∧ (s.chan c).pendingOpen = none) :
    StoreKeeps s (endClaim c cause s) :=
  (setChan_freed (x := { s.chan c with claim := .free, tally := 0 }) rfl ends).trans (handToOwner_stands _ _ _ _).store

/-- R108. -/
theorem completeAtFault_store {c : Chan} {s : State} (fault : inFault (s.chan c).state = true) :
    StoreKeeps s (completeAtFault c s) := by
  refine (removeChannelEntries_store c s).trans (endClaim_store _ fun h => ⟨removeChannelEntries_unnamed c s, ?_⟩)
  exact h.fault c (by simpa [removeChannelEntries] using fault)

/-- A channel whose holder and held open stand. -/
theorem setChan_store {s : State} {c : Chan} {x : Channel} (owner : ownerOf x.claim = ownerOf (s.chan c).claim)
    (held : heldTag x.pendingOpen = heldTag (s.chan c).pendingOpen)
    (owes : OwnedOk s → x.claim = .free ∨ inFault x.state = true → x.pendingOpen = none) :
    StoreKeeps s (s.setChan c x) := by
  refine .of_moves ⟨fun _ => rfl, fun _ _ => rfl⟩ (.refl _) (.refl _) (fun d => ?_) (fun d => ?_) fun h d => ?_
  all_goals
    rw [State.setChan_chan]
    split
  · next e => exact e ▸ owner
  · rfl
  · next e => exact e ▸ held
  · rfl
  · exact owes h
  · exact (ChanKeeps.refl (s.chan d)).owes h

theorem inFault_iff {state : ChanState} : inFault state = true ↔ ∃ cause, state = .fault cause := by
  cases state <;> simp [inFault]

/-- R106: the drain test. -/
theorem drainTest_store (c : Chan) (s : State) : StoreKeeps s (drainTest c s).1 := by
  unfold drainTest
  dsimp only
  split
  · exact .refl s
  · next releasing =>
    split
    · next fault => exact completeAtFault_store (by rw [fault]; rfl)
    · next noFault =>
      split
      · exact .refl s
      · next ended =>
        have ends : s.namesChannel c = false ∧ (s.chan c).pendingOpen = none := by simpa using ended
        split
        · exact endClaim_store _ fun _ => ends
        · exact endClaim_store _ fun _ => ends
        · refine setChan_store rfl (by rw [ends.2]; rfl) fun _ bad => ?_
          rcases bad with free | fault
          · rw [show (s.chan c).claim = .free from free] at releasing; simp [isReleasing] at releasing
          · obtain ⟨cause, e⟩ := inFault_iff.mp fault
            exact absurd e (noFault cause)
        · exact .refl s

/-! ## Held opens (R51, R52) -/

/-- R52: the entry of a held open's tag leaves the deferred ones, and is reinserted or ends. -/
theorem resolveDeferred_keys (inLoop : Bool) (tag : Tag) (s : State) :
    deferredKeys (resolveDeferred inLoop tag s).1.sched = (deferredKeys s.sched).filter (fun k => decide (k.tag ≠ tag))
      ∧ (liveKeys (resolveDeferred inLoop tag s).1.sched = liveKeys s.sched
        ∨ ∃ k ∈ deferredKeys s.sched, k.tag = tag
          ∧ (liveKeys (resolveDeferred inLoop tag s).1.sched).Perm (k :: liveKeys s.sched)) := by
  have left : (s.sched.deferred.filter fun y => decide (y.entry.tag ≠ tag)).map (·.entry.key) =
      (deferredKeys s.sched).filter fun k => decide (k.tag ≠ tag) := by
    rw [deferredKeys, List.filter_map]
    rfl
  unfold resolveDeferred
  split
  · next none =>
    refine ⟨(List.filter_eq_self.mpr fun k hk => ?_).symm, .inl rfl⟩
    obtain ⟨x, hx, rfl⟩ := List.mem_map.mp hk
    have other := List.find?_eq_none.mp none x hx
    exact decide_eq_true (by simpa [Entry.key] using other)
  · next x found =>
    have carried : x.entry.tag = tag := by simpa using List.find?_some found
    have stored : x.entry.key ∈ deferredKeys s.sched :=
      List.mem_map_of_mem (f := fun x : DeferredEntry => x.entry.key) (List.mem_of_find?_eq_some found)
    dsimp only
    split
    · split
      · exact ⟨left, .inl rfl⟩
      · exact ⟨left, .inr ⟨_, stored, carried, reinsertNext_liveKeys _ _ _ _⟩⟩
    · exact ⟨left, .inl rfl⟩

theorem resolveDeferred_chan (inLoop : Bool) (tag : Tag) (s : State) (c : Chan) :
    (resolveDeferred inLoop tag s).1.chan c = s.chan c := by
  unfold resolveDeferred
  split
  · rfl
  · dsimp only
    split
    · split <;> rfl
    · rfl

/-- R52: a held open leaves its channel, and a deferred entry of its tag may become live. -/
theorem StoreKeeps.of_unheld {c : Chan} {tag : Tag} {label : Byte} {s t : State}
    (was : (s.chan c).pendingOpen = some (.held tag label)) (ports : PortsKept s t)
    (claims : ∀ d, (t.chan d).claim = (s.chan d).claim) (cleared : (t.chan c).pendingOpen = none)
    (others : ∀ d, d ≠ c → ChanKeeps (s.chan d) (t.chan d))
    (deferred : deferredKeys t.sched = (deferredKeys s.sched).filter fun k => decide (k.tag ≠ tag))
    (live : liveKeys t.sched = liveKeys s.sched
      ∨ ∃ k ∈ deferredKeys s.sched, k.tag = tag ∧ (liveKeys t.sched).Perm (k :: liveKeys s.sched)) :
    StoreKeeps s t := by
  have held : heldTag (s.chan c).pendingOpen = some tag := by rw [was]; rfl
  have heldOthers : ∀ d, d ≠ c → heldTag (t.chan d).pendingOpen = heldTag (s.chan d).pendingOpen := fun d other => by
    rw [(others d other).pendingOpen]
  have heldPerm : (heldTags s).Perm (tag :: heldTags t) := heldTags_perm held (by rw [cleared]; rfl) heldOthers
  have all : List.Subperm (storeKeys t.sched) (storeKeys s.sched) := by
    unfold storeKeys
    rw [deferred]
    rcases live with same | ⟨k, stored, carried, moved⟩
    · rw [same]
      exact (List.Subperm.refl _).append List.filter_sublist.subperm
    · have back : List.Subperm (k :: (deferredKeys s.sched).filter fun k => decide (k.tag ≠ tag)) (deferredKeys s.sched) :=
        List.cons_subperm_of_not_mem_of_mem (by simp [carried]) stored List.filter_sublist.subperm
      refine ((moved.append_right _).trans List.perm_middle.symm).subperm.trans ?_
      exact (List.Subperm.refl _).append back
  have liveHeld : List.Subperm ((liveKeys t.sched).map EntryKey.tag ++ heldTags t)
      ((liveKeys s.sched).map EntryKey.tag ++ heldTags s) := by
    rcases live with same | ⟨k, _, carried, moved⟩
    · rw [same]
      exact (List.Subperm.refl _).append ((List.sublist_cons_self _ _).subperm.trans heldPerm.symm.subperm)
    · have came : ((liveKeys t.sched).map EntryKey.tag).Perm (tag :: (liveKeys s.sched).map EntryKey.tag) :=
        carried ▸ moved.map EntryKey.tag
      exact ((came.append_right _).trans
        (List.perm_middle.symm.trans (heldPerm.symm.append_left _))).subperm
  have holders : ∀ p d, t.holds p d = true → s.holds p d = true := fun p d => by
    rw [holds_congr (congrArg ownerOf (claims d))]
    exact id
  have owes : OwnedOk s → ∀ d, (t.chan d).claim = .free ∨ inFault (t.chan d).state = true →
      (t.chan d).pendingOpen = none := fun h d ends => by
    by_cases e : d = c
    · exact e ▸ cleared
    · exact (others d e).owes h ends
  refine ⟨⟨fun p => ?_, fun h => ⟨?_, fun d fault => owes h d (.inr fault)⟩, fun _ h => ?_⟩, holders⟩
  · rw [ownCount_keys, ownCount_keys]
    exact all.countP_le _
  · exact h.ownership.of_keys ports (fun k hk => all.subset hk) (fun d _ => congrArg ownerOf (claims d)) holders
      fun d free => owes h d (.inl free)
  · refine .of_keys (nodup_of_subperm liveHeld h.live_keys) (nodup_of_subperm (subperm_map _ all) h.store_keys)
      (fun k hk => ?_) fun k hk => h.nonzero_key (all.subset hk)
    rw [deferred, List.mem_filter] at hk
    obtain ⟨d, names, carries⟩ := h.deferred_key hk.1
    have other : d ≠ c := by
      rintro rfl
      rw [held] at carries
      simp [← Option.some.inj carries] at hk
    exact ⟨d, names, (heldOthers d other).trans carries⟩

/-- R52: a held open leaves its channel, and its DEFERRED entry is reinserted or ends. -/
theorem resolved_store {inLoop : Bool} {c : Chan} {tag : Tag} {label : Byte} {body : Nat → EventBody} {s u : State}
    (was : (s.chan c).pendingOpen = some (.held tag label)) (ports : PortsKept s u) (sched : u.sched = s.sched)
    (claim : (u.chan c).claim = (s.chan c).claim) (none : (u.chan c).pendingOpen = none)
    (others : ∀ d, d ≠ c → ChanKeeps (s.chan d) (u.chan d)) : StoreKeeps s (resolveHeld inLoop c tag body u).1 := by
  have told := handToOwner_stands (ownerOf (u.chan c).claim) u.ltb.pos
    (body (deferredFigure (deferredOf tag u.sched))) u
  unfold resolveHeld
  dsimp only
  generalize u.handToOwner _ _ _ = v at told
  obtain ⟨deferred, live⟩ := resolveDeferred_keys inLoop tag v
  have chan := resolveDeferred_chan inLoop tag v
  have ports' := (resolveDeferred_keeps inLoop tag v).ports
  generalize (resolveDeferred inLoop tag v).1 = t at deferred live chan ports'
  rw [told.sched, sched] at deferred live
  have toldPorts := told.keeps.ports
  have ports : PortsKept s t :=
    ⟨fun p => (ports'.attached p).trans ((toldPorts.attached p).trans (ports.attached p)),
      fun p i => (ports'.arms p i).trans ((toldPorts.arms p i).trans (ports.arms p i))⟩
  have cleared : (t.chan c).pendingOpen = Option.none := by rw [chan, (told.chans c).pendingOpen, none]
  have others : ∀ d, d ≠ c → ChanKeeps (s.chan d) (t.chan d) := fun d other =>
    (others d other).trans (chan d ▸ told.chans d)
  have claims : ∀ d, (t.chan d).claim = (s.chan d).claim := fun d => by
    by_cases e : d = c
    · rw [e, chan, (told.chans c).claim, claim]
    · exact (others d e).claim
  exact .of_unheld was ports claims cleared others deferred live

/-- R51: a live entry becomes the held open of its channel, and may become DEFERRED. -/
theorem StoreKeeps.of_held {c : Chan} {k : EntryKey} {label : Byte} {s t : State} (ports : PortsKept s t)
    (names : k.chan = some c) (live : (liveKeys s.sched).Perm (k :: liveKeys t.sched))
    (deferred : deferredKeys t.sched = deferredKeys s.sched ∨ deferredKeys t.sched = deferredKeys s.sched ++ [k])
    (claims : ∀ d, (t.chan d).claim = (s.chan d).claim) (none : (s.chan c).pendingOpen = none)
    (noFault : inFault (t.chan c).state = false) (holds : (t.chan c).pendingOpen = some (.held k.tag label))
    (others : ∀ d, d ≠ c → ChanKeeps (s.chan d) (t.chan d)) : StoreKeeps s t := by
  have held : heldTag (t.chan c).pendingOpen = some k.tag := by rw [holds]; rfl
  have heldPerm : (heldTags t).Perm (k.tag :: heldTags s) :=
    heldTags_perm held (by rw [none]; rfl) fun d other => by rw [(others d other).pendingOpen]
  have mem : k ∈ storeKeys s.sched := List.mem_append_left _ (live.mem_iff.mpr List.mem_cons_self)
  have all : List.Subperm (storeKeys t.sched) (storeKeys s.sched) := by
    refine List.Subperm.trans ?_ (live.append_right (deferredKeys s.sched)).symm.subperm
    rcases deferred with same | came
    · rw [storeKeys, same]
      exact (List.sublist_cons_self _ _).subperm
    · rw [storeKeys, came, ← List.append_assoc]
      exact (List.perm_append_singleton _ _).subperm
  have liveHeld : ((liveKeys t.sched).map EntryKey.tag ++ heldTags t).Perm
      ((liveKeys s.sched).map EntryKey.tag ++ heldTags s) :=
    (heldPerm.append_left _).trans (List.perm_middle.trans ((live.map EntryKey.tag).symm.append_right _))
  have holders : ∀ p d, t.holds p d = true → s.holds p d = true := fun p d => by
    rw [holds_congr (congrArg ownerOf (claims d))]
    exact id
  refine ⟨⟨fun p => ?_, fun h => ⟨?_, fun d fault => ?_⟩, fun _ h => ?_⟩, holders⟩
  · rw [ownCount_keys, ownCount_keys]
    exact all.countP_le _
  · refine h.ownership.of_keys ports (fun k hk => all.subset hk) (fun d _ => congrArg ownerOf (claims d)) holders
      fun d free => ?_
    by_cases e : d = c
    · have holder := h.ownership.key_holder mem names
      rw [← claims c, ← e, free] at holder
      cases holder
    · exact (others d e).owes h (.inl free)
  · by_cases e : d = c
    · rw [e, noFault] at fault
      cases fault
    · exact (others d e).owes h (.inr fault)
  · refine .of_keys (liveHeld.symm.nodup h.live_keys) (nodup_of_subperm (subperm_map _ all) h.store_keys) (fun k' hk => ?_)
      fun k' hk => h.nonzero_key (all.subset hk)
    have stands : ∀ k' ∈ deferredKeys s.sched,
        ∃ d, k'.chan = some d ∧ heldTag (t.chan d).pendingOpen = some k'.tag := fun k' hk => by
      obtain ⟨d, names', carries⟩ := h.deferred_key hk
      have other : d ≠ c := by
        rintro rfl
        rw [none] at carries
        cases carries
      exact ⟨d, names', by rw [(others d other).pendingOpen]; exact carries⟩
    rcases deferred with same | came
    · exact stands k' (same ▸ hk)
    · rw [came, List.mem_append, List.mem_singleton] at hk
      rcases hk with old | rfl
      · exact stands k' old
      · exact ⟨c, names, held⟩

end Sys2Proof.Machine
end

section
/-! The issue of an entry, the tasks and the work keep the store: each of their moves is one of the kinds above. -/

namespace Sys2Proof.Machine

/-! ## The issue of an entry (R46 to R53) -/

/-- The state with an entry back at the head of the pending list. -/
def State.putBack (x : PendingEntry) (s : State) : State :=
  { s with sched := { s.sched with pending := x :: s.sched.pending } }

theorem StoreStands.putBack {s t : State} (h : StoreStands s t) (x : PendingEntry) :
    StoreKeeps (s.putBack x) (t.putBack x) :=
  .of_keys ⟨h.keeps.ports.attached, h.keeps.ports.arms⟩
    (by rw [State.putBack, State.putBack, h.sched]) (by rw [State.putBack, State.putBack, h.sched]) h.chans

/-- What becomes of an issued entry: it ends, or one of its key is pending again. -/
structure Refired (k : EntryKey) (s t : State) : Prop where
  keeps : WorkKeeps s t
  chan : ∀ c, t.chan c = s.chan c
  live : List.Subperm (liveKeys t.sched) (k :: liveKeys s.sched)
  deferred : deferredKeys t.sched = deferredKeys s.sched

theorem Refired.store {x : PendingEntry} {s t : State} (h : Refired x.entry.key s t) : StoreKeeps (s.putBack x) t :=
  .of_keys ⟨h.keeps.ports.attached, h.keeps.ports.arms⟩ h.live (h.deferred ▸ List.Subperm.refl _) fun c =>
    .of_eq (h.chan c)

theorem Refired.ended (k : EntryKey) (s : State) : Refired k s s :=
  ⟨.refl s, fun _ => rfl, (List.sublist_cons_self _ _).subperm, rfl⟩

theorem endFiring_refired (e : Entry) (due : Pos) (s : State) : Refired e.key s (endFiring e due s).1 := by
  refine ⟨endFiring_keeps e due s, ?_, ?_, ?_⟩ <;> unfold endFiring <;> split
  · split <;> exact fun _ => rfl
  · exact fun _ => rfl
  · split
    · exact (reinsertNext_liveKeys _ _ _ _).subperm
    · exact (Refired.ended _ s).live
  · exact (Refired.ended _ s).live
  · split <;> rfl
  · rfl

theorem afterDone_refired (x : PendingEntry) (s : State) : Refired x.entry.key s (afterDone x s).1 := by
  unfold afterDone
  split
  · next c w first =>
    have same : Entry.key { x.entry with action := .pulse c w true } = x.entry.key := by
      simp [Entry.key, first, chanOf]
    exact ⟨insertPending_keeps _ _ _ s, fun _ => rfl, same ▸ (insertPending_liveKeys _ _ _ s).subperm, rfl⟩
  · exact endFiring_refired _ _ s

theorem issueMissed_store (x : PendingEntry) (reason : MissReason) (s : State) :
    StoreKeeps (s.putBack x) (issueMissed x reason s).1 :=
  ((handTo_stands _ _ _ s).putBack x).trans (endFiring_refired _ _ _).store

theorem issueDone_store (x : PendingEntry) (already : Bool) (s : State) :
    StoreKeeps (s.putBack x) (issueDone x already s).1 :=
  ((handTo_stands _ _ _ s).putBack x).trans (afterDone_refired _ _).store

/-- R51: a SECOND phase is handed over to a channel that owes no open. -/
theorem handOff_store {x : PendingEntry} {c : Chan} {s : State} (names : chanOf x.entry.action = some c)
    (none : (s.chan c).pendingOpen = none) (noFault : inFault (s.chan c).state = false) :
    StoreKeeps (s.putBack x) (handOff x c s).1 := by
  have keeps := handOff_keeps x c s
  have written : ∀ d, (handOff x c s).1.chan d =
      (s.setChan c { s.chan c with pendingOpen := some (.held x.entry.tag x.entry.label) }).chan d := fun d => by
    unfold handOff
    dsimp only
    split
    · split <;> rfl
    · rfl
  refine .of_held (c := c) (k := x.entry.key) (label := x.entry.label) ⟨keeps.ports.attached, keeps.ports.arms⟩ names ?_ ?_
    (fun d => ?_) none ?_ ?_ fun d other => ?_
  · unfold handOff
    dsimp only
    split
    · split <;> exact .refl _
    · exact .refl _
  · unfold handOff
    dsimp only
    split
    · split
      · exact .inr (List.map_append ..)
      · exact .inl rfl
    · exact .inl rfl
  · rw [written, State.setChan_chan]
    split
    · next e => subst e; rfl
    · rfl
  · rw [written, State.setChan_chan_same]
    exact noFault
  · rw [written, State.setChan_chan_same]
    rfl
  · exact .of_eq ((written d).trans (State.setChan_chan_ne _ _ (Ne.symm other)))

theorem openCommand_answer (c : Chan) (s : State) : (openCommand c s).1 = openAnswer s c := by
  unfold openCommand
  split
  · next e => exact e.symm
  · rfl

theorem closeCommand_answer (c : Chan) (s : State) : (closeCommand c s).1 = closeAnswer s c := by
  unfold closeCommand
  split
  · next e => exact e.symm
  · rfl

theorem openCommand_refused {c : Chan} {s : State} (refused : openAnswer s c ≠ .accepted) :
    openCommand c s = (openAnswer s c, s) := by
  unfold openCommand
  split
  · next e => exact absurd e refused
  · rfl

theorem closeCommand_refused {c : Chan} {s : State} (refused : closeAnswer s c ≠ .accepted) :
    closeCommand c s = (closeAnswer s c, s) := by
  unfold closeCommand
  split
  · next e => exact absurd e refused
  · rfl

/-- R78: a channel in FAULT refuses an open with FAULT. -/
theorem openAnswer_fault {s : State} {c : Chan} (fault : inFault (s.chan c).state = true) :
    openAnswer s c = .refused .fault := by
  obtain ⟨cause, e⟩ := inFault_iff.mp fault
  unfold openAnswer
  dsimp only
  rw [e]

theorem isSecond_of_closing {a : Action} (closing : isClosing a = true) : isSecond a = false := by
  cases a <;> simp_all [isClosing, isSecond]

theorem issueAnswered_store {x : PendingEntry} {c : Chan} {a : Answer} {s : State}
    (names : chanOf x.entry.action = some c)
    (noFault : isSecond x.entry.action = true → a ≠ .refused .fault → inFault (s.chan c).state = false) :
    StoreKeeps (s.putBack x) (issueAnswered x c a s).1 := by
  unfold issueAnswered
  split
  · exact issueDone_store x false s
  · exact issueDone_store x true s
  · next reason =>
    split
    · next handed =>
      simp only [Bool.and_eq_true, Option.isNone_iff_eq_none] at handed
      obtain ⟨⟨second, handsOver⟩, none⟩ := handed
      refine handOff_store names none (noFault second fun e => ?_)
      rw [Answer.refused.inj e] at handsOver
      cases handsOver
    · exact issueMissed_store x _ s

/-- R46 to R53: what an issue makes of its entry. -/
theorem issue_store (x : PendingEntry) (s : State) : StoreKeeps (s.putBack x) (issue x s).1 := by
  unfold issue
  dsimp only
  split
  · exact issueMissed_store x _ s
  · split
    · exact issueMissed_store x _ s
    · split
      · exact issueDone_store x false s
      · next c names =>
        split
        · next closing =>
          refine ((closeCommand_stands c s).putBack x).trans (issueAnswered_store names fun second => ?_)
          rw [isSecond_of_closing closing] at second
          cases second
        · refine ((openCommand_stands c s).putBack x).trans (issueAnswered_store names fun _ answer => ?_)
          rw [openCommand_answer] at answer
          cases fault : inFault ((openCommand c s).2.chan c).state with
          | false => rfl
          | true => exact absurd (openAnswer_fault (((openCommand_stands c s).chans c).fault fault)) answer

theorem fireHead_store (s : State) : StoreKeeps s (fireHead s).1 := by
  unfold fireHead
  split
  · exact .refl s
  · next x l head =>
    split
    · have whole : State.putBack x { s with sched := { s.sched with pending := l } } = s := by
        unfold State.putBack
        rw [← head]
      exact whole ▸ issue_store x { s with sched := { s.sched with pending := l } }
    · exact .refl s

/-! ## The tasks and the work -/

/-- R81: what the execution of a pending open makes of the state that the open command leaves. -/
theorem executePendingOpen_store (inLoop : Bool) {c : Chan} {p : PendingOpen} (already : Bool) {s : State}
    (owed : (s.chan c).pendingOpen = some p) : StoreKeeps s (executePendingOpen inLoop c p already s).1 := by
  unfold executePendingOpen
  dsimp only
  split
  · refine resolved_store owed (clearPendingOpen_keeps c s).ports rfl ?_ ?_ fun d other => .of_eq ?_
    · simp [clearPendingOpen]
    · simp [clearPendingOpen]
    · exact State.setChan_chan_ne _ _ (Ne.symm other)
  · exact setChan_store rfl (by rw [owed]; rfl) fun _ _ => rfl

theorem examinePendingOpen_store (inLoop : Bool) (c : Chan) (s : State) :
    StoreKeeps s (examinePendingOpen inLoop c s).1 := by
  have opened := openCommand_stands c s
  unfold examinePendingOpen
  split
  · exact .refl s
  · next p owed =>
    split
    · next e =>
      rw [e] at opened
      exact opened.store.trans (executePendingOpen_store _ _ ((opened.chans c).pendingOpen.trans owed))
    · next e =>
      rw [e] at opened
      exact opened.store.trans (executePendingOpen_store _ _ ((opened.chans c).pendingOpen.trans owed))
    · next e =>
      rw [e] at opened
      exact opened.store

theorem Task.run_store (inLoop : Bool) (t : Task) (s : State) : StoreKeeps s (t.run inLoop s).1 := by
  cases t with
  | fire => exact fireHead_store s
  | fireOn => exact fireHead_store s
  | examine c => exact examinePendingOpen_store inLoop c s
  | drain c => exact drainTest_store c s
  | changed c => exact (updateOccupancy_stands c s).store

theorem work_store (tasks : List Task) (s : State) : StoreKeeps s (work tasks s) :=
  work_rel StoreKeeps StoreKeeps.refl (fun _ _ _ => StoreKeeps.trans) Task.run_store tasks s

/-- R73: an entry to FAULT clears the pending open, and reports a held one. -/
theorem enterFault_store (c : Chan) (cause : FaultCause) (s : State) : StoreKeeps s (enterFault c cause s) := by
  obtain ⟨h1, h2, h3⟩ := faultChannel_keeps s.ltb.pos cause (s.chan c)
  have written := setChan_keeps s c _ h1 h2 h3
  have recorded := faultRecord_stands c cause (s.setChan c (faultChannel s.ltb.pos cause (s.chan c)))
  have claim : (faultChannel s.ltb.pos cause (s.chan c)).claim = (s.chan c).claim := by
    unfold faultChannel
    dsimp only
    split <;> rfl
  unfold enterFault
  dsimp only
  split
  · next tag label owed =>
    refine (resolved_store owed (written.trans recorded.keeps).ports recorded.sched ?_ ?_ fun d other => ?_).trans
      (work_store _ _)
    · rw [(recorded.chans c).claim, State.setChan_chan_same, claim]
    · rw [(recorded.chans c).pendingOpen, State.setChan_chan_same]
      rfl
    · have stands := recorded.chans d
      rwa [State.setChan_chan_ne _ _ (Ne.symm other)] at stands
  · next notHeld =>
    refine StoreKeeps.trans (StoreKeeps.trans ?_ recorded.store) (work_store _ _)
    refine setChan_store (congrArg ownerOf claim) ?_ fun _ _ => rfl
    cases owed : (s.chan c).pendingOpen with
    | none => rfl
    | some p =>
      cases p with
      | held tag label => exact absurd owed (notHeld tag label)
      | release => rfl

theorem inFreeOrder_store {α : Type} (l : List α) (s : State) : StoreKeeps s (s.inFreeOrder l).2 := by
  obtain ⟨k, e⟩ := State.inFreeOrder_state l s
  rw [e]
  exact .of_ports ⟨fun _ => rfl, fun _ _ => rfl⟩ rfl fun _ => rfl

theorem offerPosition_store (s : State) : StoreKeeps s (offerPosition s) := by
  have offered : StoreKeeps s (atOffer s) :=
    .of_keys (atOffer_keeps s).ports (by rw [atOffer_sched]) (by rw [atOffer_sched]) fun c => by
      rw [atOffer_chan]
      exact ⟨rfl, rfl, id⟩
  rw [offerPosition_eq]
  exact (offered.trans (inFreeOrder_store _ _)).trans (work_store _ _)

end Sys2Proof.Machine
end

section
/-! The events, the claims and the requests keep the store; but an admission adds to it. -/

namespace Sys2Proof.Machine

/-! ## Channels, the supply, captures -/

/-- A change of a channel's state outside FAULT, with the work that follows it. -/
theorem setState_store {c : Chan} {x : Channel} {s : State} (h : ChanKeeps (s.chan c) x) (tasks : List Task) :
    StoreKeeps s (work tasks (s.setChan c x)) :=
  StoreKeeps.trans (b := s.setChan c x)
    (.of_keys ⟨fun _ => rfl, fun _ _ => rfl⟩ (.refl _) (.refl _) (setChan_chans h)) (work_store _ _)

theorem setChan_kept {c : Chan} {x : Channel} {s : State} (h : ChanKeeps (s.chan c) x) : StoreKeeps s (s.setChan c x) :=
  setState_store h []

theorem confirm_store (c : Chan) {state : ChanState} (noFault : inFault state = false) (s : State) :
    StoreKeeps s (confirm c state s) :=
  setState_store (x := { s.chan c with state := state, verifyAt := none })
    ⟨rfl, rfl, fun h => by rw [show inFault state = true from h] at noFault; cases noFault⟩ _

theorem feedbackChange_store (c : Chan) (closed : Bool) (s : State) : StoreKeeps s (feedbackChange c closed s) := by
  have set : StoreKeeps s (s.setChan c { s.chan c with feedback := closed }) := setChan_kept ⟨rfl, rfl, id⟩
  unfold feedbackChange
  split
  · exact .refl s
  · refine set.trans ?_
    unfold feedbackActs
    dsimp only
    split
    · split
      · exact confirm_store c rfl _
      · exact .refl _
    · split
      · exact .refl _
      · exact confirm_store c rfl _
    · split
      · exact enterFault_store c _ _
      · exact .refl _
    · split
      · exact enterFault_store c _ _
      · exact .refl _
    · exact (updateOccupancy_stands c _).store

theorem verifyExpiry_store (c : Chan) (s : State) : StoreKeeps s (verifyExpiry c s) := by
  unfold verifyExpiry
  split
  · exact enterFault_store c _ s
  · exact enterFault_store c _ s
  · exact .refl s

theorem drainCompletion_store (c : Chan) (s : State) : StoreKeeps s (drainCompletion c s) := by
  unfold drainCompletion
  split
  · exact work_store _ s
  · exact .refl s

theorem overrideWork_store (c : Chan) (s : State) : StoreKeeps s (overrideWork c s) := by
  unfold overrideWork
  split
  · exact (overrideOpen_stands c s).store.trans (work_store _ _)
  · exact .refl s

theorem eachSession_store {f : Session → Session} (attached : ∀ r, (f r).attached = r.attached) (s : State) :
    StoreKeeps s (s.eachSession f) :=
  .of_ports ⟨fun p => by rw [State.eachSession_session]; exact attached _, fun _ _ => rfl⟩ rfl fun _ => rfl

theorem supplyRecord_store (low : Bool) (shed : List Chan) (s : State) : StoreKeeps s (supplyRecord low shed s) := by
  unfold supplyRecord State.handToAttached State.handToEach
  refine eachSession_store (fun r => ?_) s
  split
  · exact (placeIn_keeps _ _ r).1
  · rfl

theorem supplyEntry_store (s : State) : StoreKeeps s (supplyEntry s) := by
  have shedding := StoreKeeps.foldl (f := fun s c => overrideWork c s) fun s c => overrideWork_store c s
  have noticed := eachSession_store (f := fun r => { r with notices := { r.notices with supplyLow := true } })
    (fun _ => rfl) { s with supply := { s.supply with low := true } }
  have low : StoreKeeps s { s with supply := { s.supply with low := true } } :=
    .of_ports ⟨fun _ => rfl, fun _ _ => rfl⟩ rfl fun _ => rfl
  unfold supplyEntry
  dsimp only
  split
  · exact .refl s
  · exact (low.trans noticed).trans ((shedding _ _).trans (supplyRecord_store _ _ _))

theorem supplyLeaving_store (s : State) : StoreKeeps s (supplyLeaving s) := by
  have high : StoreKeeps s { s with supply := { s.supply with low := false } } :=
    .of_ports ⟨fun _ => rfl, fun _ _ => rfl⟩ rfl fun _ => rfl
  unfold supplyLeaving
  split
  · exact high.trans (supplyRecord_store _ _ _)
  · exact .refl s

/-- R144, R126: an arm record is written while its port is ATTACHED. -/
theorem setArm_sound {p : Port} {i : CapInput} {a : Arm} {s : State}
    (attached : OwnedOk s → (s.session p).attached = true ∨ a = .idle) : StoreSound s (s.setArm p i a) := by
  refine ⟨fun _ => Nat.le_refl _, fun h => ⟨⟨h.ownership.entries, h.ownership.pendingOpens, h.ownership.claims,
    h.ownership.store, fun q detached j => ?_⟩, h.fault⟩, fun _ h => ⟨h.live, h.entries, h.deferred, h.nonzero⟩⟩
  rw [State.setArm_arm]
  split
  · next same =>
    obtain ⟨rfl, -⟩ := same
    rcases attached h with on | idle
    · exact absurd (on.symm.trans detached) (by decide)
    · exact idle
  · exact h.ownership.arms q detached j

theorem setArm_store {p : Port} {i : CapInput} {a : Arm} {s : State}
    (attached : OwnedOk s → (s.session p).attached = true ∨ a = .idle) : StoreKeeps s (s.setArm p i a) :=
  ⟨setArm_sound attached, fun _ _ => id⟩

theorem reportEdge_store (i : CapInput) (d : EdgeDir) (s : State) (p : Port) : StoreKeeps s (reportEdge i d s p) := by
  unfold reportEdge
  split
  · exact .refl s
  · next sel remaining armed =>
    split
    · refine (handTo_stands _ _ _ s).store.trans (setArm_store fun h => .inl ?_)
      cases on : ((s.handTo p s.ltb.pos
        (.capture i d (stampFraction s.ltb) s.ltb.lock (armFigure remaining))).session p).attached with
      | true => rfl
      | false => rw [← State.handTo_arm, h.ownership.arms p on i] at armed; cases armed
    · exact .refl s

/-- R57: the entries of a list go from outside the store to the pending list. -/
theorem foldl_triggerEntry (pos : Pos) (l : List Entry) (s : State) :
    (liveKeys (l.foldl (fun s e => triggerEntry pos e s) s).sched).Perm (l.map Entry.key ++ liveKeys s.sched)
      ∧ ∃ d, l.foldl (fun s e => triggerEntry pos e s) s = { s with sched := d } ∧ d.deferred = s.sched.deferred := by
  induction l generalizing s with
  | nil => exact ⟨.refl _, _, rfl, rfl⟩
  | cons e l ih =>
    obtain ⟨live, d, eq, deferred⟩ := ih (triggerEntry pos e s)
    exact ⟨live.trans (((insertPending_liveKeys e _ _ s).append_left _).trans List.perm_middle), d, eq, deferred⟩

theorem offerTrigger_store (i : CapInput) (d : EdgeDir) (pos : Pos) (s : State) :
    StoreKeeps s (offerTrigger i d pos s) := by
  obtain ⟨live, sched, eq, deferred⟩ := foldl_triggerEntry pos (s.sched.waiting.filter (triggerMatches i d))
    { s with sched := { s.sched with waiting := s.sched.waiting.filter fun e => !triggerMatches i d e } }
  have split := (List.filter_append_perm (triggerMatches i d) s.sched.waiting).map Entry.key
  rw [List.map_append] at split
  unfold offerTrigger
  dsimp only
  rw [eq] at live ⊢
  refine .of_keys ⟨fun _ => rfl, fun _ _ => rfl⟩ (live.trans ?_).subperm ?_ fun _ => .refl _
  · refine List.Perm.trans ?_ (split.append_left (s.sched.pending.map (·.entry.key)))
    rw [liveKeys, ← List.append_assoc, ← List.append_assoc]
    exact List.perm_append_comm.append_right _
  · rw [deferredKeys, deferred]
    exact List.Subperm.refl _

theorem distributeEdge_store (i : CapInput) (d : EdgeDir) (s : State) : StoreKeeps s (distributeEdge i d s) :=
  (StoreKeeps.foldl (reportEdge_store i d) _ s).trans (offerTrigger_store i d _ _)

/-! ## Claims and release -/

theorem markChannel_keys (c : Chan) (d : Schedule) :
    (liveKeys (markChannel c d)).Sublist (liveKeys d) ∧ deferredKeys (markChannel c d) = deferredKeys d := by
  have same : ∀ e, (markLastRun c e).key = e.key := fun e => by
    unfold markLastRun
    split <;> rfl
  have pending : (markChannel c d).pending.map (·.entry.key) = d.pending.map (·.entry.key) := by
    simp [markChannel, Function.comp_def, same]
  have deferred : deferredKeys (markChannel c d) = deferredKeys d := by
    simp [deferredKeys, markChannel, Function.comp_def, same]
  refine ⟨?_, deferred⟩
  unfold liveKeys
  rw [pending]
  exact (List.Sublist.refl _).append (List.filter_sublist.map _)

/-- R105: a graceful release. -/
theorem gracefulRelease_store (c : Chan) (s : State) : StoreKeeps s (gracefulRelease c s) := by
  unfold gracefulRelease
  dsimp only
  split
  · next p held =>
    refine StoreKeeps.trans (b := s.setChan c { s.chan c with
        claim := .releasing p, tally := s.sched.waiting.countP (Entry.names c) })
      (setChan_store (by rw [held]; rfl) rfl fun h ends => ?_) (StoreKeeps.trans ?_ (work_store _ _))
    · exact h.fault c (ends.resolve_left (by simp))
    · obtain ⟨live, deferred⟩ := markChannel_keys c s.sched
      exact .of_keys ⟨fun _ => rfl, fun _ _ => rfl⟩ live.subperm (deferred ▸ List.Subperm.refl _) fun _ => .refl _
  · exact .refl s

/-- R110: a channel that no entry names is freed by force. -/
theorem freeByForce_store {c : Chan} {s : State} (unnamed : OwnedOk s → s.namesChannel c = false) :
    StoreKeeps s (freeByForce c s) := by
  have freed : StoreKeeps s (s.setChan c { s.chan c with pendingOpen := none, claim := .free }) :=
    setChan_freed rfl fun h => ⟨unnamed h, rfl⟩
  unfold freeByForce
  dsimp only
  split
  · exact freed.trans (overrideWork_store c _)
  · exact freed

theorem setTally_store (c : Chan) (n : Nat) (s : State) : StoreKeeps s (s.setChan c { s.chan c with tally := n }) :=
  setChan_kept ⟨rfl, rfl, id⟩

theorem forcedRelease_store (c : Chan) (s : State) : StoreKeeps s (forcedRelease c s) :=
  (((removeChannelEntries_store c s).trans (freeByForce_store fun _ => removeChannelEntries_unnamed c s)).trans
    (handToOwner_stands _ _ _ _).store).trans (setTally_store c 0 _)

theorem releaseChans_store (mode : ReleaseMode) (set : List Chan) (s : State) :
    StoreKeeps s (releaseChans mode set s) := by
  refine .foldl (fun s c => ?_) set s
  cases mode with
  | graceful => exact gracefulRelease_store c s
  | forced => exact forcedRelease_store c s

/-! ## Session end (R126) -/

theorem ownCount_eq_zero {d : Schedule} {p : Port} : ownCount d p = 0 ↔ ∀ k ∈ storeKeys d, k.owner ≠ p := by
  rw [ownCount_keys, List.countP_eq_zero]
  simp

/-- R115: a channel of a port that has no entries left is released. -/
theorem endHold_store {p : Port} {s : State} (none : ownCount s.sched p = 0) (c : Chan) :
    StoreKeeps s (endHold p s c) := by
  unfold endHold
  split
  · next held =>
    refine (freeByForce_store fun h => (namesChannel_keys s c).mpr fun k hk names => ?_).trans (setTally_store c 0 _)
    have holder := h.ownership.key_holder hk names
    rw [of_decide_eq_true held] at holder
    exact ownCount_eq_zero.mp none k hk (Option.some.inj holder).symm
  · exact .refl s

theorem overrideWork_holders {c : Chan} {s : State} {p : Port} {d : Chan} (h : s.holds p d = false) :
    (overrideWork c s).holds p d = false := by
  cases held : (overrideWork c s).holds p d with
  | false => rfl
  | true => exact absurd ((overrideWork_store c s).holders p d held) (by simp [h])

/-- R115: the port no longer holds the channel. -/
theorem endHold_freed (p : Port) (s : State) (c : Chan) : (endHold p s c).holds p c = false := by
  unfold endHold
  split
  · have freed : (s.setChan c { s.chan c with pendingOpen := none, claim := .free }).holds p c = false := by
      simp [State.holds, ownerOf]
    have forced : (freeByForce c s).holds p c = false := by
      unfold freeByForce
      dsimp only
      split
      · exact overrideWork_holders freed
      · exact freed
    exact (holds_congr (by rw [State.setChan_chan_same])).trans forced
  · next held => simpa using held

/-- R115: the release of a port's channels one after another. -/
theorem foldl_endHold {p : Port} (l : List Chan) {s : State} (none : ownCount s.sched p = 0) :
    StoreKeeps s (l.foldl (endHold p) s) ∧ ∀ c ∈ l, (l.foldl (endHold p) s).holds p c = false := by
  induction l generalizing s with
  | nil => exact ⟨.refl s, fun c h => absurd h (List.not_mem_nil)⟩
  | cons c l ih =>
    have turn := endHold_store none c
    obtain ⟨rest, freed⟩ := ih (Nat.le_zero.mp (none ▸ turn.counts p))
    refine ⟨turn.trans rest, fun d hd => ?_⟩
    rcases List.mem_cons.mp hd with rfl | hd
    · cases held : ((d :: l).foldl (endHold p) s).holds p d with
      | false => rfl
      | true =>
        have before := rest.holders p d held
        rw [endHold_freed] at before
        cases before
    · exact freed d hd

theorem disarmPort_store (p : Port) (s : State) : StoreKeeps s (disarmPort p s) :=
  .foldl (f := fun s i => s.setArm p i .idle) (fun _ _ => setArm_store fun _ => .inr rfl) allInputs s

/-- R151. -/
theorem disarmPort_arm (p : Port) (s : State) (i : CapInput) : (disarmPort p s).arm p i = .idle :=
  (foldl_records (fun s i => s.arm p i) (fun s i a => s.setArm p i a) (fun s i j a => by simp [State.setArm_arm])
    (fun _ _ _ => .idle) (fun _ _ _ => rfl) allInputs (by decide) s i).trans (if_pos (mem_allInputs i))

/-- R126: what a session record ends as belongs to a port with no claims, entries or arms. -/
theorem setSession_detached {p : Port} {r : Session} {s : State} (claims : ∀ c, s.holds p c = false)
    (store : ownCount s.sched p = 0) (arms : ∀ i, s.arm p i = .idle) : StoreKeeps s (s.setSession p r) := by
  have attached : ∀ q, q ≠ p → ((s.setSession p r).session q) = s.session q := fun q other =>
    State.setSession_session_ne _ _ (Ne.symm other)
  refine ⟨⟨fun _ => Nat.le_refl _, fun h => ⟨⟨h.ownership.entries, h.ownership.pendingOpens, fun q detached => ?_,
    fun q detached => ?_, fun q detached => ?_⟩, h.fault⟩, fun _ h => ⟨h.live, h.entries, h.deferred, h.nonzero⟩⟩,
    fun _ _ => id⟩
  all_goals by_cases own : q = p
  · exact own ▸ claims
  · exact h.ownership.claims q (attached q own ▸ detached)
  · exact fun e he => own ▸ ownCount_eq_zero.mp store _ (mem_storeKeys he)
  · exact h.ownership.store q (attached q own ▸ detached)
  · exact own ▸ arms
  · exact h.ownership.arms q (attached q own ▸ detached)

theorem removeWhere_ownCount (p : Port) (s : State) :
    ownCount (s.removeWhere fun e => decide (e.owner = p)).sched p = 0 := by
  refine List.countP_eq_zero.mpr fun e he => ?_
  simpa using (mem_allEntries_removeEntries.mp he).2

/-- R126: a session end. -/
theorem sessionEnd_store (p : Port) (cause : EndCause) (s : State) : StoreKeeps s (sessionEnd p cause s) := by
  have removed := removeWhere_store (fun e => decide (e.owner = p)) s
  have gone := removeWhere_ownCount p s
  obtain ⟨released, freed⟩ := foldl_endHold allChans gone
  have disarmed := disarmPort_store p (releaseForSessionEnd p (s.removeWhere fun e => decide (e.owner = p)))
  have work := released.trans disarmed
  refine (removed.trans work).trans (setSession_detached (fun c => ?_) (Nat.le_zero.mp (gone ▸ work.counts p))
    (disarmPort_arm p _))
  have free := freed c (mem_allChans c)
  cases held : (disarmPort p (releaseForSessionEnd p (s.removeWhere fun e => decide (e.owner = p)))).holds p c with
  | false => rfl
  | true => exact absurd (disarmed.holders p c held) (by rw [releaseForSessionEnd, free]; decide)

theorem keepaliveExpiry_store (p : Port) (s : State) : StoreKeeps s (keepaliveExpiry p s) := by
  unfold keepaliveExpiry
  split
  · exact sessionEnd_store p _ s
  · exact .refl s

/-! ## Channel configuration -/

theorem moveGroup_store (c : Chan) (new : Option GroupId) (s : State) : StoreKeeps s (moveGroup c new s) := by
  have moved : ∀ (u : State) (x : Channel), (∀ d, d ≠ c → u.chan d = s.chan d) → ChanKeeps (s.chan c) x →
      ∀ d, ChanKeeps (s.chan d) ((u.setChan c x).chan d) := fun u x others h d => by
    rw [State.setChan_chan]
    split
    · next e => exact e ▸ h
    · next other => exact .of_eq (others d (Ne.symm other))
  have others : ∀ x d, d ≠ c → (s.setChan c x).chan d = s.chan d := fun x d other =>
    State.setChan_chan_ne _ _ (Ne.symm other)
  unfold moveGroup
  dsimp only
  split
  · exact .refl s
  · split
    · split
      · exact .of_keys ⟨fun _ => rfl, fun _ _ => rfl⟩ (.refl _) (.refl _) (moved _ _ (others _) ⟨rfl, rfl, id⟩)
      · exact .of_keys ⟨fun _ => rfl, fun _ _ => rfl⟩ (.refl _) (.refl _) (moved _ _ (others _) ⟨rfl, rfl, id⟩)
    · exact .of_keys ⟨fun _ => rfl, fun _ _ => rfl⟩ (.refl _) (.refl _) (moved _ _ (others _) ⟨rfl, rfl, id⟩)

theorem changeFeedbackMode_store (c : Chan) (was : Bool) (s : State) : StoreKeeps s (changeFeedbackMode c was s) := by
  unfold changeFeedbackMode
  dsimp only
  split
  · split
    · exact enterFault_store c _ s
    · exact .refl s
  · split
    · exact .refl s
    · exact enterFault_store c _ s
  · exact confirm_store c rfl s
  · exact confirm_store c rfl s
  · exact .refl s

theorem configure_store (c : Chan) (cfg : ChanConfig) (s : State) : StoreKeeps s (configure c cfg s) :=
  ((moveGroup_store c cfg.group s).trans
    (setChan_kept (x := { (moveGroup c cfg.group s).chan c with cfg := cfg }) ⟨rfl, rfl, id⟩)).trans
    (changeFeedbackMode_store c _ _)

/-! ## Requests -/

/-- R101: a FREE channel becomes HELD by an ATTACHED port. -/
theorem claimChan_sound {p : Port} {s : State} (attached : (s.session p).attached = true) (c : Chan) :
    StoreSound s (claimChan p s c) := by
  unfold claimChan
  split
  · next free =>
    have held : heldTags (s.setChan c { s.chan c with claim := .held p, tally := 0 }) = heldTags s :=
      heldTags_congr fun d => by
        rw [State.setChan_chan]
        split
        · next e => subst e; rfl
        · rfl
    refine ⟨fun _ => Nat.le_refl _, fun h => ⟨⟨fun e he d names => ?_, fun d hd => ?_, fun q detached d => ?_,
      h.ownership.store, h.ownership.arms⟩, fun d fault => ?_⟩, fun _ h => ⟨?_, h.entries, fun x hx => ?_, h.nonzero⟩⟩
    · have holder := h.ownership.entries e he d names
      rw [State.setChan_chan]
      split
      · next same => rw [← same, free] at holder; cases holder
      · exact holder
    · rw [State.setChan_chan] at hd ⊢
      split
      · next same => rw [if_pos same] at hd; cases hd
      · next other => rw [if_neg other] at hd; exact h.ownership.pendingOpens d hd
    · have before := h.ownership.claims q detached d
      unfold State.holds at before ⊢
      rw [State.setChan_chan]
      split
      · refine decide_eq_false fun same => ?_
        rw [← Option.some.inj same] at detached
        exact absurd (attached.symm.trans detached) (by decide)
      · exact before
    · rw [State.setChan_chan] at fault ⊢
      split
      · exact h.ownership.pendingOpens c free
      · next other => rw [if_neg other] at fault; exact h.fault d fault
    · rw [held]; exact h.live
    · obtain ⟨d, names, tag⟩ := h.deferred x hx
      refine ⟨d, names, ?_⟩
      rw [State.setChan_chan]
      split
      · next same => subst same; exact tag
      · exact tag
  · exact .refl s

theorem claimChans_sound {p : Port} (set : List Chan) {s : State} (attached : (s.session p).attached = true) :
    StoreSound s (claimChans p set s) := by
  unfold claimChans
  induction set generalizing s with
  | nil => exact .refl s
  | cons c l ih =>
    have same : (claimChan p s c).session p = s.session p := by
      unfold claimChan
      split <;> rfl
    exact (claimChan_sound attached c).trans (ih (same ▸ attached))

/-- A session that stays or becomes ATTACHED. -/
theorem setSession_sound {p : Port} {r : Session} {s : State}
    (attached : r.attached = false → (s.session p).attached = false) : StoreSound s (s.setSession p r) := by
  have was : ∀ q, ((s.setSession p r).session q).attached = false → (s.session q).attached = false := fun q => by
    rw [State.setSession_session]
    split
    · next e => subst e; exact attached
    · exact id
  exact ⟨fun _ => Nat.le_refl _, fun h => ⟨⟨h.ownership.entries, h.ownership.pendingOpens,
    fun q detached => h.ownership.claims q (was q detached), fun q detached => h.ownership.store q (was q detached),
    fun q detached => h.ownership.arms q (was q detached)⟩, h.fault⟩,
    fun _ h => ⟨h.live, h.entries, h.deferred, h.nonzero⟩⟩

theorem setFront_sound (p : Port) (x : FrontEnd) (s : State) : StoreSound s (s.setFront p x) :=
  (StoreKeeps.of_ports (s := s) (t := s.setFront p x) ⟨fun _ => rfl, fun _ _ => rfl⟩ rfl fun _ => rfl).toStoreSound

theorem serveCancel_store (p : Port) (form : Byte) (tag : BitVec 16) (channel : Byte) (s : State) :
    StoreKeeps s (serveCancel p form tag channel s).state := by
  unfold serveCancel
  split
  · exact .refl s
  · split
    · exact .refl s
    · exact ((inFreeOrder_store _ s).trans (removeWhere_store _ _)).trans (work_store _ _)

/-- The timebase's own work leaves store, channels and arms. -/
theorem TimebaseKeeps.store {s t : State} (k : TimebaseKeeps s t) : StoreKeeps s t :=
  .of_ports ⟨fun p => by obtain ⟨n, placed⟩ := k.sessions p; exact placed.keeps.1,
    fun p i => (congrArg (fun u : State => u.arm p i) k.beside :)⟩ k.sched
    fun c => (congrArg (fun u : State => u.chan c) k.beside :)

theorem setDevice_store (d : DeviceSettings) (s : State) : StoreKeeps s (setDevice d s) :=
  StoreKeeps.trans (.of_ports ⟨fun _ => by rfl, fun _ _ => by rfl⟩ (by rfl) fun _ => by rfl)
    (setSelector_keeps d.mode d.offsetA d.offsetB _).store

theorem ackSession_attached (pos : Pos) (rest : List EventRecord) (r : Session) :
    (ackSession pos rest r).attached = r.attached := by
  unfold ackSession setAttn appendLoss
  dsimp only
  split
  · exact (placeIn_keeps _ _ _).1
  · rfl

/-- What every request but SCHEDULE keeps. -/
theorem act_sound {p : Port} {r : Request} {s : State} (noSchedule : ∀ a, r ≠ .schedule a)
    (allowed : (s.session p).attached = true ∨ allowedDetached r = true) : StoreSound s (act p r s).state := by
  have attached : allowedDetached r = false → (s.session p).attached = true := fun no =>
    allowed.resolve_right (by rw [no]; decide)
  cases r with
  | schedule a => exact absurd rfl (noSchedule a)
  | nop | readStatus | readDevice => exact .refl s
  | attach keepalive subs =>
    unfold act serveAttach
    dsimp only [accept]
    split
    · exact .refl s
    · split
      · exact setSession_sound id
      · exact (setSession_sound (by simp)).trans (setFront_sound p _ _)
  | detach =>
    unfold act serveDetach
    dsimp only [accept]
    split
    · exact .refl s
    · exact (sessionEnd_store p _ s).toStoreSound
  | resetPort =>
    unfold act serveResetPort
    dsimp only [accept]
    split
    · exact (sessionEnd_store p _ s).toStoreSound.trans (setFront_sound p _ _)
    · exact setFront_sound p _ s
  | clearNotices notices =>
    unfold act serveClearNotices
    dsimp only
    split
    · exact .refl s
    · exact setSession_sound id
  | setDevice a =>
    unfold act serveSetDevice
    dsimp only
    split
    · exact .refl s
    · split
      · exact .refl s
      · exact (setDevice_store _ s).toStoreSound
  | claim chans =>
    unfold act serveClaim
    dsimp only
    split
    · exact .refl s
    · split
      · exact .refl s
      · exact claimChans_sound _ (attached rfl)
  | release chans mode =>
    unfold act serveRelease
    dsimp only
    split
    · split
      · exact (releaseChans_store _ _ s).toStoreSound
      · exact .refl s
    · exact .refl s
  | setChannel a =>
    unfold act serveSetChannel
    dsimp only
    split
    · split
      · exact .refl s
      · exact (configure_store _ _ s).toStoreSound
    · exact .refl s
  | readChannel c =>
    unfold act serveReadChannel
    dsimp only
    split <;> exact .refl s
  | clearFault c =>
    unfold act serveClearFault
    dsimp only
    split
    · exact .refl s
    · split
      · exact .refl s
      · exact (setState_store (x := { s.chan _ with state := .opened }) ⟨rfl, rfl, fun h => by cases h⟩ _).toStoreSound
  | cancel form tag channel => exact (serveCancel_store p form tag channel s).toStoreSound
  | readSchedule start =>
    unfold act serveReadSchedule
    dsimp only
    split <;> exact .refl s
  | armCapture input edge count =>
    unfold act serveArmCapture
    dsimp only
    split
    · exact setArm_sound fun _ => .inl (attached rfl)
    · exact .refl s
  | disarmCapture input =>
    unfold act serveDisarmCapture
    dsimp only
    split
    · exact setArm_sound fun _ => .inr rfl
    · exact .refl s
  | takeEvents count =>
    unfold act serveTakeEvents
    dsimp only
    split <;> exact .refl s
  | ackEvents number =>
    unfold act serveAckEvents
    dsimp only
    split
    · exact .refl s
    · exact setSession_sound fun detached => (ackSession_attached _ _ _).symm.trans detached

theorem restartKeepalive_sound (p : Port) (s : State) : StoreSound s (restartKeepalive p s) := by
  unfold restartKeepalive
  dsimp only
  split
  · exact setSession_sound id
  · exact .refl s

end Sys2Proof.Machine
end

section
/-! The admission of an entry with its tag and its place; and O5, O7, O8, the store within its places, the owners and the tags. -/

namespace Sys2Proof.Machine

/-! ## The admission of an entry (R37, R41, R45) -/

/-- R45: what an admission makes of the store. -/
theorem admitEntry_keys (p : Port) (q : ScheduleParams) (s : State) :
    (liveKeys (admitEntry p q s).state.sched).Perm
        ({ tag := nextTag s, owner := p, chan := chanOf q.action } :: liveKeys s.sched)
      ∧ deferredKeys (admitEntry p q s).state.sched = deferredKeys s.sched := by
  unfold admitEntry
  dsimp only
  split
  · exact ⟨insertPending_liveKeys _ _ _ _, rfl⟩
  · refine ⟨?_, rfl⟩
    show (s.sched.pending.map (·.entry.key) ++ (s.sched.waiting ++ [_]).map Entry.key).Perm _
    rw [List.map_append, ← List.append_assoc]
    exact List.perm_append_singleton _ _

/-- R45: an admission changes the store alone. -/
theorem admitEntry_frame (p : Port) (q : ScheduleParams) (s : State) :
    (admitEntry p q s).state = { s with sched := (admitEntry p q s).state.sched } := by
  unfold admitEntry
  dsimp only
  split <;> rfl

theorem admitEntry_storeKeys (p : Port) (q : ScheduleParams) (s : State) :
    (storeKeys (admitEntry p q s).state.sched).Perm
      ({ tag := nextTag s, owner := p, chan := chanOf q.action } :: storeKeys s.sched) := by
  obtain ⟨live, deferred⟩ := admitEntry_keys p q s
  unfold storeKeys
  rw [deferred]
  exact live.append_right _

theorem admitEntry_ownCount (p : Port) (q : ScheduleParams) (s : State) (o : Port) :
    ownCount (admitEntry p q s).state.sched o = ownCount s.sched o + if p = o then 1 else 0 := by
  rw [ownCount_keys, ownCount_keys, (admitEntry_storeKeys p q s).countP_eq, List.countP_cons]
  simp

/-- R44 step 8: an admitted entry has a place. -/
theorem placeAvailable_of_scheduleRefusal {p : Port} {q : ScheduleParams} {s : State}
    (h : scheduleRefusal p q s = none) : placeAvailable s.sched p = true := by
  unfold scheduleRefusal at h
  grind

/-- R44 step 3: the channel of an admitted entry is held by the requester. -/
theorem holds_of_scheduleRefusal {p : Port} {q : ScheduleParams} {s : State} (h : scheduleRefusal p q s = none)
    {c : Chan} (names : chanOf q.action = some c) : s.holds p c = true := by
  unfold scheduleRefusal channelRefusal at h
  rw [names] at h
  grind

/-- R41: an admission takes an own place, or a shared one that is free. -/
theorem admitEntry_storeOk {p : Port} {q : ScheduleParams} {s : State} (place : placeAvailable s.sched p = true)
    (h : StoreOk s) : StoreOk (admitEntry p q s).state := by
  have place : ownCount s.sched p < 8 ∨ sharedUsed s.sched < 24 := of_decide_eq_true place
  unfold StoreOk sharedUsed at *
  simp only [admitEntry_ownCount]
  fin_cases p <;> simp at place ⊢ <;> omega

theorem admitEntry_owned {p : Port} {q : ScheduleParams} {s : State} (attached : (s.session p).attached = true)
    (holds : ∀ c, chanOf q.action = some c → s.holds p c = true) (h : OwnedOk s) : OwnedOk (admitEntry p q s).state := by
  have keys := admitEntry_storeKeys p q s
  have mem : ∀ e ∈ allEntries (admitEntry p q s).state.sched,
      e.owner = p ∧ chanOf e.action = chanOf q.action ∨ e.key ∈ storeKeys s.sched := fun e he => by
    rcases List.mem_cons.mp (keys.mem_iff.mp (mem_storeKeys he)) with new | old
    · exact .inl ⟨congrArg EntryKey.owner new, congrArg EntryKey.chan new⟩
    · exact .inr old
  rw [admitEntry_frame]
  refine ⟨⟨fun e he c names => ?_, h.ownership.pendingOpens, h.ownership.claims, fun o detached e he => ?_,
    h.ownership.arms⟩, h.fault⟩
  · rcases mem e he with ⟨rfl, chan⟩ | old
    · exact of_decide_eq_true (holds c (chan ▸ names))
    · exact h.ownership.key_holder old names
  · rcases mem e he with ⟨rfl, -⟩ | old
    · rintro rfl
      exact absurd (attached.symm.trans detached) (by decide)
    · exact h.ownership.key_owner old detached

/-! ## The next tag (R37) -/

theorem tagAfter_toNat (t : Tag) : (tagAfter t).toNat = t.toNat % 65535 + 1 := by
  unfold tagAfter
  have bound := t.isLt
  split
  · next top => rw [top]; rfl
  · next below =>
    have : t.toNat ≠ 65535 := fun e => below (BitVec.eq_of_toNat_eq e)
    rw [BitVec.toNat_add]
    simp
    omega

/-- R37: the counter's values from here on, one by one. -/
theorem iterate_tagAfter_toNat (t : Tag) (k : Nat) : (tagAfter^[k + 1] t).toNat = (t.toNat + k) % 65535 + 1 := by
  induction k with
  | zero => exact tagAfter_toNat t
  | succ k ih =>
    rw [Function.iterate_succ_apply', tagAfter_toNat, ih]
    omega

theorem iterate_tagAfter_ne_zero (t : Tag) (k : Nat) : tagAfter^[k + 1] t ≠ 0 := fun e => by
  have := iterate_tagAfter_toNat t k
  rw [e] at this
  simp at this

/-- R37: the landing is one of the counter's next values; where it is in use, so is every value skipped. -/
theorem landTag_spec (inUse : List Tag) (n : Nat) (t : Tag) :
    ∃ k ≤ n, landTag inUse n t = tagAfter^[k + 1] t
      ∧ (landTag inUse n t ∈ inUse → ∀ j ≤ n, tagAfter^[j + 1] t ∈ inUse) := by
  induction n generalizing t with
  | zero =>
    refine ⟨0, Nat.le_refl _, rfl, fun used j hj => ?_⟩
    rw [Nat.le_zero.mp hj]
    exact used
  | succ n ih =>
    unfold landTag
    split
    · next skipped =>
      obtain ⟨k, below, lands, all⟩ := ih (tagAfter t)
      refine ⟨k + 1, Nat.succ_le_succ below, lands, fun used j hj => ?_⟩
      cases j with
      | zero => simpa using skipped
      | succ j => exact all used j (Nat.le_of_succ_le_succ hj)
    · next free =>
      exact ⟨0, Nat.zero_le _, rfl, fun used => absurd used (by simpa using free)⟩

/-- R37: with fewer tags in use than there are tags, the landing is free. -/
theorem landTag_free {inUse : List Tag} {t : Tag} (few : inUse.length < 65535) :
    landTag inUse inUse.length t ∉ inUse := fun used => by
  obtain ⟨_, _, _, all⟩ := landTag_spec inUse inUse.length t
  have distinct : ((List.range (inUse.length + 1)).map fun j => tagAfter^[j + 1] t).Nodup := by
    refine List.Nodup.map_on (fun i hi j hj e => ?_) List.nodup_range
    rw [List.mem_range] at hi hj
    have value := congrArg BitVec.toNat e
    rw [iterate_tagAfter_toNat, iterate_tagAfter_toNat] at value
    omega
  have inside : ((List.range (inUse.length + 1)).map fun j => tagAfter^[j + 1] t) ⊆ inUse := fun x hx => by
    obtain ⟨j, hj, rfl⟩ := List.mem_map.mp hx
    exact all used j (Nat.lt_succ_iff.mp (List.mem_range.mp hj))
  have := (List.subperm_of_subset distinct inside).length_le
  simp at this

theorem length_allEntries (d : Schedule) : (allEntries d).length = ownCount d 0 + ownCount d 1 + ownCount d 2 := by
  unfold ownCount countEntries
  induction allEntries d with
  | nil => rfl
  | cons e l ih =>
    have owner : e.owner = 0 ∨ e.owner = 1 ∨ e.owner = 2 := by
      generalize e.owner = o
      fin_cases o <;> simp
    simp only [List.length_cons, List.countP_cons, ih]
    rcases owner with o | o | o <;> simp [o] <;> omega

/-- R37, R41: at most 48 entries and 12 held opens carry tags. -/
theorem tagsInUse_length {s : State} (h : StoreOk s) : (tagsInUse s).length ≤ 60 := by
  have held : (allChans.filterMap fun c => heldTag (s.chan c).pendingOpen).length ≤ 12 := List.length_filterMap_le _ _
  have entries := length_allEntries s.sched
  unfold StoreOk sharedUsed at h
  unfold tagsInUse
  rw [List.length_append, List.length_map]
  omega

/-- R37: the tag of an admission is unused. -/
theorem nextTag_fresh {s : State} (h : StoreOk s) : nextTag s ∉ tagsInUse s :=
  landTag_free (Nat.lt_of_le_of_lt (tagsInUse_length h) (by norm_num))

/-- R37: no tag is 0. -/
theorem nextTag_ne_zero (s : State) : nextTag s ≠ 0 := by
  obtain ⟨k, _, lands, _⟩ := landTag_spec (tagsInUse s) (tagsInUse s).length s.sched.tagCounter
  unfold nextTag
  rw [lands]
  exact iterate_tagAfter_ne_zero _ k

theorem tagsInUse_keys (s : State) : tagsInUse s = (storeKeys s.sched).map EntryKey.tag ++ heldTags s := by
  rw [← allTags_keys]
  rfl

theorem admitEntry_tags {p : Port} {q : ScheduleParams} {s : State} (store : StoreOk s) (h : TagsOk s) :
    TagsOk (admitEntry p q s).state := by
  have fresh := nextTag_fresh store
  rw [tagsInUse_keys, List.mem_append, not_or] at fresh
  obtain ⟨live, deferred⟩ := admitEntry_keys p q s
  have all := admitEntry_storeKeys p q s
  have chan : ∀ c, (admitEntry p q s).state.chan c = s.chan c := fun c => by rw [admitEntry_frame]; rfl
  have freshLive : nextTag s ∉ (liveKeys s.sched).map EntryKey.tag := fun used =>
    fresh.1 (by rw [storeKeys, List.map_append]; exact List.mem_append_left _ used)
  refine .of_keys ?_ ?_ (fun k hk => ?_) fun k hk => ?_
  · have held : heldTags (admitEntry p q s).state = heldTags s := heldTags_congr fun c => by rw [chan]
    rw [held]
    refine ((live.map EntryKey.tag).append_right _).symm.nodup ?_
    exact List.nodup_cons.mpr ⟨by simpa [freshLive] using fresh.2, h.live_keys⟩
  · exact (all.map EntryKey.tag).symm.nodup (List.nodup_cons.mpr ⟨fresh.1, h.store_keys⟩)
  · obtain ⟨c, names, tag⟩ := h.deferred_key (deferred ▸ hk)
    exact ⟨c, names, (chan c).symm ▸ tag⟩
  · rcases List.mem_cons.mp (all.mem_iff.mp hk) with new | old
    · rw [new]
      exact nextTag_ne_zero s
    · exact h.nonzero_key old

/-! ## O5, O7, O8 -/

/-- A property that goes on wherever ownership, tags and the entries' number do, and at an admission. -/
structure KeptByStore (P : State → Prop) : Prop where
  sound : ∀ s t, StoreSound s t → P s → P t
  admission : ∀ p q s, (s.session p).attached = true → scheduleRefusal p q s = none → P s → P (admitEntry p q s).state
  blocks : ∀ straps fbk suplowN power source s,
    P s → P { blocksReset straps fbk suplowN s with power := power, resetSource := source }

theorem serveSchedule_kept {P : State → Prop} (K : KeptByStore P) {p : Port} {a : ScheduleArgs} {s : State}
    (attached : (s.session p).attached = true) (h : P s) : P (serveSchedule p a s).state := by
  unfold serveSchedule
  split
  · exact h
  · split
    · exact h
    · next refusal => exact K.admission p _ s attached refusal h

theorem replyTo_kept {P : State → Prop} (K : KeptByStore P) (p : Port) (b : Received) {s : State} (h : P s) :
    P (replyTo p b s).state := by
  have restarted := K.sound _ _ (restartKeepalive_sound p s) h
  cases b with
  | checkError => exact h
  | badRequest => exact restarted
  | good r =>
    unfold replyTo serve
    dsimp only
    split
    · next checked =>
      have allowed := Bool.or_eq_true_iff.mp checked
      cases r with
      | schedule a => exact serveSchedule_kept K (allowed.resolve_right Bool.false_ne_true) restarted
      | _ => exact K.sound _ _ (act_sound (by simp) allowed) restarted
    · exact restarted

/-- Such a property is kept by every part of a step. -/
theorem KeptByStore.keptByParts {P : State → Prop} (K : KeptByStore P) : KeptByParts P := by
  have keeps : ∀ {s t}, StoreKeeps s t → P s → P t := fun k => K.sound _ _ k.toStoreSound
  have ports : ∀ {s t : State}, (∀ p, (t.session p).attached = (s.session p).attached) → (∀ p i, t.arm p i = s.arm p i) →
      t.sched = s.sched → (∀ c, t.chan c = s.chan c) → P s → P t :=
    fun attached arms sched chan => keeps (.of_ports ⟨attached, arms⟩ sched chan)
  have unseen : ∀ {s t : State}, t.sessions = s.sessions → t.arms = s.arms → t.sched = s.sched → t.chans = s.chans →
      P s → P t := fun {s t} sessions arms sched chans => ports (fun p => by rw [State.session, sessions]; rfl)
        (fun p i => by rw [State.arm, arms]; rfl) sched (fun c => by rw [State.chan, chans]; rfl)
  exact {
    draws := fun _ _ => unseen rfl rfl rfl rfl
    clock := fun _ _ _ => unseen rfl rfl rfl rfl
    inputs := fun _ _ _ _ _ _ => unseen rfl rfl rfl rfl
    ports := fun _ _ _ _ _ _ _ _ _ => unseen rfl rfl rfl rfl
    feedbackRun := fun s c run => keeps (setChan_kept (x := { s.chan c with fbkRun := run }) ⟨rfl, rfl, id⟩)
    supplyRun := fun _ _ => unseen rfl rfl rfl rfl
    accumulator := fun _ => unseen rfl rfl rfl rfl
    work := fun s => keeps (timebaseWork_keeps s).store
    offer := fun s => keeps (offerPosition_store s)
    edge := fun t s => keeps (timebaseEdge_keeps t s).store
    monitor := fun r s h => keeps (testStanding_keeps _).store
      (unseen (by simp) (by simp) (by simp) (by simp) h)
    silence := fun r s h => by
      unfold silenceLimitExpiry
      split
      · exact keeps (testStanding_keeps _).store (unseen (by simp) (by simp) (by simp) (by simp) h)
      · exact h
    capture := fun i d s => keeps (distributeEdge_store i d s)
    feedback := fun c closed s => keeps (feedbackChange_store c closed s)
    verify := fun c s => keeps (verifyExpiry_store c s)
    supplyLow := fun s => keeps (supplyEntry_store s)
    supplyHigh := fun s => keeps (supplyLeaving_store s)
    keepalive := fun p s => keeps (keepaliveExpiry_store p s)
    examine := fun c s => keeps (work_store [.examine c] s)
    drain := fun c s => keeps (drainCompletion_store c s)
    reply := fun p b _ => replyTo_kept K p b
    blocks := K.blocks }

theorem sharedUsed_le {d d' : Schedule} (counts : ∀ p, ownCount d' p ≤ ownCount d p) : sharedUsed d' ≤ sharedUsed d := by
  have c0 := counts 0
  have c1 := counts 1
  have c2 := counts 2
  unfold sharedUsed
  omega

/-- R41: only an admission adds an entry, and it has a place. -/
theorem storeOk_kept : KeptByStore StoreOk where
  sound _ _ k h := (sharedUsed_le k.counts).trans h
  admission _ _ _ _ refusal h := admitEntry_storeOk (placeAvailable_of_scheduleRefusal refusal) h
  blocks _ _ _ _ _ _ _ := by
    have empty : sharedUsed Schedule.reset ≤ 24 := by decide
    exact empty

/-- R188: a part whose blocks are at their reset values. -/
theorem owned_of_reset {t : State} (sched : t.sched = Schedule.reset) (chan : ∀ c, ∃ fbk, t.chan c = Channel.reset fbk)
    (arm : ∀ p i, t.arm p i = .idle) : OwnedOk t where
  ownership := {
    entries := fun e he => by rw [sched] at he; cases he
    pendingOpens := fun c _ => by obtain ⟨fbk, e⟩ := chan c; rw [e]; rfl
    claims := fun p _ c => by obtain ⟨fbk, e⟩ := chan c; simp [State.holds, e, Channel.reset, ownerOf]
    store := fun p _ e he => by rw [sched] at he; cases he
    arms := fun p _ => arm p }
  fault c _ := by obtain ⟨fbk, e⟩ := chan c; rw [e]; rfl

theorem tags_of_reset {t : State} (sched : t.sched = Schedule.reset) (chan : ∀ c, ∃ fbk, t.chan c = Channel.reset fbk) :
    TagsOk t := by
  have held : heldTags t = [] := List.filterMap_eq_nil_iff.mpr fun c _ => by
    obtain ⟨fbk, e⟩ := chan c
    rw [e]
    rfl
  refine .of_keys ?_ ?_ ?_ ?_ <;> rw [sched]
  · rw [held]
    exact List.nodup_nil
  · exact List.nodup_nil
  · exact fun k hk => by cases hk
  · exact fun k hk => by cases hk

theorem blocksReset_owned (straps : Straps) (fbk : BitVec 12) (suplowN : Bool) (s : State) :
    OwnedOk (blocksReset straps fbk suplowN s) :=
  owned_of_reset rfl (fun c => ⟨_, resetChannels_get fbk c⟩) fun p i =>
    (congrArg (·.get i) (replicate_get 3 (Vector.replicate 4 Arm.idle) p)).trans (replicate_get 4 Arm.idle i)

theorem blocksReset_tags (straps : Straps) (fbk : BitVec 12) (suplowN : Bool) (s : State) :
    TagsOk (blocksReset straps fbk suplowN s) :=
  tags_of_reset rfl fun c => ⟨_, resetChannels_get fbk c⟩

/-- R63, R126. -/
theorem ownedOk_kept : KeptByStore OwnedOk where
  sound _ _ k h := k.owned h
  admission _ _ _ attached refusal h := admitEntry_owned attached (fun _ => holds_of_scheduleRefusal refusal) h
  blocks straps fbk suplowN _ _ s _ :=
    have reset := blocksReset_owned straps fbk suplowN s
    ⟨⟨reset.ownership.entries, reset.ownership.pendingOpens, reset.ownership.claims, reset.ownership.store,
      reset.ownership.arms⟩, reset.fault⟩

/-- R37: the tags, with what they rest on. -/
structure TaggedOk (s : State) : Prop where
  owned : OwnedOk s
  store : StoreOk s
  tags : TagsOk s

theorem taggedOk_kept : KeptByStore TaggedOk where
  sound s t k h := ⟨k.owned h.owned, storeOk_kept.sound s t k h.store, k.tags h.owned h.tags⟩
  admission p q s attached refusal h :=
    ⟨ownedOk_kept.admission p q s attached refusal h.owned, storeOk_kept.admission p q s attached refusal h.store,
      admitEntry_tags h.store h.tags⟩
  blocks straps fbk suplowN power source s h :=
    have reset := blocksReset_tags straps fbk suplowN s
    ⟨ownedOk_kept.blocks straps fbk suplowN power source s h.owned,
      storeOk_kept.blocks straps fbk suplowN power source s h.store,
      ⟨reset.live, reset.entries, reset.deferred, reset.nonzero⟩⟩

/-- Settles O5: only an admission adds an entry, and it takes an own place or a shared one that is free. -/
theorem storeStaysWithin : Obligations.StoreStaysWithin := by
  unfold Obligations.StoreStaysWithin
  intro s t h e
  exact storeOk_kept.keptByParts.step h e

/-- Settles O7: entries keep owner and channel, and a claim ends only where no entry names its channel. -/
theorem ownershipStays : Obligations.OwnershipStays := by
  unfold Obligations.OwnershipStays
  intro s t switching ownership e
  exact (ownedOk_kept.keptByParts.step (.of_switching switching ownership) e).ownership

/-- Settles O8: entries keep their tags, a held open has the tag that its entry gave up, and a new tag is unused. -/
theorem tagsStayDistinct : Obligations.TagsStayDistinct := by
  unfold Obligations.TagsStayDistinct
  intro s t store switching ownership tags e
  exact (taggedOk_kept.keptByParts.step ⟨.of_switching switching ownership, store, tags⟩ e).tags

end Sys2Proof.Machine
end

section
/-! The issue of one entry at an advance (R46 to R53): what it makes of the store, the sessions, the channels and the groups,
operation by operation, for the statements about firings. -/

namespace Sys2Proof.Machine

/-! ## Tasks that find nothing to do -/

/-- The task changes nothing and sets nothing going, in a loop of R46 or outside. -/
def Idle (s : State) (t : Task) : Prop := ∀ inLoop, t.run inLoop s = (s, [])

theorem idle_examine {c : Chan} {s : State} (none : (s.chan c).pendingOpen = none) : Idle s (.examine c) := fun _ => by
  unfold Task.run examinePendingOpen
  dsimp only
  rw [none]

theorem idle_drain {c : Chan} {s : State} (notReleasing : isReleasing (s.chan c).claim = false) :
    Idle s (.drain c) := fun _ => by
  simp [Task.run, drainTest, notReleasing]

theorem idle_fireOn {s : State} (ahead : Ahead s.ltb.pos s.sched.pending) : Idle s .fireOn := fun _ =>
  fireHead_ahead ahead

/-- Idle tasks leave the state, however many the bound of log 12 lets run. -/
theorem runTasks_idle {s : State} (n : Nat) (tasks : List Task) (idle : ∀ t ∈ tasks, Idle s t) :
    runTasks n tasks s = s := by
  induction n generalizing tasks with
  | zero => rfl
  | succ n ih =>
    cases tasks with
    | nil => rfl
    | cons t ts =>
      rw [runTasks_cons, idle t List.mem_cons_self]
      exact ih ts fun t' ht' => idle t' (List.mem_cons_of_mem _ ht')

theorem work_idle {s : State} {tasks : List Task} (idle : ∀ t ∈ tasks, Idle s t) : work tasks s = s :=
  runTasks_idle _ _ idle

/-- One task that sets only idle ones going. -/
theorem work_one {t : Task} {ts : List Task} {s : State}
    (idle : ∀ t' ∈ (t.run (ts.contains .fireOn) s).2 ++ ts, Idle (t.run (ts.contains .fireOn) s).1 t') :
    work (t :: ts) s = (t.run (ts.contains .fireOn) s).1 := by
  unfold work
  rw [workFuel_succ, runTasks_cons]
  exact runTasks_idle _ _ idle

/-! ## The ends of a firing -/

/-- R55: a record handed over is a session record written. -/
theorem handTo_eq (p : Port) (pos : Pos) (body : EventBody) (s : State) :
    s.handTo p pos body = s.setSession p (received pos body (s.session p)) := by
  unfold State.handTo received
  split
  · rfl
  · simp [State.setSession, State.session, Vector.get_eq_getElem]

/-- R53: the repeat with which an entry fires again after this firing. -/
def nextRepeat (e : Entry) : Option Repeat := (e.rep.map decrement).filter fun r => firingsRemain r && !e.lastRun

/-- R53: the end of a firing. -/
theorem endFiring_eq (e : Entry) (due : Pos) (s : State) :
    (endFiring e due s).1 = match nextRepeat e with
      | some r => reinsertNext e r due s
      | none => s := by
  unfold endFiring nextRepeat
  cases e.rep with
  | none => rfl
  | some r =>
    dsimp only [Option.map_some]
    split
    · next more => simp [Option.filter, more]
    · next last => simp only [Option.filter, last]; rfl

theorem lastEntryReport_tasks {a : Action} {s : State} {t : Task} (h : t ∈ lastEntryReport a s) :
    ∃ c, chanOf a = some c ∧ t = .drain c := by
  unfold lastEntryReport at h
  split at h
  · next c names =>
    split at h
    · cases h
    · exact ⟨c, names, List.mem_singleton.mp h⟩
  · cases h

theorem endFiring_tasks {e : Entry} {due : Pos} {s : State} {t : Task} (h : t ∈ (endFiring e due s).2) :
    ∃ c, chanOf e.action = some c ∧ t = .drain c := by
  unfold endFiring at h
  split at h
  · split at h
    · cases h
    · exact lastEntryReport_tasks h
  · exact lastEntryReport_tasks h

theorem afterDone_tasks {x : PendingEntry} {s : State} {t : Task} (h : t ∈ (afterDone x s).2) :
    ∃ c, chanOf x.entry.action = some c ∧ t = .drain c := by
  unfold afterDone at h
  split at h
  · cases h
  · exact endFiring_tasks h

theorem handOff_tasks {x : PendingEntry} {c : Chan} {s : State} {t : Task} (h : t ∈ (handOff x c s).2) :
    ∃ c, chanOf x.entry.action = some c ∧ t = .drain c := by
  unfold handOff at h
  dsimp only at h
  split at h
  · split at h
    · cases h
    · exact lastEntryReport_tasks h
  · exact lastEntryReport_tasks h

theorem endFiring_chan (e : Entry) (due : Pos) (s : State) (c : Chan) : (endFiring e due s).1.chan c = s.chan c :=
  (endFiring_refired e due s).chan c

theorem afterDone_chan (x : PendingEntry) (s : State) (c : Chan) : (afterDone x s).1.chan c = s.chan c :=
  (afterDone_refired x s).chan c

theorem issueMissed_chan (x : PendingEntry) (reason : MissReason) (s : State) (c : Chan) :
    (issueMissed x reason s).1.chan c = s.chan c :=
  (endFiring_chan _ _ _ c).trans (by simp [missedRecord])

theorem issueDone_chan (x : PendingEntry) (already : Bool) (s : State) (c : Chan) :
    (issueDone x already s).1.chan c = s.chan c :=
  (afterDone_chan _ _ c).trans (by simp [doneRecord])

/-- R51: a hand-off writes the pending open of its channel alone. -/
theorem handOff_chan (x : PendingEntry) (c : Chan) (s : State) (d : Chan) :
    (handOff x c s).1.chan d =
      if c = d then { s.chan d with pendingOpen := some (.held x.entry.tag x.entry.label) } else s.chan d := by
  have written : (handOff x c s).1.chan d =
      (s.setChan c { s.chan c with pendingOpen := some (.held x.entry.tag x.entry.label) }).chan d := by
    unfold handOff
    dsimp only
    split
    · split <;> rfl
    · rfl
  rw [written, State.setChan_chan]
  split
  · next e => rw [e]
  · rfl

/-- What an issue sets going on a channel, and what it leaves of it: no task finds work on a channel that is not RELEASING
and owes no open. -/
structure IssueLeaves (a : Action) (s t : State) (tasks : List Task) : Prop where
  claim : ∀ c, (t.chan c).claim = (s.chan c).claim
  tasks : ∀ task ∈ tasks, ∃ c, chanOf a = some c
    ∧ (task = .drain c ∨ task = .examine c ∧ (t.chan c).pendingOpen = (s.chan c).pendingOpen)

theorem issueMissed_leaves (x : PendingEntry) (reason : MissReason) (s : State) :
    IssueLeaves x.entry.action s (issueMissed x reason s).1 (issueMissed x reason s).2 where
  claim c := by rw [issueMissed_chan]
  tasks _ h := by
    obtain ⟨c, names, e⟩ := endFiring_tasks h
    exact ⟨c, names, .inl e⟩

theorem issueDone_leaves (x : PendingEntry) (already : Bool) (s : State) :
    IssueLeaves x.entry.action s (issueDone x already s).1 (issueDone x already s).2 where
  claim c := by rw [issueDone_chan]
  tasks _ h := by
    obtain ⟨c, names, e⟩ := afterDone_tasks h
    exact ⟨c, names, .inl e⟩

theorem handOff_leaves (x : PendingEntry) (c : Chan) (s : State) :
    IssueLeaves x.entry.action s (handOff x c s).1 (handOff x c s).2 where
  claim d := by rw [handOff_chan]; split <;> rfl
  tasks _ h := by
    obtain ⟨d, names, e⟩ := handOff_tasks h
    exact ⟨d, names, .inl e⟩

theorem issueAnswered_leaves {x : PendingEntry} {c : Chan} (a : Answer) (s : State)
    (names : chanOf x.entry.action = some c) :
    IssueLeaves x.entry.action s (issueAnswered x c a s).1 (issueAnswered x c a s).2 := by
  unfold issueAnswered
  split
  · have done := issueDone_leaves x false s
    refine ⟨done.claim, fun task h => ?_⟩
    rcases List.mem_append.mp h with own | further
    · exact done.tasks task own
    · refine ⟨c, names, ?_⟩
      rcases List.mem_cons.mp further with examine | drain
      · exact .inr ⟨examine, by rw [issueDone_chan]⟩
      · exact .inl (List.mem_singleton.mp drain)
  · exact issueDone_leaves x true s
  · split
    · exact handOff_leaves x c s
    · exact issueMissed_leaves x _ s

theorem IssueLeaves.after {a : Action} {s u t : State} {tasks : List Task} (stands : StoreStands s u)
    (h : IssueLeaves a u t tasks) : IssueLeaves a s t tasks where
  claim c := (h.claim c).trans (stands.chans c).claim
  tasks task ht := by
    obtain ⟨c, names, e⟩ := h.tasks task ht
    exact ⟨c, names, e.imp_right fun ⟨examine, pendingOpen⟩ =>
      ⟨examine, pendingOpen.trans (stands.chans c).pendingOpen⟩⟩

theorem issue_leaves (x : PendingEntry) (s : State) : IssueLeaves x.entry.action s (issue x s).1 (issue x s).2 := by
  unfold issue
  dsimp only
  split
  · exact issueMissed_leaves x _ s
  · split
    · exact issueMissed_leaves x _ s
    · split
      · exact issueDone_leaves x false s
      · next c names =>
        split
        · exact (issueAnswered_leaves _ _ names).after (closeCommand_stands c s)
        · exact (issueAnswered_leaves _ _ names).after (openCommand_stands c s)

/-! ## The entry that an advance reaches -/

/-- R76, R91: the part at the issue of an entry that an advance reaches, with `rest` behind it: the dwell settled flags and
the vacated positions of the offer, the entry gone from the pending list. -/
structure AtIssue (rest : List PendingEntry) (u v : State) : Prop where
  frame : v = { u with chans := v.chans, groups := v.groups, sched := { u.sched with pending := rest } }
  chan : ∀ c, v.chan c =
    { u.chan c with settled := (u.chan c).settled || decide (66048 ≤ signedDistance u.ltb.pos (u.chan c).changePos) }
  group : ∀ g, v.group g = offeredGroup u.ltb.pos (u.group g)

namespace AtIssue

variable {rest : List PendingEntry} {u v : State} (h : AtIssue rest u v)
include h

theorem ltb : v.ltb = u.ltb := by rw [h.frame]
theorem now : v.now = u.now := by rw [h.frame]
theorem supply : v.supply = u.supply := by rw [h.frame]
theorem sessions : v.sessions = u.sessions := by rw [h.frame]
theorem session (p : Port) : v.session p = u.session p := by rw [State.session, h.sessions]; rfl
theorem sched : v.sched = { u.sched with pending := rest } := by rw [h.frame]
theorem state (c : Chan) : (v.chan c).state = (u.chan c).state := by rw [h.chan]
theorem cfg (c : Chan) : (v.chan c).cfg = (u.chan c).cfg := by rw [h.chan]

/-- What an issue leaves besides channels, groups, sessions and store. -/
theorem issued {t : State} (k : WorkKeeps v t) :
    t = { u with chans := t.chans, groups := t.groups, sessions := t.sessions, sched := t.sched } := by
  have rest := k.rest
  rw [h.frame] at rest
  simp only [State.rest, State.mk.injEq] at rest
  cases t
  simp_all

end AtIssue

/-- R46: the loop issues the one entry that has been reached, and what that sets going finds nothing to do. -/
theorem work_fires {x : PendingEntry} {rest : List PendingEntry} {s t : State} {tasks : List Task}
    (head : s.sched.pending = x :: rest) (reachedPos : signedDistance x.fire s.ltb.pos ≤ 0)
    (issued : issue x { s with sched := { s.sched with pending := rest } } = (t, tasks))
    (idle : ∀ task ∈ tasks, Idle t task) (ahead : Ahead t.ltb.pos t.sched.pending) : work [.fire] s = t := by
  have fired : fireHead s = (t, tasks ++ [.fireOn]) := by rw [fireHead_reached head reachedPos, issued]
  have run : Task.run (([] : List Task).contains .fireOn) .fire s = (t, tasks ++ [.fireOn]) := fired
  rw [work_one, run]
  rw [run, List.append_nil]
  intro task h
  rcases List.mem_append.mp h with own | again
  · exact idle task own
  · rw [List.mem_singleton.mp again]
    exact idle_fireOn ahead

/-- R2, R46: an advance that reaches one entry issues it; what the issue sets going finds nothing to do, as long as it
reinserts the entry ahead of the position. -/
theorem exec_fires {x : PendingEntry} {rest : List PendingEntry} {s : State} (h : FiresNext x rest s) :
    ∃ v, AtIssue rest (advanceCount s) v
      ∧ (Ahead (advanceCount s).ltb.pos (issue x v).1.sched.pending → exec .advance s = .next (issue x v).1) := by
  obtain ⟨⟨alone, point, boundary, noOpens⟩, head, reachedPos, -, owners⟩ := h
  rw [exec_advance_alone alone, timebaseWork_between point boundary]
  generalize advanceCount s = u at *
  obtain ⟨chans, groups, offered, chan, group⟩ := atOffer_fields u
  have noOpens := atOffer_noOpens noOpens
  have tasks : offerTasks (atOffer u) = [.fire] := by
    have headReached : headReached (atOffer u) = true := by
      unfold Machine.headReached
      rw [atOffer_sched, head]
      simpa [reached] using reachedPos
    rw [offerTasks_noOpens noOpens, headReached]
    rfl
  rw [offerPosition_eq, tasks, State.inFreeOrder_short _ _ (by simp), offered]
  rw [offered] at noOpens
  let v : State := { u with chans := chans, groups := groups, sched := { u.sched with pending := rest } }
  have leaves := issue_leaves x v
  have ltb : (issue x v).1.ltb = u.ltb := (issue_keeps x v).ltb
  refine ⟨v, ⟨rfl, chan, group⟩, fun ahead => congrArg Host.Outcome.next
    (work_fires head reachedPos (tasks := (issue x v).2) rfl (fun task ht => ?_) (ltb ▸ ahead))⟩
  obtain ⟨c, names, rfl | ⟨rfl, pendingOpen⟩⟩ := leaves.tasks task ht
  · refine idle_drain ?_
    have claim : (v.chan c).claim = (u.chan c).claim := by rw [show v.chan c = _ from chan c]
    rw [leaves.claim, claim]
    exact (owners c names).2
  · exact idle_examine (pendingOpen.trans (noOpens c))

theorem handTo_sessions (p : Port) (pos : Pos) (body : EventBody) (s : State) :
    (s.handTo p pos body).sessions = s.sessions.set p.val (received pos body (s.session p)) p.isLt := by
  rw [handTo_eq]
  rfl

theorem issueFigure_once {e : Entry} (once : e.rep = none) : issueFigure e = 0 := by
  rw [issueFigure, once]
  rfl

/-- R53: the end of a firing without a repeat. -/
theorem endFiring_once {e : Entry} {due : Pos} {s : State} (once : e.rep = none) : (endFiring e due s).1 = s := by
  rw [endFiring_eq, nextRepeat, once]
  rfl

theorem issueMissed_once {x : PendingEntry} {reason : MissReason} {s : State} (once : x.entry.rep = none) :
    (issueMissed x reason s).1 = missedRecord x.entry reason s := endFiring_once once

/-- R47, R48: a test of an issue that is not passed. -/
theorem issue_untimely {x : PendingEntry} {s : State} (first : isSecond x.entry.action = false)
    (unmet : toleranceMet x.entry.tol s.ltb.lock = false) : issue x s = issueMissed x .timebase s := by
  simp [issue, first, unmet]

theorem issue_undersupplied {x : PendingEntry} {s : State} (closing : isClosing x.entry.action = true)
    (met : toleranceMet x.entry.tol s.ltb.lock = true) (low : s.supply.low = true) :
    issue x s = issueMissed x .supply s := by
  simp [issue, met, closing, low]

/-- Settles O36: either test ends the entry with its MISSED record alone. -/
theorem issueIsMissed : Obligations.IssueMissed := by
  unfold Obligations.IssueMissed
  intro x rest s fires once
  obtain ⟨v, atIssue, exec⟩ := exec_fires fires
  obtain ⟨-, -, -, ahead, -⟩ := fires
  generalize Machine.exec .advance s = outcome at *
  generalize advanceCount s = u at *
  intro u e permitted missed
  have met : permitted = toleranceMet e.tol v.ltb.lock := by rw [atIssue.ltb]; rfl
  have ends : ∀ reason, issue x v = issueMissed x reason v → missed reason := fun reason issued => by
    rw [issued, issueMissed_once once] at exec
    refine ⟨_, exec ?_, ?_⟩
    · rw [missedRecord, State.handTo_sched, atIssue.sched]
      exact ahead
    · have keeps := missedRecord_keeps x.entry reason v
      refine ⟨?_, ?_, fun c => ?_, fun g => ?_⟩
      · have frame := atIssue.issued keeps
        have sched : (missedRecord x.entry reason v).sched = { u.sched with pending := rest } := by
          rw [missedRecord, State.handTo_sched, atIssue.sched]
        rwa [sched] at frame
      · rw [OnlySession, missedRecord, handTo_sessions, atIssue.sessions, atIssue.session, atIssue.ltb, issueFigure_once once]
      · rw [missedRecord, State.handTo_chan, atIssue.chan]
      · rw [missedRecord, State.handTo_group]
        exact atIssue.group g
  refine ⟨fun first unmet => ends _ (issue_untimely first (met ▸ unmet)), fun closing passed low => ends _ ?_⟩
  exact issue_undersupplied closing (met ▸ passed) (by rw [atIssue.supply]; exact low)

end Sys2Proof.Machine
end

section
/-! Commands on a channel and their outcomes (R49 to R55, R77, R78, R91 to R93): what a command makes of its channel and its
groups, what the offer of the position leaves of its tests, and the statements about the entries that an advance issues. -/

namespace Sys2Proof.Machine

/-! ## A channel and its group -/

/-- R90: a channel's occupancy as its state gives it. -/
def occupancyOf (ch : Channel) : Channel :=
  { ch with occupant := if ch.cfg.group.isSome then occupies ch else ch.occupant }

theorem updateOccupancy_chan (c : Chan) (s : State) (d : Chan) :
    (updateOccupancy c s).chan d = if c = d then occupancyOf (s.chan c) else s.chan d := by
  unfold updateOccupancy occupancyOf
  dsimp only
  split
  · next ungrouped =>
    simp only [ungrouped, Option.isSome_none, Bool.false_eq_true, if_false]
    split
    · next e => rw [e]
    · rfl
  · next g grouped =>
    have written : ∀ t : State, (∀ d, t.chan d = (s.setChan c { s.chan c with occupant := occupies (s.chan c) }).chan d) →
        t.chan d = if c = d then { s.chan c with occupant := occupies (s.chan c) } else s.chan d := fun t h => by
      rw [h, State.setChan_chan]
    simp only [grouped, Option.isSome_some, if_true]
    split
    · exact written _ fun _ => rfl
    · exact written _ fun _ => rfl

theorem updateOccupancy_sessions (c : Chan) (s : State) : (updateOccupancy c s).sessions = s.sessions := by
  unfold updateOccupancy
  dsimp only
  split
  · rfl
  · split <;> rfl

theorem groupOccupied_false {s : State} {g : GroupId} : groupOccupied s g = false ↔ ∀ d, isOccupant s g d = false := by
  simp [groupOccupied, List.any_eq_false, mem_allChans]

theorem isOccupant_setChan (s : State) (c d : Chan) (ch : Channel) (g : GroupId) :
    isOccupant (s.setChan c ch) g d =
      if c = d then decide (ch.cfg.group = some g) && ch.occupant else isOccupant s g d := by
  unfold isOccupant
  rw [State.setChan_chan]
  split <;> rfl

/-- A group with the channel rewritten as one of its members is empty when nothing else occupied it. -/
theorem groupOccupied_setChan {s : State} {c : Chan} {ch : Channel} {g : GroupId} (grouped : ch.cfg.group = some g) :
    groupOccupied (s.setChan c ch) g = false ↔
      ch.occupant = false ∧ ∀ d, isOccupant s g d = true → d = c := by
  simp only [groupOccupied_false, isOccupant_setChan]
  refine ⟨fun h => ⟨by simpa [grouped] using h c, fun d occ => ?_⟩, fun ⟨own, h⟩ d => ?_⟩
  · by_contra other
    have empty := h d
    rw [if_neg (Ne.symm other)] at empty
    exact absurd occ (by simp [empty])
  · split
    · simp [own]
    · next other => exact Bool.eq_false_iff.mpr fun occ => other (h d occ).symm

/-- R91: a group is vacated when its last occupant leaves it. -/
theorem updateOccupancy_group (c : Chan) (s : State) : GroupsFollow c id s (updateOccupancy c s) := by
  intro g
  rw [updateOccupancy_chan, if_pos rfl]
  unfold updateOccupancy occupancyOf
  dsimp only
  split
  · next ungrouped => simp [ungrouped]
  · next g' grouped =>
    have empty := groupOccupied_setChan (s := s) (c := c) (ch := { s.chan c with occupant := occupies (s.chan c) }) grouped
    simp only [grouped, Option.isSome_some, if_true, Option.some.injEq]
    by_cases leaves : (s.chan c).occupant = true ∧ occupies (s.chan c) = false
        ∧ ∀ d, isOccupant s g' d = true → d = c
    · obtain ⟨was, gone, alone⟩ := leaves
      rw [if_pos (by rw [empty.mpr ⟨gone, alone⟩, was, gone]; rfl), vacate, State.setGroup_group]
      by_cases same : g' = g
      · subst same
        rw [if_pos rfl, if_pos ⟨rfl, was, gone, alone⟩]
        rfl
      · rw [if_neg same, if_neg fun h => same h.1]
        rfl
    · rw [if_neg, if_neg]
      · rfl
      · rintro ⟨rfl, h⟩
        exact leaves h
      · simp only [Bool.and_eq_true, Bool.not_eq_true']
        rintro ⟨⟨was, gone⟩, h⟩
        exact leaves ⟨was, gone, (empty.mp h).2⟩

theorem isOccupant_congr {s t : State} {d : Chan} (cfg : (t.chan d).cfg = (s.chan d).cfg)
    (occupant : (t.chan d).occupant = (s.chan d).occupant) (g : GroupId) : isOccupant t g d = isOccupant s g d := by
  rw [isOccupant, isOccupant, cfg, occupant]

namespace GroupsFollow

variable {c : Chan} {kept : Group → Group} {u v t : State}

theorem stays (h : GroupsFollow c kept u t) (occupant : (u.chan c).occupant = true → (t.chan c).occupant = true)
    (g : GroupId) : t.group g = kept (u.group g) := by
  rw [h g, if_neg]
  rintro ⟨-, was, gone, -⟩
  rw [occupant was] at gone
  cases gone

theorem of_groups (groups : ∀ g, t.group g = kept (u.group g))
    (occupant : (u.chan c).occupant = true → (t.chan c).occupant = true) : GroupsFollow c kept u t := fun g => by
  rw [if_neg, groups]
  rintro ⟨-, was, gone, -⟩
  rw [occupant was] at gone
  cases gone

/-- The groups may be compared with a state in which the same channels occupy them. -/
theorem of_occupants (h : GroupsFollow c id v t) (cfg : ∀ d, (v.chan d).cfg = (u.chan d).cfg)
    (occupant : ∀ d, (v.chan d).occupant = (u.chan d).occupant) (pos : v.ltb.pos = u.ltb.pos)
    (gap : ∀ g, (v.group g).gap = (u.group g).gap) (group : ∀ g, v.group g = kept (u.group g)) :
    GroupsFollow c kept u t := fun g => by
  have same : ∀ d, isOccupant v g d = isOccupant u g d := fun d => isOccupant_congr (cfg d) (occupant d) g
  have follow := h g
  simp only [cfg, occupant, same, pos, id_eq] at follow
  rw [follow]
  split
  · exact congrArg (Group.mk _) (gap g)
  · exact group g

end GroupsFollow

/-! ## What a command makes of its channel -/

/-- R68, R90: a channel that a close is accepted on. -/
def closedChannel (now : Nat) (pos : Pos) (ch : Channel) : Channel :=
  { ch with
    state := if ch.cfg.present then .closing else .closed
    drive := true, changePos := pos, settled := false, closures := ch.closures + 1
    occupant := ch.cfg.group.isSome || ch.occupant
    verifyAt := if ch.cfg.present then some (now + 2000 * ch.cfg.verify.toNat) else ch.verifyAt }

theorem occupancyOf_closeChannel (now : Nat) (pos : Pos) (ch : Channel) :
    occupancyOf (closeChannel now pos ch) = closedChannel now pos ch := by
  unfold closeChannel
  dsimp only
  split
  · next present =>
    have present : ch.cfg.present = true := present
    cases grouped : ch.cfg.group <;>
      simp [occupancyOf, closedChannel, driveOn, startVerify, occupies, grouped, present]
  · next absent =>
    have absent : ch.cfg.present = false := Bool.eq_false_iff.mpr absent
    cases grouped : ch.cfg.group <;>
      simp [occupancyOf, closedChannel, driveOn, occupies, grouped, absent]

theorem occupancyOf_enterOpening (now : Nat) (pos : Pos) (ch : Channel) :
    occupancyOf (enterOpening now (driveOff pos ch)) = openedChannel now pos ch := by
  unfold enterOpening
  split
  · next moving =>
    have moving : (ch.cfg.present && ch.feedback) = true := moving
    cases grouped : ch.cfg.group <;>
      simp [occupancyOf, openedChannel, driveOff, startVerify, occupies, moving, grouped]
  · next still =>
    have still : (ch.cfg.present && ch.feedback) = false := Bool.eq_false_iff.mpr still
    cases grouped : ch.cfg.group <;> simp [occupancyOf, openedChannel, driveOff, occupies, still, grouped]

/-- What a command on a channel leaves besides the channel itself. -/
structure Commanded (c : Chan) (ch : Channel) (s t : State) : Prop where
  stands : StoreStands s t
  sessions : t.sessions = s.sessions
  chan : ∀ d, t.chan d = if c = d then ch else s.chan d
  groups : GroupsFollow c id s t

namespace Commanded

theorem refl (c : Chan) (s : State) : Commanded c (s.chan c) s s where
  stands := .refl s
  sessions := rfl
  chan d := by split
               · next e => rw [e]
               · rfl
  groups := .of_groups (fun _ => rfl) id

theorem own {c : Chan} {ch : Channel} {s t : State} (h : Commanded c ch s t) : t.chan c = ch := by
  rw [h.chan, if_pos rfl]

theorem other {c d : Chan} {ch : Channel} {s t : State} (h : Commanded c ch s t) (ne : d ≠ c) :
    t.chan d = s.chan d := by
  rw [h.chan, if_neg (Ne.symm ne)]

/-- A channel written with its occupancy, its group and its being an occupant unchanged until then. -/
theorem written {c : Chan} {ch : Channel} {s : State} (cfg : ch.cfg = (s.chan c).cfg)
    (occupant : ch.occupant = (s.chan c).occupant) (stands : StoreStands s (updateOccupancy c (s.setChan c ch))) :
    Commanded c (occupancyOf ch) s (updateOccupancy c (s.setChan c ch)) where
  stands := stands
  sessions := updateOccupancy_sessions c _
  chan d := by
    rw [updateOccupancy_chan, State.setChan_chan_same]
    split
    · rfl
    · next ne => rw [State.setChan_chan_ne _ _ ne]
  groups := by
    refine (updateOccupancy_group c _).of_occupants (fun d => ?_) (fun d => ?_) rfl (fun _ => rfl) fun _ => rfl
    · rw [State.setChan_chan]
      split
      · next e => rw [cfg, e]
      · rfl
    · rw [State.setChan_chan]
      split
      · next e => rw [occupant, e]
      · rfl

end Commanded

theorem closeCommand_commands (c : Chan) (s : State) :
    Commanded c (if closeAnswer s c = .accepted then closedChannel s.now s.ltb.pos (s.chan c) else s.chan c) s
      (closeCommand c s).2 := by
  have stands := closeCommand_stands c s
  split
  · next accepted =>
    have command : (closeCommand c s).2 = updateOccupancy c (s.setChan c (closeChannel s.now s.ltb.pos (s.chan c))) := by
      unfold closeCommand
      rw [accepted]
    obtain ⟨cfg, occupant⟩ : (closeChannel s.now s.ltb.pos (s.chan c)).cfg = (s.chan c).cfg
        ∧ (closeChannel s.now s.ltb.pos (s.chan c)).occupant = (s.chan c).occupant := by
      unfold closeChannel
      dsimp only
      split <;> exact ⟨rfl, rfl⟩
    rw [command] at stands ⊢
    exact occupancyOf_closeChannel s.now s.ltb.pos (s.chan c) ▸ .written cfg occupant stands
  · next refused =>
    rw [closeCommand_refused refused]
    exact .refl c s

theorem openCommand_commands (c : Chan) (s : State) :
    Commanded c (if openAnswer s c = .accepted then openedChannel s.now s.ltb.pos (s.chan c) else s.chan c) s
      (openCommand c s).2 := by
  have stands := openCommand_stands c s
  split
  · next accepted =>
    have command : (openCommand c s).2 =
        updateOccupancy c (s.setChan c (enterOpening s.now (driveOff s.ltb.pos (s.chan c)))) := by
      unfold openCommand
      rw [accepted]
    obtain ⟨cfg, occupant⟩ : (enterOpening s.now (driveOff s.ltb.pos (s.chan c))).cfg = (s.chan c).cfg
        ∧ (enterOpening s.now (driveOff s.ltb.pos (s.chan c))).occupant = (s.chan c).occupant := by
      unfold enterOpening
      split <;> exact ⟨rfl, rfl⟩
    rw [command] at stands ⊢
    exact occupancyOf_enterOpening s.now s.ltb.pos (s.chan c) ▸ .written cfg occupant stands
  · next refused =>
    rw [openCommand_refused refused]
    exact .refl c s

/-! ## The tests of a command behind the offer -/

/-- R76: the offer sets no settled flag that a dwell test waits for: every dwell is shorter than its 66048 steps. -/
theorem AtIssue.dwell {rest : List PendingEntry} {u v : State} (h : AtIssue rest u v) (c : Chan) (dwell : BitVec 16) :
    dwellMet v (v.chan c) dwell = true ↔
      (u.chan c).settled = true ∨ (dwell.toNat : Int) ≤ signedDistance u.ltb.pos (u.chan c).changePos := by
  have short := dwell.isLt
  simp only [dwellMet, h.ltb, h.chan, Bool.or_eq_true, decide_eq_true_eq, or_assoc]
  exact or_congr_right ⟨fun past => by omega, .inr⟩

/-- R91: nor does it end a vacated position that a gap waits for: every gap is shorter than its 2048 steps. -/
theorem AtIssue.groupRefusal {rest : List PendingEntry} {u v : State} (h : AtIssue rest u v) (c : Chan) :
    Machine.groupRefusal v c = Machine.groupRefusal u c := by
  have occupant : ∀ g d, isOccupant v g d = isOccupant u g d := fun g d =>
    isOccupant_congr (h.cfg d) (by rw [h.chan]) g
  unfold Machine.groupRefusal
  rw [h.cfg]
  split
  · rfl
  · next g grouped =>
    simp only [occupant, h.ltb, h.group, offeredGroup]
    split
    · rfl
    · cases (u.group g).vacated with
      | none => rfl
      | some pos =>
        have short := (u.group g).gap.isLt
        simp only [Option.filter_some, decide_eq_true_eq]
        by_cases near : signedDistance u.ltb.pos pos < 2048
        · rw [if_pos near]
        · rw [if_neg near]
          dsimp only
          rw [if_neg (by omega)]

/-- R92, R93: what the group refuses, test by test. -/
theorem groupRefusal_eq (s : State) (c : Chan) :
    groupRefusal s c =
      if (allChans.any fun d => decide (d ≠ c ∧ (s.chan c).cfg.group ≠ none
          ∧ (s.chan d).cfg.group = (s.chan c).cfg.group ∧ (s.chan d).occupant = true)) = true then some .interlock
      else if ((s.chan c).cfg.group.any fun g =>
          (s.group g).vacated.any fun v => decide (signedDistance s.ltb.pos v < ((s.group g).gap.toNat : Int))) = true then
        some .gap
      else none := by
  unfold groupRefusal
  split
  · next ungrouped => simp [ungrouped]
  · next g grouped =>
    simp only [grouped, isOccupant, Option.any_some, ne_eq, reduceCtorEq, not_false_eq_true, true_and, Bool.decide_and,
      Bool.decide_eq_true]
    congr 1
    cases (s.group g).vacated <;> simp

/-- R77: the answer to a close at the issue of an entry. -/
theorem AtIssue.closeAnswer {rest : List PendingEntry} {u v : State} (h : AtIssue rest u v) (c : Chan) :
    Machine.closeAnswer v c =
      if inFault (u.chan c).state = true then .refused .fault
      else if movingState (u.chan c).state = true then .refused .busy
      else if (u.chan c).state = .closed then .already
      else if (u.chan c).settled = false
          ∧ signedDistance u.ltb.pos (u.chan c).changePos < ((u.chan c).cfg.offDwell.toNat : Int) then .refused .dwell
      else (Machine.groupRefusal u c).elim .accepted .refused := by
  have unmet : dwellMet v (v.chan c) (v.chan c).cfg.offDwell = false ↔ (u.chan c).settled = false
      ∧ signedDistance u.ltb.pos (u.chan c).changePos < ((u.chan c).cfg.offDwell.toNat : Int) := by
    rw [← Bool.not_eq_true, h.dwell, not_or, h.cfg, Bool.not_eq_true, Int.not_le]
  unfold Machine.closeAnswer
  dsimp only
  rw [h.groupRefusal, h.state]
  cases state : (u.chan c).state with
  | opened =>
    simp only [inFault, movingState, Bool.false_eq_true, if_false, reduceCtorEq, ← unmet, Bool.not_eq_true']
    cases Machine.groupRefusal u c <;> rfl
  | closing => rfl
  | closed => rfl
  | opening => rfl
  | fault cause => rfl

/-- R78: the answer to an open at the issue of an entry. -/
theorem AtIssue.openAnswer {rest : List PendingEntry} {u v : State} (h : AtIssue rest u v) (c : Chan) :
    Machine.openAnswer v c =
      if inFault (u.chan c).state = true then .refused .fault
      else if movingState (u.chan c).state = true then .refused .busy
      else if (u.chan c).state = .opened then .already
      else if (u.chan c).settled = false
          ∧ signedDistance u.ltb.pos (u.chan c).changePos < ((u.chan c).cfg.onDwell.toNat : Int) then .refused .dwell
      else .accepted := by
  have unmet : dwellMet v (v.chan c) (v.chan c).cfg.onDwell = false ↔ (u.chan c).settled = false
      ∧ signedDistance u.ltb.pos (u.chan c).changePos < ((u.chan c).cfg.onDwell.toNat : Int) := by
    rw [← Bool.not_eq_true, h.dwell, not_or, h.cfg, Bool.not_eq_true, Int.not_le]
  unfold Machine.openAnswer
  dsimp only
  rw [h.state]
  cases state : (u.chan c).state with
  | closed =>
    simp only [inFault, movingState, Bool.false_eq_true, if_false, reduceCtorEq, ← unmet]
    split <;> simp_all
  | closing => rfl
  | opened => rfl
  | opening => rfl
  | fault cause => rfl

/-! ## The outcome of an issued command -/

/-- R55: the body of the record that an answered issue gives its owner. -/
def outcomeBody (e : Entry) : Answer → EventBody
  | .refused reason => .missed e.tag e.label (kindOf e.action) (isSecond e.action) (chanOf e.action) reason (issueFigure e)
  | a => .done e.tag e.label (kindOf e.action) (isSecond e.action) (chanOf e.action) (decide (a = .already)) false
      (issueFigure e)

/-- R53, R55: the one command of an entry without a repeat ends it with its record. -/
theorem issueAnswered_once {x : PendingEntry} {c : Chan} (a : Answer) {s : State} (once : x.entry.rep = none)
    (command : x.entry.action = .close c ∨ x.entry.action = .openUp c) :
    (issueAnswered x c a s).1 = s.handTo x.entry.owner s.ltb.pos (outcomeBody x.entry a) := by
  have done : ∀ already s, (issueDone x already s).1 = doneRecord x.entry already s := fun already s => by
    unfold issueDone afterDone
    rcases command with e | e <;> · rw [e]; exact endFiring_once once
  have single : isSecond x.entry.action = false := by rcases command with e | e <;> · rw [e]; rfl
  cases a with
  | accepted => exact done false s
  | already => exact done true s
  | refused reason =>
    unfold issueAnswered
    rw [single]
    exact issueMissed_once once

/-- R49, R53, R55: an issue whose command makes `ch` of its channel `c`, that hands the owner the record with `body` and
leaves the store `sched`. -/
structure Answers (x : PendingEntry) (sched : Schedule) (c : Chan) (ch : Channel) (body : EventBody) (u t : State) : Prop where
  frame : t = { u with chans := t.chans, groups := t.groups, sessions := t.sessions, sched := sched }
  other : ∀ d, d ≠ c → t.chan d = { u.chan d with settled := (t.chan d).settled }
  groups : GroupsFollow c (offeredGroup u.ltb.pos) u t
  told : OnlySession x.entry.owner (received u.ltb.pos body (u.session x.entry.owner)) u t.sessions
  own : t.chan c = ch

/-- A command at the issue, followed by the record of its answer. -/
theorem AtIssue.answers {x : PendingEntry} {rest : List PendingEntry} {c : Chan} {ch : Channel} {u v w : State}
    (h : AtIssue rest u v) (body : EventBody) (command : Commanded c ch v w) :
    Answers x { u.sched with pending := rest } c ch body u (w.handTo x.entry.owner w.ltb.pos body) where
  frame := by
    have frame := h.issued (command.stands.keeps.trans (handTo_keeps x.entry.owner w.ltb.pos body w))
    rw [State.handTo_sched, command.stands.sched, h.sched] at frame
    exact frame
  other d ne := by rw [State.handTo_chan, command.other ne, h.chan]
  groups := by
    refine GroupsFollow.of_occupants (v := v) (fun g => ?_) h.cfg (fun d => by rw [h.chan]) (by rw [h.ltb])
      (fun g => by rw [h.group]; rfl) h.group
    simp only [State.handTo_chan, State.handTo_group]
    exact command.groups g
  told := by
    rw [OnlySession, handTo_sessions, command.stands.keeps.ltb, State.session, command.sessions, h.sessions, h.ltb]
    rfl
  own := by rw [State.handTo_chan, command.own]

theorem Answers.resched {x : PendingEntry} {sched : Schedule} {c : Chan} {ch : Channel} {body : EventBody} {u t : State}
    (h : Answers x sched c ch body u t) (sched' : Schedule) : Answers x sched' c ch body u { t with sched := sched' } where
  frame := by
    have frame := congrArg (fun t : State => { t with sched := sched' }) h.frame
    exact frame
  other := h.other
  groups := h.groups
  told := h.told
  own := h.own

theorem issue_close {x : PendingEntry} {c : Chan} {s : State} (once : x.entry.rep = none)
    (action : x.entry.action = .close c) (met : toleranceMet x.entry.tol s.ltb.lock = true) (supply : s.supply.low = false) :
    (issue x s).1 = (closeCommand c s).2.handTo x.entry.owner (closeCommand c s).2.ltb.pos
      (outcomeBody x.entry (closeAnswer s c)) := by
  rw [← issueAnswered_once (closeAnswer s c) once (.inl action), ← closeCommand_answer]
  simp [issue, met, supply, action, chanOf, isClosing]

theorem issue_open {x : PendingEntry} {c : Chan} {s : State} (once : x.entry.rep = none)
    (action : x.entry.action = .openUp c) (met : toleranceMet x.entry.tol s.ltb.lock = true) :
    (issue x s).1 = (openCommand c s).2.handTo x.entry.owner (openCommand c s).2.ltb.pos
      (outcomeBody x.entry (openAnswer s c)) := by
  rw [← issueAnswered_once (openAnswer s c) once (.inr action), ← openCommand_answer]
  simp [issue, met, action, chanOf, isClosing]

/-- An answer that is not acceptance leaves the channel. -/
theorem AtIssue.stays {rest : List PendingEntry} {u v t : State} (h : AtIssue rest u v) {c : Chan} (own : t.chan c = v.chan c) :
    t.chan c = { u.chan c with settled := (t.chan c).settled } := by rw [own, h.chan]

/-- Settles O37: a close is answered by the first test that applies, behind the offer as before it. -/
theorem closeIssued : Obligations.CloseIssued := by
  unfold Obligations.CloseIssued
  intro x rest c s fires once action tol supply
  obtain ⟨v, atIssue, exec⟩ := exec_fires fires
  obtain ⟨-, -, -, ahead, -⟩ := fires
  generalize Machine.exec .advance s = outcome at *
  generalize advanceCount s = u at *
  have met : toleranceMet x.entry.tol v.ltb.lock = true := by rw [tol]; rfl
  rw [issue_close once action met (atIssue.supply ▸ supply)] at exec
  have answers := atIssue.answers (x := x) (outcomeBody x.entry (closeAnswer v c)) (closeCommand_commands c v)
  generalize (closeCommand c v).2.handTo x.entry.owner (closeCommand c v).2.ltb.pos
    (outcomeBody x.entry (closeAnswer v c)) = t at *
  obtain ⟨frame, other, groups, record, own⟩ := answers
  refine ⟨t, exec (by rw [frame]; exact ahead), ?_⟩
  beta_reduce
  intro u e ch pos missed done others inGap told stays
  have refused : ∀ {a body}, closeAnswer v c = a → a ≠ .accepted → outcomeBody e a = body → told body ∧ stays :=
    fun is other same => ⟨same ▸ is ▸ record, atIssue.stays (own.trans (if_neg (is ▸ other)))⟩
  have missedBody : ∀ reason, outcomeBody e (.refused reason) = missed reason := fun reason => by
    simp [outcomeBody, e, missed, action, kindOf, isSecond, chanOf, issueFigure_once once]
  have doneBody : outcomeBody e .already = done true ∧ outcomeBody e .accepted = done false := by
    simp [outcomeBody, e, done, action, kindOf, isSecond, chanOf, issueFigure_once once]
  refine ⟨frame, other, groups.stays fun was => ?_, ?_⟩
  · rw [own]
    split
    · exact Bool.or_eq_true_iff.mpr (.inr (by rw [atIssue.chan]; exact was))
    · rw [atIssue.chan]; exact was
  · have answer := atIssue.closeAnswer c
    rw [groupRefusal_eq] at answer
    by_cases fault : inFault ch.state = true
    · rw [if_pos fault] at answer ⊢
      exact refused answer nofun (missedBody _)
    by_cases busy : movingState ch.state = true
    · rw [if_neg fault, if_pos busy] at answer ⊢
      exact refused answer nofun (missedBody _)
    by_cases closed : ch.state = .closed
    · rw [if_neg fault, if_neg busy, if_pos closed] at answer ⊢
      exact refused answer nofun doneBody.1
    rw [if_neg fault, if_neg busy, if_neg closed] at answer ⊢
    by_cases dwell : ch.settled = false ∧ signedDistance pos ch.changePos < (ch.cfg.offDwell.toNat : Int)
    · rw [if_pos dwell] at answer ⊢
      exact refused answer nofun (missedBody _)
    by_cases interlock : others = true
    · rw [if_neg dwell, if_pos interlock] at answer ⊢
      exact refused answer nofun (missedBody _)
    by_cases gap : inGap = true
    · rw [if_neg dwell, if_neg interlock, if_pos gap] at answer ⊢
      exact refused answer nofun (missedBody _)
    rw [if_neg dwell, if_neg interlock, if_neg gap] at answer ⊢
    have accepted : closeAnswer v c = .accepted := answer
    have now : t.now = u.now := by rw [frame]
    refine ⟨doneBody.2 ▸ accepted ▸ record, ?_⟩
    rw [own, if_pos accepted, atIssue.chan, atIssue.now, atIssue.ltb, now]
    rfl

/-- Settles O38: an open is answered by the first test that applies, behind the offer as before it. -/
theorem openIssued : Obligations.OpenIssued := by
  unfold Obligations.OpenIssued
  intro x rest c s fires once action tol
  obtain ⟨v, atIssue, exec⟩ := exec_fires fires
  obtain ⟨-, -, -, ahead, -⟩ := fires
  generalize Machine.exec .advance s = outcome at *
  generalize advanceCount s = u at *
  have met : toleranceMet x.entry.tol v.ltb.lock = true := by rw [tol]; rfl
  rw [issue_open once action met] at exec
  have answers := atIssue.answers (x := x) (outcomeBody x.entry (openAnswer v c)) (openCommand_commands c v)
  generalize (openCommand c v).2.handTo x.entry.owner (openCommand c v).2.ltb.pos
    (outcomeBody x.entry (openAnswer v c)) = t at *
  obtain ⟨frame, other, groups, record, own⟩ := answers
  refine ⟨t, exec (by rw [frame]; exact ahead), ?_⟩
  beta_reduce
  intro u e ch pos missed done told stays
  have refused : ∀ {a body}, openAnswer v c = a → a ≠ .accepted → outcomeBody e a = body → told body ∧ stays :=
    fun is other same => ⟨same ▸ is ▸ record, atIssue.stays (own.trans (if_neg (is ▸ other)))⟩
  have missedBody : ∀ reason, outcomeBody e (.refused reason) = missed reason := fun reason => by
    simp [outcomeBody, e, missed, action, kindOf, isSecond, chanOf, issueFigure_once once]
  have doneBody : outcomeBody e .already = done true ∧ outcomeBody e .accepted = done false := by
    simp [outcomeBody, e, done, action, kindOf, isSecond, chanOf, issueFigure_once once]
  refine ⟨frame, other, groups, ?_⟩
  have answer := atIssue.openAnswer c
  by_cases fault : inFault ch.state = true
  · rw [if_pos fault] at answer ⊢
    exact refused answer nofun (missedBody _)
  by_cases busy : movingState ch.state = true
  · rw [if_neg fault, if_pos busy] at answer ⊢
    exact refused answer nofun (missedBody _)
  by_cases opened : ch.state = .opened
  · rw [if_neg fault, if_neg busy, if_pos opened] at answer ⊢
    exact refused answer nofun doneBody.1
  rw [if_neg fault, if_neg busy, if_neg opened] at answer ⊢
  by_cases dwell : ch.settled = false ∧ signedDistance pos ch.changePos < (ch.cfg.onDwell.toNat : Int)
  · rw [if_pos dwell] at answer ⊢
    exact refused answer nofun (missedBody _)
  rw [if_neg dwell] at answer ⊢
  refine ⟨doneBody.2 ▸ answer ▸ record, ?_⟩
  rw [own, if_pos answer, atIssue.chan, atIssue.now, atIssue.ltb]
  rfl

end Sys2Proof.Machine
end

section
/-! Entries that fire again (R38, R50 to R53): the MARK with a repeat, the two phases of a PULSE, the held open. -/

namespace Sys2Proof.Machine

/-! ## The end of a firing -/

theorem ahead_insertByFire {pos q : Pos} {x : PendingEntry} {l : List PendingEntry} (own : 0 < signedDistance x.fire pos)
    (rest : Ahead pos l) : Ahead pos (insertByFire q x l) := fun y mem => by
  rcases List.mem_cons.mp ((insertByFire_perm q x l).mem_iff.mp mem) with rfl | old
  · exact own
  · exact rest y old

theorem firingsRemain_iff {r : Repeat} : firingsRemain r = true ↔ 0 < r.remaining ∨ r.count = 0 := decide_eq_true_iff

/-- R53: the repeat of a next firing, for an entry with one. -/
theorem nextRepeat_eq {e : Entry} {r : Repeat} (rep : e.rep = some r) :
    nextRepeat e = if e.lastRun = true ∨ r.remaining ≤ 1 ∧ r.count ≠ 0 then none
      else some { r with remaining := r.remaining - 1 } := by
  have remain : firingsRemain (decrement r) = true ↔ ¬ (r.remaining ≤ 1 ∧ r.count ≠ 0) := by
    rw [firingsRemain_iff, decrement]
    dsimp only
    omega
  rw [nextRepeat, rep, Option.map_some, Option.filter_some]
  by_cases last : e.lastRun = true
  · simp [last]
  · by_cases ended : r.remaining ≤ 1 ∧ r.count ≠ 0
    · rw [if_neg fun more => remain.mp (Bool.and_eq_true_iff.mp more).1 ended, if_pos (.inr ended)]
    · have passes : (firingsRemain (decrement r) && !e.lastRun) = true := by
        rw [remain.mpr ended, Bool.eq_false_iff.mpr last]
        rfl
      rw [if_pos passes, if_neg fun h => h.elim last ended]
      rfl

/-- R55: the remaining figure of a record. -/
theorem issueFigure_eq {e : Entry} {r : Repeat} (rep : e.rep = some r) :
    issueFigure e = if e.lastRun = true then 0 else if r.count = 0 then 255 else r.remaining - 1 := by
  rw [issueFigure, rep]
  rfl

theorem reinsertNext_sched (e : Entry) (r : Repeat) (due : Pos) (s : State) :
    (reinsertNext e r due s).sched =
      { s.sched with
        admCounter := s.sched.admCounter + 1
        pending :=
          insertByFire s.ltb.pos
            { entry := { e with action := firstPhase e.action, rep := some r, adm := s.sched.admCounter + 1 }
              due := nextDue r due, fire := fireOf s (firstPhase e.action) (nextDue r due) } s.sched.pending } := rfl

/-- What an issue leaves of the channels when it writes a record and the store alone. -/
theorem AtIssue.recorded {rest : List PendingEntry} {u v t : State} (h : AtIssue rest u v) (chans : t.chans = v.chans)
    (c : Chan) : t.chan c = { u.chan c with settled := (t.chan c).settled } := by
  have same : t.chan c = v.chan c := congrArg (fun chans => chans.get c) chans
  rw [same, h.chan]

/-- Settles O39: a MARK is DONE at its issue, and what remains of it goes back into the pending list. -/
theorem markFiresAndRepeats : Obligations.MarkFiresAndRepeats := by
  unfold Obligations.MarkFiresAndRepeats
  intro x rest s fires mark any
  obtain ⟨v, atIssue, exec⟩ := exec_fires fires
  obtain ⟨-, -, -, ahead, -⟩ := fires
  generalize Machine.exec .advance s = outcome at *
  generalize advanceCount s = u at *
  intro u e pos result
  have issued : (issue x v).1 = (endFiring e x.due (doneRecord e false v)).1 := by
    simp [issue, mark, any, isSecond, toleranceMet, isClosing, chanOf, issueDone, afterDone, e]
  have ends : ∀ {figure t}, issueFigure e = figure → (issue x v).1 = t → t.chans = v.chans → t.groups = v.groups →
      t.sessions = (doneRecord e false v).sessions → Ahead pos t.sched.pending → result figure t.sched :=
    fun {figure t} is gives chans groups sessions clear => by
      have keeps := issue_keeps x v
      rw [gives] at exec keeps
      refine ⟨t, exec clear, atIssue.issued keeps, atIssue.recorded chans, fun g => ?_, ?_⟩
      · rw [← atIssue.group]
        exact congrArg (fun groups => groups.get g) groups
      · rw [OnlySession, sessions, doneRecord, handTo_sessions, atIssue.sessions, atIssue.session, atIssue.ltb, is, mark]
        rfl
  have groups : (doneRecord e false v).groups = v.groups := State.handTo_groups ..
  have chans : (doneRecord e false v).chans = v.chans := State.handTo_chans ..
  have sched : (doneRecord e false v).sched = { u.sched with pending := rest } :=
    (State.handTo_sched ..).trans atIssue.sched
  rw [endFiring_eq] at issued
  refine ⟨fun last => ?_, ?_⟩
  · have none : nextRepeat e = none := by
      rcases last with once | ⟨r, rep, ended⟩
      · rw [nextRepeat, once]; rfl
      · rw [nextRepeat_eq rep, if_pos ended]
    have figure : issueFigure e = 0 := by
      rcases last with once | ⟨r, rep, ended⟩
      · exact issueFigure_once once
      · rw [issueFigure_eq rep]
        split
        · rfl
        · next unmarked => 
          rw [if_neg (ended.resolve_left unmarked).2]
          exact Nat.sub_eq_zero_of_le (ended.resolve_left unmarked).1
    rw [none] at issued
    exact sched ▸ ends figure issued chans groups rfl (by rw [sched]; exact ahead)
  · intro r rep unmarked more due again late
    have some : nextRepeat e = some { r with remaining := r.remaining - 1 } := by
      rw [nextRepeat_eq rep, if_neg]
      rintro (marked | ⟨few, counted⟩)
      · rw [marked] at unmarked
        cases unmarked
      · omega
    have figure := issueFigure_eq rep
    rw [if_neg (by rw [unmarked]; nofun)] at figure
    rw [some] at issued
    have fire : fireOf (doneRecord e false v) (firstPhase e.action) due = due := by
      rw [show e.action = .mark from mark]
      exact BitVec.sub_zero due
    have again : (reinsertNext e { r with remaining := r.remaining - 1 } x.due (doneRecord e false v)).sched =
        { u.sched with
          admCounter := u.sched.admCounter + 1
          pending := insertByFire pos { entry := again, due := due, fire := due } rest } := by
      have phase : firstPhase e.action = e.action := by rw [show e.action = .mark from mark]; rfl
      have due' : nextDue { r with remaining := r.remaining - 1 } x.due = due := rfl
      rw [reinsertNext_sched, due', fire, sched, (doneRecord_keeps e false v).ltb, atIssue.ltb, phase]
    rw [← again]
    exact ends figure issued chans groups rfl (by rw [again]; exact ahead_insertByFire late ahead)

/-! ## The phases of a PULSE -/

theorem issue_first {x : PendingEntry} {c : Chan} {w : Nat} {s : State} (action : x.entry.action = .pulse c w false)
    (met : toleranceMet x.entry.tol s.ltb.lock = true) (supply : s.supply.low = false) :
    issue x s = issueAnswered x c (closeAnswer s c) (closeCommand c s).2 := by
  rw [← closeCommand_answer]
  simp [issue, met, supply, action, chanOf, isClosing]

theorem issue_second {x : PendingEntry} {c : Chan} {w : Nat} {s : State} (action : x.entry.action = .pulse c w true) :
    issue x s = issueAnswered x c (openAnswer s c) (openCommand c s).2 := by
  rw [← openCommand_answer]
  simp [issue, action, chanOf, isClosing, isSecond]

/-- R50: a FIRST phase that has closed its channel goes on as its SECOND phase. -/
theorem issueDone_first {x : PendingEntry} {c : Chan} {w : Nat} (already : Bool) (s : State)
    (action : x.entry.action = .pulse c w false) :
    (issueDone x already s).1 =
      (doneRecord x.entry already s).insertPending { x.entry with action := .pulse c w true } x.due
        (fireOf (doneRecord x.entry already s) (.pulse c w true) x.due) := by
  rw [issueDone, afterDone, action]

/-- R53: a SECOND phase that has opened its channel ends the firing. -/
theorem issueDone_second {x : PendingEntry} {c : Chan} {w : Nat} (already : Bool) (s : State)
    (action : x.entry.action = .pulse c w true) :
    (issueDone x already s).1 = (endFiring x.entry x.due (doneRecord x.entry already s)).1 := by
  rw [issueDone, afterDone, action]

theorem insertPending_sched (e : Entry) (due fire : Pos) (s : State) :
    s.insertPending e due fire = { s with
      sched :=
        { s.sched with
          admCounter := s.sched.admCounter + 1
          pending :=
            insertByFire s.ltb.pos { entry := { e with adm := s.sched.admCounter + 1 }, due := due, fire := fire }
              s.sched.pending } } := rfl

theorem Answers.ltb {x : PendingEntry} {sched : Schedule} {c : Chan} {ch : Channel} {body : EventBody} {u t : State}
    (h : Answers x sched c ch body u t) : t.ltb = u.ltb := by rw [h.frame]

theorem Answers.sched {x : PendingEntry} {sched : Schedule} {c : Chan} {ch : Channel} {body : EventBody} {u t : State}
    (h : Answers x sched c ch body u t) : t.sched = sched := by rw [h.frame]

/-- R38: an entry that goes back into the pending list behind its record. -/
theorem Answers.insertPending {x : PendingEntry} {rest : List PendingEntry} {c : Chan} {ch : Channel} {body : EventBody}
    {u t : State} (h : Answers x { u.sched with pending := rest } c ch body u t) (e : Entry) (due fire : Pos) :
    Answers x
      { u.sched with
        admCounter := u.sched.admCounter + 1
        pending :=
          insertByFire u.ltb.pos { entry := { e with adm := u.sched.admCounter + 1 }, due := due, fire := fire } rest }
      c ch body u (t.insertPending e due fire) := by
  have written : Answers x (t.insertPending e due fire).sched c ch body u (t.insertPending e due fire) := h.resched _
  have sched : (t.insertPending e due fire).sched = { u.sched with
      admCounter := u.sched.admCounter + 1
      pending :=
        insertByFire u.ltb.pos { entry := { e with adm := u.sched.admCounter + 1 }, due := due, fire := fire } rest } := by
    rw [insertPending_sched]
    dsimp only
    rw [h.ltb, h.sched]
  rw [sched] at written
  exact written

/-- R53: the store behind a SECOND phase that has opened its channel, by the repeat of the next firing. -/
def storeAfterSecond (x : PendingEntry) (rest : List PendingEntry) (c : Chan) (w : Nat) (u : State) : Option Repeat → Schedule
  | none => { u.sched with pending := rest }
  | some r =>
    { u.sched with
      admCounter := u.sched.admCounter + 1
      pending :=
        insertByFire u.ltb.pos
          { entry := { x.entry with action := .pulse c w false, rep := some r, adm := u.sched.admCounter + 1 }
            due := nextDue r x.due, fire := nextDue r x.due - (u.chan c).cfg.closeLead.setWidth 42 } rest }

theorem Answers.endFiring_second {x : PendingEntry} {rest : List PendingEntry} {c : Chan} {w : Nat} {ch : Channel}
    {body : EventBody} {u t : State} (h : Answers x { u.sched with pending := rest } c ch body u t)
    (action : x.entry.action = .pulse c w true) (cfg : ch.cfg = (u.chan c).cfg) :
    Answers x (storeAfterSecond x rest c w u (nextRepeat x.entry)) c ch body u (endFiring x.entry x.due t).1 := by
  rw [endFiring_eq]
  cases nextRepeat x.entry with
  | none => exact h
  | some r =>
    have phase : firstPhase x.entry.action = .pulse c w false := by rw [action]; rfl
    have fires : fireOf t (.pulse c w false) (nextDue r x.due) =
        nextDue r x.due - (u.chan c).cfg.closeLead.setWidth 42 := by
      show _ - (t.chan c).cfg.closeLead.setWidth 42 = _
      rw [h.own, cfg]
    show Answers x _ c ch body u (reinsertNext x.entry r x.due t)
    rw [reinsertNext, phase, fires]
    exact h.insertPending { x.entry with action := .pulse c w false, rep := some r } _ _

/-- R76: the answers of a channel that may be commanded. -/
theorem AtIssue.closeAnswer_closed {rest : List PendingEntry} {u v : State} (h : AtIssue rest u v) {c : Chan}
    (closed : (u.chan c).state = .closed) : Machine.closeAnswer v c = .already := by
  rw [h.closeAnswer, closed]
  rfl

theorem AtIssue.openAnswer_opened {rest : List PendingEntry} {u v : State} (h : AtIssue rest u v) {c : Chan}
    (opened : (u.chan c).state = .opened) : Machine.openAnswer v c = .already := by
  rw [h.openAnswer, opened]
  rfl

theorem AtIssue.closeAnswer_opened {rest : List PendingEntry} {u v : State} (h : AtIssue rest u v) {c : Chan}
    (opened : (u.chan c).state = .opened) (met : (u.chan c).settled = true
      ∨ ((u.chan c).cfg.offDwell.toNat : Int) ≤ signedDistance u.ltb.pos (u.chan c).changePos)
    (free : Machine.groupRefusal u c = none) : Machine.closeAnswer v c = .accepted := by
  rw [h.closeAnswer, opened, free, if_neg (by nofun), if_neg (by nofun), if_neg (by nofun), if_neg]
  · rfl
  · rintro ⟨unsettled, near⟩
    rcases met with settled | past
    · rw [settled] at unsettled; cases unsettled
    · omega

theorem AtIssue.openAnswer_closed {rest : List PendingEntry} {u v : State} (h : AtIssue rest u v) {c : Chan}
    (closed : (u.chan c).state = .closed) (met : (u.chan c).settled = true
      ∨ ((u.chan c).cfg.onDwell.toNat : Int) ≤ signedDistance u.ltb.pos (u.chan c).changePos) :
    Machine.openAnswer v c = .accepted := by
  rw [h.openAnswer, closed, if_neg (by nofun), if_neg (by nofun), if_neg (by nofun), if_neg]
  rintro ⟨unsettled, near⟩
  rcases met with settled | past
  · rw [settled] at unsettled; cases unsettled
  · omega

/-- Settles O40: either phase is DONE by its command, and what is left of the PULSE goes back into the pending list. -/
theorem pulseGoesOn : Obligations.PulseGoesOn := by
  unfold Obligations.PulseGoesOn
  intro x rest c w second s fires action
  obtain ⟨v, atIssue, exec⟩ := exec_fires fires
  obtain ⟨-, -, -, ahead, -⟩ := fires
  generalize Machine.exec .advance s = outcome at *
  generalize advanceCount s = u at *
  intro u e pos ch met lasts figure result stays closes opens
  have figured : issueFigure e = figure := by
    cases rep : e.rep with
    | none => simp only [figure, rep, issueFigure_once]
    | some r => simp only [figure, rep, issueFigure_eq rep]
  have body : ∀ already, EventBody.done e.tag e.label (kindOf e.action) (isSecond e.action) (chanOf e.action) already false
      (issueFigure e) = .done e.tag e.label .pulse second (some c) already false figure := fun already => by
    rw [figured, show e.action = .pulse c w second from action]
    rfl
  have ends : ∀ {already sched ch'} {made : Channel → Channel → Prop}, Answers x sched c ch'
      (.done e.tag e.label (kindOf e.action) (isSecond e.action) (chanOf e.action) already false (issueFigure e)) u
      (issue x v).1 → Ahead pos sched.pending → made ch ch' → result already sched made :=
    fun {already sched ch' made} answers clear is => by
      rw [body] at answers
      exact ⟨_, exec (by rw [answers.sched]; exact clear), answers.frame, answers.other, answers.own ▸ is, answers.groups,
        answers.told⟩
  have unmoved : stays ch (v.chan c) := by
    show v.chan c = _
    rw [atIssue.chan]
  refine ⟨fun isFirst any supply => ?_, fun isSecond => ?_⟩
  · intro fire sched late
    subst isFirst
    have met' : toleranceMet x.entry.tol v.ltb.lock = true := by rw [show x.entry.tol = .any from any]; rfl
    have issued := issue_first action met' (atIssue.supply ▸ supply)
    have goesOn : ∀ {already ch'}, Commanded c ch' v (closeCommand c v).2 → ch'.cfg = ch.cfg →
        Answers x sched c ch'
          (.done e.tag e.label (kindOf e.action) (isSecond e.action) (chanOf e.action) already false (issueFigure e)) u
          (issueDone x already (closeCommand c v).2).1 := fun {already ch'} command cfg => by
      have answers : Answers x { u.sched with pending := rest } c ch' _ u (doneRecord e already (closeCommand c v).2) :=
        atIssue.answers _ command
      have fires : fireOf (doneRecord e already (closeCommand c v).2) (.pulse c w true) x.due = fire := by
        show x.due + steps w - ((doneRecord e already (closeCommand c v).2).chan c).cfg.openLead.setWidth 42 = fire
        rw [answers.own, cfg]
        rfl
      rw [issueDone_first already _ action, show fireOf _ _ _ = fire from fires]
      exact answers.insertPending { e with action := .pulse c w true } x.due fire
    have clear : Ahead pos sched.pending := ahead_insertByFire late ahead
    have command := closeCommand_commands c v
    refine ⟨fun closed => ?_, fun opened dwell free => ?_⟩
    · have answer := atIssue.closeAnswer_closed closed
      rw [answer] at issued command
      refine ends ?_ clear unmoved
      rw [issued]
      exact goesOn command (atIssue.cfg c)
    · have answer := atIssue.closeAnswer_opened opened dwell free
      rw [answer, if_pos rfl] at command
      rw [answer] at issued
      refine ends (ch' := closedChannel v.now v.ltb.pos (v.chan c)) ?_ clear ?_
      · rw [issued]
        exact goesOn command (atIssue.cfg c)
      · show closedChannel v.now v.ltb.pos (v.chan c) = _
        rw [atIssue.chan, atIssue.now, atIssue.ltb]
        rfl
  · intro sched clear
    subst isSecond
    have issued := issue_second (s := v) action
    have stored : sched = storeAfterSecond x rest c w u (nextRepeat e) := by
      cases rep : e.rep with
      | none =>
        rw [nextRepeat, rep]
        simp only [sched, rep]
        rfl
      | some r =>
        rw [nextRepeat_eq rep]
        have more : lasts = true ↔ ¬ (e.lastRun = true ∨ r.remaining ≤ 1 ∧ r.count ≠ 0) := by
          simp only [lasts, rep, Bool.and_eq_true, Bool.not_eq_true', decide_eq_true_eq, not_or, Bool.not_eq_true]
          exact and_congr_right fun _ => by omega
        simp only [sched, rep, more]
        split
        · rfl
        · next ended => rw [if_pos (not_not.mp ended)]; rfl
    have goesOn : ∀ {already ch'}, Commanded c ch' v (openCommand c v).2 → ch'.cfg = ch.cfg →
        Answers x sched c ch'
          (.done e.tag e.label (kindOf e.action) (isSecond e.action) (chanOf e.action) already false (issueFigure e)) u
          (issueDone x already (openCommand c v).2).1 := fun {already ch'} command cfg => by
      have answers : Answers x { u.sched with pending := rest } c ch' _ u (doneRecord e already (openCommand c v).2) :=
        atIssue.answers _ command
      rw [issueDone_second already _ action, stored]
      exact answers.endFiring_second action cfg
    have command := openCommand_commands c v
    refine ⟨fun opened => ?_, fun closed dwell => ?_⟩
    · have answer := atIssue.openAnswer_opened opened
      rw [answer] at issued command
      refine ends ?_ clear unmoved
      rw [issued]
      exact goesOn command (atIssue.cfg c)
    · have answer := atIssue.openAnswer_closed closed dwell
      rw [answer, if_pos rfl] at command
      rw [answer] at issued
      refine ends (ch' := openedChannel v.now v.ltb.pos (v.chan c)) ?_ clear ?_
      · rw [issued]
        exact goesOn command (atIssue.cfg c)
      · show openedChannel v.now v.ltb.pos (v.chan c) = _
        rw [atIssue.chan, atIssue.now, atIssue.ltb]
        rfl

/-! ## The held open -/

/-- R52: the store behind a hand-off. -/
theorem handOff_eq (x : PendingEntry) (c : Chan) (s : State) :
    (handOff x c s).1 =
      { s.setChan c { s.chan c with pendingOpen := some (.held x.entry.tag x.entry.label) } with
        sched :=
          { s.sched with
            deferred :=
              match nextRepeat x.entry with
              | none => s.sched.deferred
              | some r => s.sched.deferred ++ [{ entry := { x.entry with rep := some r }, due := x.due }] } } := by
  unfold handOff nextRepeat
  dsimp only
  cases x.entry.rep with
  | none => rfl
  | some r =>
    simp only [Option.map_some, Option.filter_some]
    split
    · rfl
    · rfl

/-- R51: the answers that hand a SECOND phase over. -/
theorem AtIssue.openAnswer_handsOver {rest : List PendingEntry} {u v : State} (h : AtIssue rest u v) {c : Chan}
    (refuses : movingState (u.chan c).state = true
      ∨ (u.chan c).state = .closed ∧ (u.chan c).settled = false
        ∧ signedDistance u.ltb.pos (u.chan c).changePos < ((u.chan c).cfg.onDwell.toNat : Int)) :
    ∃ reason, handsOver reason = true ∧ Machine.openAnswer v c = .refused reason := by
  rw [h.openAnswer]
  rcases refuses with moving | ⟨closed, dwelling⟩
  · refine ⟨.busy, rfl, ?_⟩
    rw [if_neg, if_pos moving]
    cases state : (u.chan c).state <;> simp_all [movingState, inFault]
  · refine ⟨.dwell, rfl, ?_⟩
    rw [closed, if_neg (by nofun), if_neg (by nofun), if_neg (by nofun), if_pos dwelling]

/-- Settles O41: the open that a SECOND phase is refused for now stays with its channel. -/
theorem secondPhaseHeld : Obligations.SecondPhaseHeld := by
  unfold Obligations.SecondPhaseHeld
  intro x rest c w s fires action
  obtain ⟨v, atIssue, exec⟩ := exec_fires fires
  obtain ⟨⟨-, -, -, noOpens⟩, -, -, ahead, -⟩ := fires
  generalize Machine.exec .advance s = outcome at *
  generalize advanceCount s = u at *
  intro u refuses e
  obtain ⟨reason, handsOver, answer⟩ := atIssue.openAnswer_handsOver refuses
  have free : (v.chan c).pendingOpen.isNone = true := by rw [atIssue.chan, noOpens c]; rfl
  have issued : (issue x v).1 = (handOff x c v).1 := by
    rw [issue_second action, openCommand_refused (by rw [answer]; nofun), answer, issueAnswered, action, handsOver, free]
    rfl
  have keeps := handOff_keeps x c v
  have chan := handOff_chan x c v
  have written := handOff_eq x c v
  rw [issued] at exec
  generalize (handOff x c v).1 = t at *
  have sessions : t.sessions = u.sessions := by rw [written]; exact atIssue.sessions
  have group : ∀ g, t.group g = v.group g := fun g => by rw [written]; rfl
  have sched : t.sched =
      { u.sched with
        pending := rest
        deferred :=
          match e.rep with
          | none => u.sched.deferred
          | some r =>
            if e.lastRun = true ∨ r.remaining ≤ 1 ∧ r.count ≠ 0 then u.sched.deferred
            else
              u.sched.deferred
                ++ [{ entry := { e with rep := some { r with remaining := r.remaining - 1 } }, due := x.due }] } := by
    rw [written]
    dsimp only
    rw [atIssue.sched]
    cases rep : e.rep with
    | none => rw [nextRepeat, show x.entry.rep = none from rep]; rfl
    | some r =>
      rw [nextRepeat_eq (e := x.entry) rep]
      dsimp only
      by_cases ended : e.lastRun = true ∨ r.remaining ≤ 1 ∧ r.count ≠ 0
      · rw [if_pos ended, if_pos ended]
      · rw [if_neg ended, if_neg ended]
  have frame := atIssue.issued keeps
  rw [sessions, sched] at frame
  refine ⟨t, exec (by rw [sched]; exact ahead), frame, fun d ne => ?_, ?_, fun g => (group g).trans (atIssue.group g)⟩
  · rw [chan, if_neg (Ne.symm ne), atIssue.chan]
  · rw [chan, if_pos rfl, atIssue.chan]

end Sys2Proof.Machine
end

section
/-! What comes to one held or RELEASING channel (R52, R69, R73, R81, R106): its verify timer runs out, its pending open is
examined. -/

namespace Sys2Proof.Machine

/-! ## One channel written, and records for one port -/

theorem WorkKeeps.frame {s t : State} (h : WorkKeeps s t) :
    t = { s with chans := t.chans, groups := t.groups, sessions := t.sessions, sched := t.sched } := by
  have rest := h.rest
  simp only [State.rest, State.mk.injEq] at rest
  cases s
  cases t
  simp_all

theorem sessions_self (s : State) (p : Port) : OnlySession p (s.session p) s s.sessions := by
  simp [OnlySession, State.session, Vector.get_eq_getElem]

/-- R55: one more record for the same port. -/
theorem OnlySession.handTo {p : Port} {r : Session} {s t : State} (h : OnlySession p r s t.sessions) (pos : Pos)
    (body : EventBody) : OnlySession p (received pos body r) s (t.handTo p pos body).sessions := by
  have own : t.session p = r := by
    rw [State.session, show t.sessions = _ from h]
    simp [Vector.get_eq_getElem]
  rw [OnlySession, handTo_sessions, own, show t.sessions = _ from h]
  simp

/-- Nothing but the channel `c`, which is now `ch`, and with it its group, besides sessions and store. -/
structure Wrought (c : Chan) (ch : Channel) (s t : State) : Prop where
  frame : t = { s with chans := t.chans, groups := t.groups, sessions := t.sessions, sched := t.sched }
  own : t.chan c = ch
  other : OnlyChannel c s t
  groups : GroupsFollow c id s t

theorem Commanded.wrought {c : Chan} {ch : Channel} {s t : State} (h : Commanded c ch s t) : Wrought c ch s t where
  frame := h.stands.keeps.frame
  own := h.own
  other _ ne := h.other ne
  groups := h.groups

namespace Wrought

variable {c : Chan} {ch : Channel} {s t : State} (h : Wrought c ch s t)
include h

theorem ltb : t.ltb = s.ltb := by rw [h.frame]
theorem now : t.now = s.now := by rw [h.frame]

theorem setChan {ch' : Channel} (occupant : ch'.occupant = ch.occupant) : Wrought c ch' s (t.setChan c ch') where
  frame := congrArg (fun t : State => t.setChan c ch') h.frame
  own := State.setChan_chan_same ..
  other d ne := by rw [State.setChan_chan_ne _ _ (Ne.symm ne), h.other d ne]
  groups g := by
    rw [State.setChan_chan_same, occupant, ← h.own]
    exact h.groups g

theorem handTo (p : Port) (pos : Pos) (body : EventBody) : Wrought c ch s (t.handTo p pos body) where
  frame := by
    rw [handTo_eq]
    exact congrArg (fun t' : State => t'.setSession p (received pos body (t.session p))) h.frame
  own := by rw [State.handTo_chan, h.own]
  other d ne := by rw [State.handTo_chan, h.other d ne]
  groups g := by
    rw [State.handTo_group, State.handTo_chan]
    exact h.groups g

theorem resched (sched : Schedule) : Wrought c ch s { t with sched := sched } where
  frame := congrArg (fun t : State => { t with sched := sched }) h.frame
  own := h.own
  other := h.other
  groups := h.groups

end Wrought

/-! ## The verify timer -/

/-- R81: the work after a change of a channel that owes no open and is not RELEASING. -/
theorem work_changed {c : Chan} {s : State} (none : (s.chan c).pendingOpen = none)
    (notReleasing : isReleasing (s.chan c).claim = false) : work [.changed c] s = updateOccupancy c s := by
  have own : (updateOccupancy c s).chan c = occupancyOf (s.chan c) := by rw [updateOccupancy_chan, if_pos rfl]
  refine work_one fun task h => ?_
  rcases List.mem_cons.mp h with rfl | drain
  · exact idle_examine (by rw [show Task.run _ _ s = (updateOccupancy c s, _) from rfl, own]; exact none)
  · rw [List.mem_singleton.mp drain]
    exact idle_drain (by rw [show Task.run _ _ s = (updateOccupancy c s, _) from rfl, own]; exact notReleasing)

theorem Wrought.updateOccupancy {c : Chan} {ch : Channel} {s t : State} (h : Wrought c ch s t)
    (groups : ∀ g, t.group g = s.group g) (cfg : ch.cfg = (s.chan c).cfg) (occupant : ch.occupant = (s.chan c).occupant) :
    Wrought c (occupancyOf ch) s (Machine.updateOccupancy c t) where
  frame := (updateOccupancy_keeps c t).frame.trans (by rw [h.frame])
  own := by rw [updateOccupancy_chan, if_pos rfl, h.own]
  other d ne := by rw [updateOccupancy_chan, if_neg (Ne.symm ne), h.other d ne]
  groups := by
    refine (updateOccupancy_group c t).of_occupants (fun d => ?_) (fun d => ?_) (congrArg Ltb.pos h.ltb)
      (fun g => by rw [groups]) groups
    · by_cases e : d = c
      · rw [e, h.own, cfg]
      · rw [h.other d e]
    · by_cases e : d = c
      · rw [e, h.own, occupant]
      · rw [h.other d e]

/-- R73: an entry to FAULT of a held channel whose held open, if it has one, has no DEFERRED entry: the FAULT record, the
record of the held open, and the occupancy. -/
theorem enterFault_held {c : Chan} {p : Port} {cause : FaultCause} {s : State} (held : (s.chan c).claim = .held p)
    (single : ∀ tag label, (s.chan c).pendingOpen = some (.held tag label) → deferredOf tag s.sched = none)
    (noRelease : (s.chan c).pendingOpen ≠ some .release) :
    let first := received s.ltb.pos (.fault c cause (some p)) (s.session p)
    let t := enterFault c cause s
    Wrought c (occupancyOf (faultChannel s.ltb.pos cause (s.chan c))) s t ∧ t.sched = s.sched
      ∧ OnlySession p
          (match (s.chan c).pendingOpen with
            | some (.held tag label) => received s.ltb.pos (.missed tag label .pulse true (some c) .fault 0) first
            | _ => first)
          s t.sessions := by
  intro first t
  obtain ⟨claim, cfg, occupant, noOpen⟩ : (faultChannel s.ltb.pos cause (s.chan c)).claim = .held p
      ∧ (faultChannel s.ltb.pos cause (s.chan c)).cfg = (s.chan c).cfg
      ∧ (faultChannel s.ltb.pos cause (s.chan c)).occupant = (s.chan c).occupant
      ∧ (faultChannel s.ltb.pos cause (s.chan c)).pendingOpen = none := by
    unfold faultChannel
    dsimp only
    split <;> exact ⟨held, rfl, rfl, rfl⟩
  let u := s.setChan c (faultChannel s.ltb.pos cause (s.chan c))
  have recorded : faultRecord c cause u = u.handTo p s.ltb.pos (.fault c cause (some p)) := by
    rw [faultRecord, State.setChan_chan_same, claim]
    rfl
  have wrought : Wrought c (faultChannel s.ltb.pos cause (s.chan c)) s u :=
    (Commanded.refl c s).wrought.setChan occupant
  have ends : ∀ w, Wrought c (faultChannel s.ltb.pos cause (s.chan c)) s w → (∀ g, w.group g = s.group g) →
      work [.changed c] w = Machine.updateOccupancy c w
        ∧ Wrought c (occupancyOf (faultChannel s.ltb.pos cause (s.chan c))) s (Machine.updateOccupancy c w) :=
    fun w written groups =>
      ⟨work_changed (by rw [written.own, noOpen]) (by rw [written.own, claim]; rfl),
        written.updateOccupancy groups cfg occupant⟩
  have told := (sessions_self s p).handTo (t := u) s.ltb.pos (.fault c cause (some p))
  have fault := wrought.handTo p s.ltb.pos (.fault c cause (some p))
  rw [← recorded] at told fault
  have groups : ∀ g, (faultRecord c cause u).group g = s.group g := fun g => by rw [recorded, State.handTo_group]; rfl
  have sched : (faultRecord c cause u).sched = s.sched := by rw [recorded, State.handTo_sched]; rfl
  have pos : (faultRecord c cause u).ltb.pos = s.ltb.pos := by rw [fault.ltb]
  have owner : ownerOf ((faultRecord c cause u).chan c).claim = some p := by rw [fault.own, claim]; rfl
  cases owes : (s.chan c).pendingOpen with
  | none =>
    have entered : t = Machine.updateOccupancy c (faultRecord c cause u) := by
      rw [← (ends _ fault groups).1]
      simp only [t, enterFault, owes, u]
    rw [entered]
    exact ⟨(ends _ fault groups).2, (updateOccupancy_stands c _).sched.trans sched, by
      rw [updateOccupancy_sessions]; exact told⟩
  | some owed =>
    cases owed with
    | release => exact absurd owes noRelease
    | held tag label =>
      let missed := EventBody.missed tag label .pulse true (some c) .fault 0
      have report : resolveHeld false c tag (fun n => .missed tag label .pulse true (some c) .fault n)
          (faultRecord c cause u) = ((faultRecord c cause u).handTo p s.ltb.pos missed, []) := by
        unfold resolveHeld resolveDeferred
        rw [owner]
        dsimp only [State.handToOwner]
        rw [State.handTo_sched, sched, single tag label owes, pos]
        rfl
      have written := fault.handTo p s.ltb.pos missed
      have groups : ∀ g, ((faultRecord c cause u).handTo p s.ltb.pos missed).group g = s.group g := fun g => by
        rw [State.handTo_group, groups]
      have entered : t = Machine.updateOccupancy c ((faultRecord c cause u).handTo p s.ltb.pos missed) := by
        rw [← (ends _ written groups).1]
        simp only [t, enterFault, owes]
        rw [report]
        rfl
      rw [entered]
      refine ⟨(ends _ written groups).2, ?_, ?_⟩
      · rw [(updateOccupancy_stands c _).sched, State.handTo_sched, sched]
      · rw [updateOccupancy_sessions]
        exact told.handTo s.ltb.pos missed

theorem occupancyOf_fault (pos : Pos) (cause : FaultCause) (ch : Channel) (ungrouped : ch.cfg.group = none → ch.occupant = false) :
    occupancyOf (faultChannel pos cause ch) =
      { ch with
        state := .fault cause, drive := false, verifyAt := none, pendingOpen := none
        changePos := if ch.drive = true then pos else ch.changePos
        settled := if ch.drive = true then false else ch.settled
        occupant := ch.cfg.group.isSome && (ch.feedback || decide (cause = .openUnconfirmed)) } := by
  cases on : ch.drive with
  | true => cases grouped : ch.cfg.group <;> simp [occupancyOf, faultChannel, driveOff, occupies, on, grouped, ungrouped]
  | false => cases grouped : ch.cfg.group <;> simp [occupancyOf, faultChannel, occupies, on, grouped, ungrouped]

/-- Settles O51: Table 4-2 leaves the two states in which the timer runs, and either entry to FAULT is the held one. -/
theorem verifyTimerExpires : Obligations.VerifyTimerExpires := by
  unfold Obligations.VerifyTimerExpires
  intro c p s running ok held
  have exec : exec (.verifyTimerExpiry c) s = .next (verifyExpiry c s) := by
    show Host.Outcome.next _ = _
    rw [State.whileRunning_running running]
  obtain ⟨drive, timer, present, fault, ungrouped, occupies⟩ := ok.1 c
  refine ⟨fun stopped => ?_, fun runs single noRelease => ?_⟩
  · rw [exec, verifyExpiry, stopped]
  · obtain ⟨at', running⟩ := Option.ne_none_iff_exists'.mp runs
    have moving : movingState (s.chan c).state = true := by rw [← timer, running]; rfl
    let cause := if (s.chan c).state = .closing then FaultCause.closeUnconfirmed else .openUnconfirmed
    have expires : verifyExpiry c s = enterFault c cause s := by
      unfold verifyExpiry
      rw [running]
      cases state : (s.chan c).state <;> simp_all [movingState, cause]
    obtain ⟨wrought, sched, told⟩ := enterFault_held (cause := cause) held single noRelease
    rw [exec, expires]
    refine ⟨_, rfl, wrought.other, ?_, wrought.groups, ?_, told⟩
    · have frame := wrought.frame
      rw [sched] at frame
      exact frame
    · rw [wrought.own]
      have on : (s.chan c).drive = true ↔ (s.chan c).state = .closing := by
        rw [drive]
        cases state : (s.chan c).state <;> simp_all [movingState, drivenState]
      rw [occupancyOf_fault _ _ _ ungrouped]
      simp only [on]
      rfl

/-! ## Runs of tasks -/

/-- The tasks come to their end at `t`, of which at most `k` find something to do. -/
def RunsTo (k : Nat) (tasks : List Task) (s t : State) : Prop := ∀ n, runTasks (n + k) tasks s = t

namespace RunsTo

variable {k : Nat} {t : Task} {ts : List Task} {s u : State}

theorem idle {tasks : List Task} (idle : ∀ t ∈ tasks, Idle s t) : RunsTo 0 tasks s s := fun _ => runTasks_idle _ _ idle

theorem step (h : RunsTo k ((t.run (ts.contains .fireOn) s).2 ++ ts) (t.run (ts.contains .fireOn) s).1 u) :
    RunsTo (k + 1) (t :: ts) s u := fun n => by
  rw [← Nat.add_assoc, runTasks_cons]
  exact h n

theorem skip (idle : Idle s t) (h : RunsTo k ts s u) : RunsTo (k + 1) (t :: ts) s u := by
  refine step ?_
  rw [idle]
  exact h

theorem work {tasks : List Task} (h : RunsTo k tasks s u) (few : k ≤ 4) : work tasks s = u := by
  have room : 4 ≤ workFuel := by unfold workFuel; norm_num
  rw [Machine.work, show workFuel = workFuel - k + k by omega]
  exact h _

end RunsTo

/-! ## The examination of a pending open -/

theorem examine_refused {c : Chan} {reason : MissReason} {s : State} (refuses : openAnswer s c = .refused reason) :
    Idle s (.examine c) := fun _ => by
  unfold Task.run examinePendingOpen
  dsimp only
  split
  · rfl
  · rw [openCommand_refused (by rw [refuses]; nofun), refuses]

/-- R78: the open is taken: the channel is OPEN, or CLOSED and past its dwell. -/
def OpenTaken (s : State) (c : Chan) : Prop :=
  (s.chan c).state = .opened ∨ (s.chan c).state = .closed ∧ dwellMet s (s.chan c) (s.chan c).cfg.onDwell = true

/-- R78, R81: the channel behind a pending open that is taken. -/
def takenChannel (s : State) (c : Chan) : Channel :=
  { (if (s.chan c).state = .opened then s.chan c else openedChannel s.now s.ltb.pos (s.chan c)) with pendingOpen := none }

/-- R81: the tasks behind a pending open that is taken. -/
def takenTasks (s : State) (c : Chan) : List Task :=
  if (s.chan c).state = .opened then [.drain c] else [.examine c, .drain c]

theorem openAnswer_taken {s : State} {c : Chan} (taken : OpenTaken s c) :
    openAnswer s c = if (s.chan c).state = .opened then .already else .accepted := by
  unfold openAnswer
  rcases taken with opened | ⟨closed, dwell⟩
  · simp [opened]
  · simp [closed, dwell]

/-- R81: a pending open that is taken is executed, and the further work follows. -/
theorem examine_taken {c : Chan} {o : PendingOpen} {s : State} (owes : (s.chan c).pendingOpen = some o)
    (taken : OpenTaken s c) (inLoop : Bool) :
    examinePendingOpen inLoop c s =
      ((executePendingOpen inLoop c o (decide ((s.chan c).state = .opened)) (openCommand c s).2).1,
        (executePendingOpen inLoop c o (decide ((s.chan c).state = .opened)) (openCommand c s).2).2 ++ takenTasks s c) := by
  have answer : openCommand c s = (if (s.chan c).state = .opened then .already else .accepted, (openCommand c s).2) :=
    Prod.ext ((openCommand_answer c s).trans (openAnswer_taken taken)) rfl
  unfold examinePendingOpen takenTasks
  rw [owes, answer]
  dsimp only
  by_cases opened : (s.chan c).state = .opened
  · rw [if_pos opened, if_pos opened, decide_eq_true opened]
  · rw [if_neg opened, if_neg opened, decide_eq_false opened]

/-- R81: what the open has made of the channel, its pending open cleared. -/
theorem cleared_wrought {c : Chan} {s : State} (taken : OpenTaken s c) :
    Wrought c (takenChannel s c) s (clearPendingOpen c (openCommand c s).2) := by
  have answer := openAnswer_taken taken
  have command := openCommand_commands c s
  rw [answer] at command
  have cleared : { (openCommand c s).2.chan c with pendingOpen := none } = takenChannel s c := by
    rw [command.own]
    unfold takenChannel
    split <;> rfl
  rw [clearPendingOpen, cleared]
  refine command.wrought.setChan ?_
  unfold takenChannel
  split <;> rfl

theorem cleared_sched (c : Chan) (s : State) : (clearPendingOpen c (openCommand c s).2).sched = s.sched :=
  (openCommand_stands c s).sched

theorem cleared_sessions (c : Chan) (s : State) : (clearPendingOpen c (openCommand c s).2).sessions = s.sessions :=
  (openCommand_commands c s).sessions

theorem takenChannel_claim (s : State) (c : Chan) : (takenChannel s c).claim = (s.chan c).claim := by
  unfold takenChannel
  split <;> rfl

theorem takenChannel_cfg (s : State) (c : Chan) : (takenChannel s c).cfg = (s.chan c).cfg := by
  unfold takenChannel
  split <;> rfl

theorem takenChannel_tally (s : State) (c : Chan) : (takenChannel s c).tally = (s.chan c).tally := by
  unfold takenChannel
  split <;> rfl

theorem takenChannel_state (s : State) (c : Chan) :
    (takenChannel s c).state =
      if (s.chan c).state ≠ .opened ∧ (s.chan c).cfg.present = true ∧ (s.chan c).feedback = true then .opening
      else .opened := by
  unfold takenChannel openedChannel
  by_cases opened : (s.chan c).state = .opened
  · simp [opened]
  · simp [opened]

/-- The tasks behind a pending open of a held channel find nothing to do. -/
theorem takenTasks_idle {c : Chan} {p : Port} {s t : State} (held : (s.chan c).claim = .held p)
    (own : t.chan c = takenChannel s c) {task : Task} (mem : task ∈ takenTasks s c) : Idle t task := by
  have examine : Idle t (.examine c) := idle_examine (by rw [own]; rfl)
  have drain : Idle t (.drain c) := idle_drain (by rw [own, takenChannel_claim, held]; rfl)
  unfold takenTasks at mem
  split at mem
  · rw [List.mem_singleton.mp mem]
    exact drain
  · rcases List.mem_cons.mp mem with rfl | last
    · exact examine
    · rw [List.mem_singleton.mp last]
      exact drain

theorem drain_mem_takenTasks (s : State) (c : Chan) : .drain c ∈ takenTasks s c := by
  unfold takenTasks
  split
  · exact List.mem_singleton_self _
  · exact List.mem_cons_of_mem _ (List.mem_singleton_self _)

/-- R52: a held open that is taken: the record goes to the owner, and the DEFERRED entry of its tag is next. -/
theorem examine_held {c : Chan} {p : Port} {tag : Tag} {label : Byte} {s : State} (held : (s.chan c).claim = .held p)
    (owes : (s.chan c).pendingOpen = some (.held tag label)) (taken : OpenTaken s c) :
    let done := EventBody.done tag label .pulse true (some c) (decide ((s.chan c).state = .opened)) true
      (deferredFigure (deferredOf tag s.sched))
    ∃ w, Wrought c (takenChannel s c) s w ∧ w.sched = s.sched
      ∧ OnlySession p (received s.ltb.pos done (s.session p)) s w.sessions
      ∧ Task.run false (.examine c) s = ((resolveDeferred false tag w).1, (resolveDeferred false tag w).2 ++ takenTasks s c) := by
  intro done
  have cleared := cleared_wrought taken
  have told := sessions_self s p
  rw [← cleared_sessions c s] at told
  refine ⟨_, cleared.handTo p s.ltb.pos done, ?_, told.handTo s.ltb.pos done, ?_⟩
  · rw [State.handTo_sched, cleared_sched]
  · show examinePendingOpen false c s = _
    rw [examine_taken owes taken]
    have owner : ownerOf ((clearPendingOpen c (openCommand c s).2).chan c).claim = some p := by
      rw [cleared.own, takenChannel_claim, held]
      rfl
    unfold executePendingOpen resolveHeld
    dsimp only
    rw [owner, cleared_sched, cleared.ltb]
    rfl

/-- R81: a release open that is taken has no record of its own. -/
theorem examine_release {c : Chan} {s : State} (owes : (s.chan c).pendingOpen = some .release) (taken : OpenTaken s c) :
    Task.run false (.examine c) s = (clearPendingOpen c (openCommand c s).2, takenTasks s c) := by
  show examinePendingOpen false c s = _
  rw [examine_taken owes taken]
  rfl

/-- R106: the drain of a RELEASING channel that owes no open and has no entry. -/
theorem drainTest_ends {c : Chan} {p : Port} {s : State} (releasing : (s.chan c).claim = .releasing p)
    (unfaulted : inFault (s.chan c).state = false) (unnamed : s.namesChannel c = false)
    (noOpen : (s.chan c).pendingOpen = none) (done : (s.chan c).state = .opened ∨ (s.chan c).cfg.safe = .hold) :
    drainTest c s = (endClaim c .graceful s, []) := by
  unfold drainTest
  dsimp only
  rw [releasing, unnamed, noOpen]
  cases state : (s.chan c).state <;> simp_all [inFault, isReleasing]

theorem drainTest_waits {c : Chan} {p : Port} {s : State} (releasing : (s.chan c).claim = .releasing p)
    (unnamed : s.namesChannel c = false) (noOpen : (s.chan c).pendingOpen = none)
    (moving : movingState (s.chan c).state = true) (safe : (s.chan c).cfg.safe = .openIt) : drainTest c s = (s, []) := by
  unfold drainTest
  dsimp only
  rw [releasing, unnamed, noOpen]
  cases state : (s.chan c).state <;> simp_all [movingState, isReleasing]

/-- R107: on a CLOSED channel with safe state OPEN the release opens it. -/
theorem drainTest_places {c : Chan} {p : Port} {s : State} (releasing : (s.chan c).claim = .releasing p)
    (unnamed : s.namesChannel c = false) (noOpen : (s.chan c).pendingOpen = none) (closed : (s.chan c).state = .closed)
    (safe : (s.chan c).cfg.safe = .openIt) :
    drainTest c s = (s.setChan c { s.chan c with pendingOpen := some .release }, [.examine c]) := by
  simp [drainTest, releasing, isReleasing, closed, safe, unnamed, noOpen]

theorem drainTest_fault {c : Chan} {p : Port} {s : State} (releasing : (s.chan c).claim = .releasing p)
    (fault : inFault (s.chan c).state = true) : drainTest c s = (completeAtFault c s, []) := by
  obtain ⟨cause, state⟩ := inFault_iff.mp fault
  simp [drainTest, releasing, isReleasing, state]

/-- R106: the drain waits for the entries of the channel and for its pending open. -/
theorem drainTest_busy {c : Chan} {p : Port} {s : State} (releasing : (s.chan c).claim = .releasing p)
    (unfaulted : inFault (s.chan c).state = false)
    (busy : s.namesChannel c = true ∨ (s.chan c).pendingOpen ≠ none) : drainTest c s = (s, []) := by
  have busy : (s.namesChannel c || (s.chan c).pendingOpen.isSome) = true := by
    rw [Bool.or_eq_true, Option.isSome_iff_ne_none]
    exact busy
  unfold drainTest
  dsimp only
  rw [releasing, busy]
  cases state : (s.chan c).state <;> simp_all [inFault, isReleasing]

/-- R81, R106: behind a release open that is taken, the drain test comes. -/
theorem takenTasks_drain {c : Chan} {s t u : State} (noOpen : (t.chan c).pendingOpen = none) (drained : drainTest c t = (u, [])) :
    RunsTo 2 (takenTasks s c) t u := by
  have last : RunsTo 1 [.drain c] t u := by
    refine .step ?_
    rw [show Task.run _ (.drain c) t = (u, []) from drained]
    exact .idle nofun
  unfold takenTasks
  split
  · exact fun n => last (n + 1)
  · exact .skip (idle_examine noOpen) last

theorem endClaim_releasing {c : Chan} {p : Port} {cause : EndedCause} {s : State} (releasing : (s.chan c).claim = .releasing p) :
    endClaim c cause s = (s.setChan c { s.chan c with claim := .free, tally := 0 }).handTo p s.ltb.pos
      (.claimEnded c cause (s.chan c).tally) := by
  unfold endClaim
  dsimp only
  rw [releasing]
  rfl

/-- R109: the end of the claim of a RELEASING channel. -/
theorem Wrought.endClaim {c : Chan} {ch : Channel} {p : Port} {s t : State} (h : Wrought c ch s t)
    (releasing : ch.claim = .releasing p) :
    Wrought c { ch with claim := .free, tally := 0 } s (endClaim c .graceful t) ∧ (Machine.endClaim c .graceful t).sched = t.sched
      ∧ ∀ {r}, OnlySession p r s t.sessions →
        OnlySession p (received s.ltb.pos (.claimEnded c .graceful ch.tally) r) s (Machine.endClaim c .graceful t).sessions := by
  have own := h.own
  rw [endClaim_releasing (by rw [own]; exact releasing), own, h.ltb]
  refine ⟨(h.setChan (ch' := { ch with claim := .free, tally := 0 }) rfl).handTo .., ?_, fun {r} told => ?_⟩
  · rw [State.handTo_sched]
    rfl
  · exact told.handTo (t := t.setChan c { ch with claim := .free, tally := 0 }) ..

/-- R52: a reinsertion by the resolution of a DEFERRED entry, outside a loop. -/
theorem resolveDeferred_reinserts {tag : Tag} {x : DeferredEntry} {r : Repeat} {s : State} (found : deferredOf tag s.sched = some x)
    (rep : x.entry.rep = some r) (unmarked : x.entry.lastRun = false) :
    resolveDeferred false tag s =
      (reinsertNext x.entry r x.due { s with
          sched := { s.sched with deferred := s.sched.deferred.filter fun y => decide (y.entry.tag ≠ tag) } }, [.fire]) := by
  unfold resolveDeferred
  rw [found]
  dsimp only
  rw [rep, unmarked]
  rfl

theorem resolveDeferred_ends {tag : Tag} {x : DeferredEntry} {s : State} (found : deferredOf tag s.sched = some x)
    (marked : x.entry.lastRun = true) :
    ∃ tasks, (∀ t ∈ tasks, ∃ c, chanOf x.entry.action = some c ∧ t = .drain c)
      ∧ resolveDeferred false tag s =
        ({ s with sched := { s.sched with deferred := s.sched.deferred.filter fun y => decide (y.entry.tag ≠ tag) } },
          tasks) := by
  refine ⟨lastEntryReport x.entry.action { s with
    sched := { s.sched with deferred := s.sched.deferred.filter fun y => decide (y.entry.tag ≠ tag) } },
    fun t h => lastEntryReport_tasks h, ?_⟩
  unfold resolveDeferred
  rw [found]
  dsimp only
  rw [marked]
  cases x.entry.rep <;> rfl

theorem insertByFire_head {q : Pos} {x : PendingEntry} {l : List PendingEntry} (behind : signedDistance x.fire q ≤ 0)
    (ahead : Ahead q l) : insertByFire q x l = x :: l := by
  cases l with
  | nil => rfl
  | cons y l =>
    have late := ahead y List.mem_cons_self
    rw [insertByFire, if_neg (by omega)]

theorem idle_fire {s : State} (ahead : Ahead s.ltb.pos s.sched.pending) : Idle s .fire := fun _ => fireHead_ahead ahead

/-- R53: a SECOND phase reinserted for its next firing. -/
theorem reinsertNext_second {e : Entry} {c : Chan} {w : Nat} (r : Repeat) (due : Pos) (s : State)
    (action : e.action = .pulse c w true) :
    reinsertNext e r due s = { s with
      sched :=
        { s.sched with
          admCounter := s.sched.admCounter + 1
          pending :=
            insertByFire s.ltb.pos
              { entry := { e with action := .pulse c w false, rep := some r, adm := s.sched.admCounter + 1 }
                due := nextDue r due, fire := nextDue r due - (s.chan c).cfg.closeLead.setWidth 42 } s.sched.pending } } := by
  rw [reinsertNext, action]
  rfl

theorem deferredFigure_marked {x : DeferredEntry} (marked : x.entry.lastRun = true) : deferredFigure (some x) = 0 := by
  rw [show deferredFigure (some x) = remainingFigure x.entry.lastRun x.entry.rep from rfl, marked]
  cases x.entry.rep <;> rfl

theorem deferredFigure_more {x : DeferredEntry} {r : Repeat} (rep : x.entry.rep = some r) (unmarked : x.entry.lastRun = false) :
    deferredFigure (some x) = if r.count = 0 then 255 else r.remaining := by
  rw [show deferredFigure (some x) = remainingFigure x.entry.lastRun x.entry.rep from rfl, rep, unmarked]
  rfl

/-- R52, R54: the DEFERRED entry of a SECOND phase goes back into the pending list in phase FIRST. -/
theorem resolveDeferred_second {tag : Tag} {x : DeferredEntry} {r : Repeat} {c : Chan} {w : Nat} {s : State}
    (found : deferredOf tag s.sched = some x) (rep : x.entry.rep = some r) (unmarked : x.entry.lastRun = false)
    (action : x.entry.action = .pulse c w true) :
    let due := x.due + BitVec.ofNat 42 (r.interval * 1024)
    ∃ sched, resolveDeferred false tag s = ({ s with sched := sched }, [.fire])
      ∧ sched =
        { s.sched with
          admCounter := s.sched.admCounter + 1
          pending :=
            insertByFire s.ltb.pos
              { entry := { x.entry with action := .pulse c w false, adm := s.sched.admCounter + 1 }
                due := due, fire := due - (s.chan c).cfg.closeLead.setWidth 42 } s.sched.pending
          deferred := s.sched.deferred.filter fun y => decide (y.entry.tag ≠ tag) } := by
  rw [resolveDeferred_reinserts found rep unmarked, reinsertNext_second r x.due _ action, ← rep]
  exact ⟨_, rfl, rfl⟩

/-- R47, R53: the last firing of a PULSE whose fire position lies behind and whose tolerance test fails. -/
theorem fireHead_untimely {x : PendingEntry} {c : Chan} {w : Nat} {r : Repeat} {rest : List PendingEntry} {s : State}
    (head : s.sched.pending = x :: rest) (behind : signedDistance x.fire s.ltb.pos ≤ 0)
    (action : x.entry.action = .pulse c w false) (rep : x.entry.rep = some r) (counted : r.count ≠ 0) (last : r.remaining = 1)
    (tol : x.entry.tol = .lockOnly) (unlocked : s.ltb.lock ≠ .locked) :
    ∃ tasks, (∀ t ∈ tasks, t = .drain c ∨ t = .fireOn)
      ∧ fireHead s =
        ({ s with sched := { s.sched with pending := rest } }.handTo x.entry.owner s.ltb.pos
          (.missed x.entry.tag x.entry.label .pulse false (some c) .timebase 0), tasks) := by
  have ended : nextRepeat x.entry = none := by
    rw [nextRepeat_eq rep, if_pos (.inr ⟨last.le, counted⟩)]
  have figure : issueFigure x.entry = 0 := by
    rw [issueFigure_eq rep, if_neg counted, last]
    exact ite_self _
  have issued := issue_untimely (x := x) (s := { s with sched := { s.sched with pending := rest } })
    (by rw [action]; rfl) (by rw [tol]; exact decide_eq_false unlocked)
  rw [fireHead_reached head behind, issued]
  refine ⟨_, fun t mem => ?_, Prod.ext ?_ rfl⟩
  · rcases List.mem_append.mp mem with drains | fireOn
    · obtain ⟨d, names, rfl⟩ := endFiring_tasks drains
      rw [action] at names
      cases names
      exact .inl rfl
    · exact .inr (List.mem_singleton.mp fireOn)
  · show (endFiring x.entry x.due _).1 = _
    rw [endFiring_eq, ended, missedRecord, figure, action]
    rfl

theorem openAnswer_refuses {s : State} {c : Chan} (refuses : movingState (s.chan c).state = true
    ∨ (s.chan c).state = .closed ∧ dwellMet s (s.chan c) (s.chan c).cfg.onDwell = false) :
    ∃ reason, openAnswer s c = .refused reason := by
  unfold openAnswer
  rcases refuses with moving | ⟨closed, dwell⟩
  · cases state : (s.chan c).state <;> simp_all [movingState]
  · exact ⟨.dwell, by simp [closed, dwell]⟩

/-- R81: the end of the examination of a held channel's pending open, at a state that has it cleared. -/
theorem examine_runsTo {c : Chan} {s u t : State} {k : Nat} {tasks : List Task}
    (run : Task.run false (.examine c) s = (u, tasks)) (rest : RunsTo k tasks u t) : RunsTo (k + 1) [.examine c] s t := by
  refine .step ?_
  rw [show Task.run (([] : List Task).contains .fireOn) (.examine c) s = (u, tasks) from run, List.append_nil]
  exact rest

theorem examine_reinserted {c : Chan} {s u : State} {tasks : List Task}
    (run : Task.run false (.examine c) s = (u, .fire :: tasks)) (ahead : Ahead u.ltb.pos u.sched.pending)
    (idle : ∀ t ∈ tasks, Idle u t) : RunsTo 1 [.examine c] s u :=
  examine_runsTo run (.idle (List.forall_mem_cons.mpr ⟨idle_fire ahead, idle⟩))

/-- R54: the entry that the examination has reinserted behind the position is issued at once, and misses. -/
theorem examine_reissued {x : PendingEntry} {c : Chan} {w : Nat} {r : Repeat} {rest : List PendingEntry} {s u : State}
    {tasks : List Task} (run : Task.run false (.examine c) s = (u, .fire :: tasks))
    (head : u.sched.pending = x :: rest) (behind : signedDistance x.fire u.ltb.pos ≤ 0)
    (action : x.entry.action = .pulse c w false) (rep : x.entry.rep = some r) (counted : r.count ≠ 0) (last : r.remaining = 1)
    (tol : x.entry.tol = .lockOnly) (unlocked : u.ltb.lock ≠ .locked) (ahead : Ahead u.ltb.pos rest)
    (drain : ∀ t, t.chan c = u.chan c → Idle t (.drain c))
    (idle : ∀ t, t.chan c = u.chan c → ∀ task ∈ tasks, Idle t task) :
    RunsTo 2 [.examine c] s ({ u with sched := { u.sched with pending := rest } }.handTo x.entry.owner u.ltb.pos
      (.missed x.entry.tag x.entry.label .pulse false (some c) .timebase 0)) := by
  obtain ⟨further, ends, fired⟩ := fireHead_untimely head behind action rep counted last tol unlocked
  refine examine_runsTo run (.step ?_)
  rw [show Task.run _ .fire u = _ from fired]
  refine .idle fun task mem => ?_
  have own : ∀ body, ({ u with sched := { u.sched with pending := rest } }.handTo x.entry.owner u.ltb.pos body).chan c =
      u.chan c := fun body => State.handTo_chan ..
  rcases List.mem_append.mp mem with done | later
  · rcases ends task done with rfl | rfl
    · exact drain _ (own _)
    · refine idle_fireOn ?_
      rw [State.handTo_ltb, State.handTo_sched]
      exact ahead
  · exact idle _ (own _) task later

/-- Settles O53, by what the examination runs to: nothing, the resolution of a held open and its DEFERRED entry, or the end of
a release. -/
theorem pendingOpenExamined : Obligations.PendingOpenExamined := by
  unfold Obligations.PendingOpenExamined
  intro c s running ch pos already taken opened result
  have exec : exec (.pendingOpenExecution c) s = .next (work [.examine c] s) := by
    show Host.Outcome.next _ = _
    rw [State.whileRunning_running running]
    rfl
  have stays : Idle s (.examine c) → Machine.exec (.pendingOpenExecution c) s = .next s := fun idle => by
    rw [exec, work_idle fun t h => by rw [List.mem_singleton.mp h]; exact idle]
  have isOpened : ∀ {t claim tally}, t.chan c = { takenChannel s c with claim := claim, tally := tally } →
      opened t claim tally := fun {t claim tally} own => by
    show if already = true then _ else _
    rw [own, takenChannel]
    by_cases isOpen : (s.chan c).state = .opened
    · rw [if_pos isOpen, if_pos (decide_eq_true isOpen)]
    · rw [if_neg isOpen, if_neg (by simpa [already, ch] using isOpen)]
  have kept : takenChannel s c = { takenChannel s c with claim := ch.claim, tally := ch.tally } := by
    unfold takenChannel
    split <;> rfl
  have ends : ∀ {p sched records t k}, RunsTo k [.examine c] s t → k ≤ 4 → Wrought c (takenChannel s c) s t →
      t.sched = sched → OnlySession p (records.foldl (fun r b => received pos b r) (s.session p)) s t.sessions →
      result p sched ch.claim records := fun {p sched records t k} run few wrought stored told => by
    rw [← stored]
    exact ⟨t, by rw [exec, run.work few], wrought.other, wrought.frame, isOpened (wrought.own.trans kept), wrought.groups,
      told⟩
  refine ⟨fun free => stays (idle_examine free), fun refuses => ?_, fun p tag label held owes taken => ?_,
    fun p releasing owes taken unnamed => ?_⟩
  · obtain ⟨reason, answer⟩ := openAnswer_refuses refuses
    exact stays (examine_refused answer)
  · intro done
    obtain ⟨w, wrought, sched, told, run⟩ := examine_held held owes taken
    have tasksIdle : ∀ {t task}, t.chan c = takenChannel s c → task ∈ takenTasks s c → Idle t task :=
      fun own mem => takenTasks_idle held own mem
    refine ⟨fun single => ?_, fun x found phase action => ?_⟩
    · rw [single] at told
      have resolved : resolveDeferred false tag w = (w, []) := by
        unfold resolveDeferred
        rw [sched, single]
      rw [resolved] at run
      exact ends (examine_runsTo run (.idle fun task mem => tasksIdle wrought.own mem)) (by omega) wrought sched told
    · intro left
      have found' : deferredOf tag w.sched = some x := by rw [sched]; exact found
      rw [show deferredOf tag s.sched = some x from found] at told
      refine ⟨fun marked => ?_, fun r rep unmarked => ?_⟩
      · obtain ⟨tasks, drains, resolved⟩ := resolveDeferred_ends found' marked
        rw [resolved] at run
        rw [deferredFigure_marked marked] at told
        refine ends (examine_runsTo run (.idle fun task mem => ?_)) (by omega) (wrought.resched _) ?_ told
        · rcases List.mem_append.mp mem with drain | later
          · obtain ⟨d, names, rfl⟩ := drains task drain
            rw [action] at names
            cases names
            exact tasksIdle wrought.own (drain_mem_takenTasks s c)
          · exact tasksIdle wrought.own later
        · dsimp only
          rw [sched]
      · intro due fire adm again figure
        let stored : List PendingEntry → Schedule := fun pending =>
          { s.sched with admCounter := adm, pending := pending, deferred := left }
        let queued : PendingEntry := { entry := again, due := due, fire := fire }
        obtain ⟨u, resolved, uWrought, uSched, uSessions⟩ : ∃ u, resolveDeferred false tag w = (u, [.fire])
            ∧ Wrought c (takenChannel s c) s u ∧ u.sched = stored (insertByFire pos queued s.sched.pending)
            ∧ u.sessions = w.sessions := by
          have cfg : (w.chan c).cfg = ch.cfg := by rw [wrought.own, takenChannel_cfg]
          obtain ⟨sched', resolved, is⟩ := resolveDeferred_second found' rep unmarked action
          rw [cfg, sched, wrought.ltb] at is
          exact ⟨_, resolved, wrought.resched _, is, rfl⟩
        rw [resolved] at run
        rw [deferredFigure_more rep unmarked, ← uSessions] at told
        have ltb := uWrought.ltb
        refine ⟨fun late ahead => ?_, fun behind ahead tol unlocked counted last own => ?_⟩
        · refine ends (examine_reinserted run ?_ fun task mem => tasksIdle uWrought.own mem) (by decide) uWrought uSched told
          rw [ltb, uSched]
          exact ahead_insertByFire (x := queued) late ahead
        · rw [insertByFire_head (x := queued) behind ahead] at uSched
          have missed := examine_reissued run (x := queued) (rest := s.sched.pending) (r := r) (w := phase)
            (by rw [uSched]) (by rw [ltb]; exact behind) rfl rep counted last tol (by rw [ltb]; exact unlocked)
            (by rw [ltb]; exact ahead) (fun t same => tasksIdle (same.trans uWrought.own) (drain_mem_takenTasks s c))
            (fun t same task mem => tasksIdle (same.trans uWrought.own) mem)
          have owner : queued.entry.owner = p := own
          rw [owner] at missed
          refine ends missed (by decide) ((uWrought.resched _).handTo ..) ?_ ?_
          · rw [State.handTo_sched, uSched]
          · rw [if_neg counted, last] at told
            have both := told.handTo (t := { u with sched := { u.sched with pending := s.sched.pending } }) u.ltb.pos
              (.missed x.entry.tag x.entry.label .pulse false (some c) .timebase 0)
            rw [show received u.ltb.pos = received s.ltb.pos by rw [ltb]] at both
            exact both
  · have wrought := cleared_wrought taken
    have run := examine_release owes taken
    have sched := cleared_sched c s
    have sessions := cleared_sessions c s
    generalize clearPendingOpen c (openCommand c s).2 = w at *
    have claim : (w.chan c).claim = .releasing p := by rw [wrought.own, takenChannel_claim]; exact releasing
    have names : w.namesChannel c = false := by
      unfold State.namesChannel
      rw [sched]
      exact unnamed
    have noOpen : (w.chan c).pendingOpen = none := by rw [wrought.own]; rfl
    have cfg : (w.chan c).cfg = ch.cfg := by rw [wrought.own, takenChannel_cfg]
    have told := sessions_self s p
    rw [← sessions] at told
    have state : (w.chan c).state = if already = false ∧ ch.cfg.present = true ∧ ch.feedback = true then .opening else .opened := by
      rw [wrought.own, takenChannel_state]
      simp [already, ch]
    split
    · next waits =>
      obtain ⟨closed, present, feedback, safe⟩ := waits
      rw [if_pos ⟨closed, present, feedback⟩] at state
      have drained := drainTest_waits claim names noOpen (by rw [state]; rfl) (by rw [cfg]; exact safe)
      exact ends (examine_runsTo run (takenTasks_drain noOpen drained)) (by decide) wrought sched told
    · next final =>
      have unfaulted : inFault (w.chan c).state = false := by rw [state]; split <;> rfl
      have still : (w.chan c).state = .opened ∨ (w.chan c).cfg.safe = .hold := by
        rw [state, cfg]
        split
        · next moving =>
          refine .inr ?_
          cases safe : ch.cfg.safe with
          | hold => rfl
          | openIt => exact absurd ⟨moving.1, moving.2.1, moving.2.2, safe⟩ final
        · exact .inl rfl
      have drained := drainTest_ends claim unfaulted names noOpen still
      obtain ⟨freed, stored, report⟩ := wrought.endClaim (p := p) (by rw [takenChannel_claim]; exact releasing)
      have told := report told
      rw [takenChannel_tally] at told
      have frame := freed.frame
      rw [stored, sched] at frame
      exact ⟨_, by rw [exec, (examine_runsTo run (takenTasks_drain noOpen drained)).work (by decide)], freed.other, frame,
        isOpened freed.own, freed.groups, told⟩

end Sys2Proof.Machine
end

section
/-! Requests of the port that work on one channel's entries (R60, R63, R104 to R109): RELEASE GRACEFUL and CANCEL. -/

namespace Sys2Proof.Machine

/-! ## A request and its response -/

theorem restartKeepalive_only (p : Port) (s : State) :
    OnlySession p (restarted s.now (s.session p)) s (restartKeepalive p s).sessions := by
  unfold restartKeepalive restarted
  dsimp only
  split
  · rfl
  · exact sessions_self s p

/-- R152, R157, R171: the response of a request that is taken at once, of which the effects leave the front ends and the
count. -/
theorem request_gives {p : Port} {seq : Byte} {r : Request} {s v : State} {status : Status} {payload : List Byte}
    (can : CanAct p s) (served : act p r (restartKeepalive p s) = { status := status, payload := payload, state := v })
    (fronts : v.fronts = s.fronts) (now : v.now = s.now) :
    ∃ F, sendRequest p seq r s = { v with fronts := F } ∧ Answered p seq status payload s F := by
  rw [exec_request can, served]
  refine ⟨_, rfl, ?_⟩
  unfold Answered State.front
  rw [fronts, ← now]
  rfl

/-! ## The store at a graceful release -/

/-- R63: the entries that a graceful release of the channel waits for. -/
def draining (c : Chan) (d : Schedule) : Nat :=
  (d.pending.map (·.entry) ++ d.deferred.map (·.entry)).countP (Entry.names c)

theorem names_markLastRun (c d : Chan) (e : Entry) : (markLastRun c e).names d = e.names d := by
  unfold markLastRun
  split <;> rfl

theorem markLastRun_unnamed {c : Chan} {e : Entry} (h : e.names c = false) : markLastRun c e = e := by
  simp [markLastRun, h]

/-- A map that a test does not see, and that leaves what passes it. -/
theorem filter_map_of_fixed {α : Type} {f : α → α} {q : α → Bool} (sees : ∀ x, q (f x) = q x)
    (fixed : ∀ x, q x = true → f x = x) (l : List α) : (l.map f).filter q = l.filter q := by
  induction l with
  | nil => rfl
  | cons x l ih =>
    rw [List.map_cons, List.filter_cons, List.filter_cons, sees, ih]
    split
    · next passes => rw [fixed x passes]
    · rfl

/-- R63, R108: what a completion removes need not have been marked. -/
theorem removeEntries_markChannel (c : Chan) (d : Schedule) :
    removeEntries (Entry.names c) (markChannel c d) = removeEntries (Entry.names c) d := by
  have unnamed : ∀ {e : Entry}, (!e.names c) = true → markLastRun c e = e := fun h =>
    markLastRun_unnamed (Bool.not_eq_true' _ ▸ h)
  unfold removeEntries markChannel
  dsimp only
  rw [filter_map_of_fixed (fun x => by rw [names_markLastRun]) (fun x h => by rw [unnamed h]),
    filter_map_of_fixed (fun x => by rw [names_markLastRun]) (fun x h => by rw [unnamed h]), List.filter_filter]
  simp only [Bool.and_self]

/-- R105: the WAITING entries are gone from the count, the others are marked in it. -/
theorem countEntries_markChannel (c : Chan) (d : Schedule) :
    countEntries (Entry.names c) (markChannel c d) = draining c d := by
  have waiting : (d.waiting.filter fun e => !e.names c).countP (Entry.names c) = 0 :=
    List.countP_eq_zero.mpr fun e mem => by simpa using (List.mem_filter.mp mem).2
  simp only [countEntries, draining, allEntries, markChannel, List.countP_append, List.countP_map, Function.comp_def,
    names_markLastRun, List.map_map, waiting, Nat.add_zero]

theorem namesChannel_eq (c : Chan) (s : State) : s.namesChannel c = decide (countEntries (Entry.names c) s.sched ≠ 0) := by
  rw [Bool.eq_iff_iff, decide_eq_true_iff, countEntries, ← Nat.pos_iff_ne_zero, List.countP_pos_iff, State.namesChannel,
    List.any_eq_true]

/-! ## The graceful release of a held channel -/

/-- R105: the channel RELEASING, its WAITING entries gone and the others marked. -/
def beginRelease (p : Port) (c : Chan) (s : State) : State :=
  { s.setChan c { s.chan c with claim := .releasing p, tally := s.sched.waiting.countP (Entry.names c) } with
    sched := markChannel c s.sched }

theorem gracefulRelease_held {p : Port} {c : Chan} {s : State} (held : (s.chan c).claim = .held p) :
    gracefulRelease c s = work [.drain c] (beginRelease p c s) := by
  unfold gracefulRelease
  dsimp only
  rw [held]
  rfl

theorem beginRelease_names (p : Port) (c : Chan) (s : State) :
    (beginRelease p c s).namesChannel c = decide (draining c s.sched ≠ 0) := by
  rw [namesChannel_eq, ← countEntries_markChannel]
  rfl

theorem drain_runsTo {c : Chan} {k : Nat} {s u t : State} {tasks : List Task} (drained : drainTest c s = (u, tasks))
    (rest : RunsTo k tasks u t) : RunsTo (k + 1) [.drain c] s t := by
  refine .step ?_
  rw [show Task.run _ (.drain c) s = (u, tasks) from drained, List.append_nil]
  exact rest

/-- R104: the payload for one channel. -/
theorem releasePayload_free {c : Chan} {s : State} (free : (s.chan c).claim = .free) :
    releasePayload [c] s = bytes16 (setOf [c]) ++ [0, 0] := by
  simp [releasePayload, freeChans, free, isReleasing, setOf, bytes16]

theorem releasePayload_releasing {c : Chan} {p : Port} {s : State} (releasing : (s.chan c).claim = .releasing p) :
    releasePayload [c] s = [0, 0] ++ bytes16 (setOf [c]) := by
  simp [releasePayload, freeChans, releasing, isReleasing, setOf, bytes16]

theorem chanSetOf_one : ∀ c : Chan, chanSetOf (setOf [c]) = some [c] := by decide

theorem act_release_one {p : Port} {c : Chan} {s : State} (held : (s.chan c).claim = .held p) :
    act p (.release (setOf [c]) 0) s = accept (releasePayload [c] (gracefulRelease c s)) (gracefulRelease c s) := by
  have holds : [c].all (s.holds p) = true := by simp [State.holds, held, ownerOf]
  show serveRelease p (setOf [c]) 0 s = _
  unfold serveRelease
  rw [chanSetOf_one, show releaseModeOfByte 0 = some .graceful from rfl]
  dsimp only
  rw [if_pos holds]
  rfl

theorem Wrought.of_sessions {s u : State} (c : Chan) (frame : u = { s with sessions := u.sessions }) :
    Wrought c (s.chan c) s u where
  frame := by rw [frame]
  own := by rw [frame]; rfl
  other _ _ := by rw [frame]; rfl
  groups := .of_groups (fun _ => by rw [frame]; rfl) (by rw [frame]; exact id)

theorem beginRelease_wrought_from {c : Chan} {s u : State} (base : Wrought c (s.chan c) s u) (sched : u.sched = s.sched)
    (p : Port) :
    Wrought c { s.chan c with claim := .releasing p, tally := s.sched.waiting.countP (Entry.names c) } s
      (beginRelease p c u) := by
  unfold beginRelease
  rw [base.own, sched]
  exact (base.setChan
    (ch' := { s.chan c with claim := .releasing p, tally := s.sched.waiting.countP (Entry.names c) }) rfl).resched _

/-- R108: the entries that a completion at FAULT removes, and counts. -/
theorem removeChannelEntries_wrought {c : Chan} {ch : Channel} {s w : State} (began : Wrought c ch s w)
    (stored : w.sched = markChannel c s.sched) :
    Wrought c { ch with tally := ch.tally + draining c s.sched } s (removeChannelEntries c w)
      ∧ (removeChannelEntries c w).sched = removeEntries (Entry.names c) s.sched
      ∧ (removeChannelEntries c w).sessions = w.sessions := by
  unfold removeChannelEntries State.removeWhere
  dsimp only
  rw [stored, countEntries_markChannel, removeEntries_markChannel, began.own]
  exact ⟨(began.resched _).setChan (ch' := { ch with tally := ch.tally + draining c s.sched }) rfl, rfl, rfl⟩

theorem movingState_of_rest {state : ChanState} (unfaulted : inFault state = false) (shut : state ≠ .opened)
    (unclosed : state ≠ .closed) : movingState state = true := by
  cases state with
  | opened => exact absurd rfl shut
  | closed => exact absurd rfl unclosed
  | closing => rfl
  | opening => rfl
  | fault cause => cases unfaulted

/-- A change of the channel behind one that leaves its group and its being an occupant. -/
theorem Wrought.trans {c : Chan} {ch ch' : Channel} {s t u : State} (h : Wrought c ch s t) (k : Wrought c ch' t u)
    (cfg : ch.cfg = (s.chan c).cfg) (occupant : ch.occupant = (s.chan c).occupant) : Wrought c ch' s u where
  frame := k.frame.trans (by rw [h.frame])
  own := k.own
  other d ne := (k.other d ne).trans (h.other d ne)
  groups := by
    have groups := h.groups.stays (by rw [h.own, occupant]; exact id)
    refine k.groups.of_occupants (fun d => ?_) (fun d => ?_) (congrArg Ltb.pos h.ltb) (fun g => by rw [groups]; rfl) groups
    · by_cases e : d = c
      · rw [e, h.own, cfg]
      · rw [h.other d e]
    · by_cases e : d = c
      · rw [e, h.own, occupant]
      · rw [h.other d e]

/-- Settles O27, by the drain test that the release begins with: completed at FAULT, waiting for entries or an open, completed
at once, or a release open placed and examined. -/
theorem gracefulReleaseDrains : Obligations.GracefulReleaseDrains := by
  unfold Obligations.GracefulReleaseDrains
  intro p seq c s can held
  have told := restartKeepalive_only p s
  have frame := restartKeepalive_frame p s
  have attached : (restarted s.now (s.session p)).attached = true := by
    unfold restarted
    split
    · exact can.2
    · exact can.2
  have base := Wrought.of_sessions c frame
  have sched : (restartKeepalive p s).sched = s.sched := by rw [frame]
  have answers : ∀ {k v ch'}, RunsTo k [.drain c] (beginRelease p c (restartKeepalive p s)) v → k ≤ 4 → Wrought c ch' s v →
      ∃ F, exec (.release p seq (setOf [c]) 0) s = .next { v with fronts := F }
        ∧ { v with fronts := F } = { s with fronts := F, sessions := v.sessions, chans := v.chans, groups := v.groups, sched := v.sched }
        ∧ OnlyChannel c s { v with fronts := F }
        ∧ Answered p seq .ok (releasePayload [c] v) s F := fun {k v ch'} run few wrought => by
    have heldU : ((restartKeepalive p s).chan c).claim = .held p := by rw [base.own]; exact held
    have served := act_release_one heldU
    rw [gracefulRelease_held heldU, run.work few] at served
    obtain ⟨F, exec, answered⟩ := request_gives can served (by rw [wrought.frame]) (by rw [wrought.frame])
    exact ⟨F, congrArg Host.Outcome.next exec, congrArg (fun v : State => { v with fronts := F }) wrought.frame, wrought.other,
      answered⟩
  generalize restartKeepalive p s = u at *
  generalize Machine.exec _ s = outcome at *
  have began := beginRelease_wrought_from base sched p
  have stored : (beginRelease p c u).sched = markChannel c s.sched := congrArg (markChannel c) sched
  have names : (beginRelease p c u).namesChannel c = decide (draining c s.sched ≠ 0) := by rw [beginRelease_names, sched]
  have told : OnlySession p (restarted s.now (s.session p)) s (beginRelease p c u).sessions := told
  generalize beginRelease p c u = w at *
  have claim : (w.chan c).claim = .releasing p := by rw [began.own]
  have recorded : ∀ body, received s.ltb.pos body (restarted s.now (s.session p)) =
      placeIn s.ltb.pos body (restarted s.now (s.session p)) := fun body => by rw [received, if_pos attached]
  have cfg : (w.chan c).cfg = (s.chan c).cfg := by rw [began.own]
  have state : (w.chan c).state = (s.chan c).state := by rw [began.own]
  have noOpenIs : (w.chan c).pendingOpen = (s.chan c).pendingOpen := by rw [began.own]
  by_cases fault : inFault (s.chan c).state = true
  · obtain ⟨removed, left, same⟩ := removeChannelEntries_wrought began stored
    obtain ⟨ended, kept, report⟩ := removed.endClaim rfl
    have drained : drainTest c w = (endClaim c .graceful (removeChannelEntries c w), []) :=
      drainTest_fault claim (by rw [state]; exact fault)
    have run : RunsTo 1 [.drain c] w _ := drain_runsTo drained (.idle nofun)
    obtain ⟨F, exec, frame, only, answered⟩ := answers run (by decide) ended
    refine ⟨_, exec, frame, only, ?_⟩
    rw [if_pos fault]
    rw [releasePayload_free (congrArg Channel.claim ended.own)] at answered
    have told := report (by rw [same]; exact told)
    rw [recorded] at told
    exact ⟨ended.own, kept.trans left, told, answered⟩
  have unfaulted : inFault (w.chan c).state = false := by rw [state]; exact Bool.eq_false_iff.mpr fault
  by_cases busy : (s.sched.pending.map (·.entry) ++ s.sched.deferred.map (·.entry)).countP (Entry.names c) ≠ 0
      ∨ (s.chan c).pendingOpen ≠ none
  · have run : RunsTo 1 [.drain c] w w := drain_runsTo
      (drainTest_busy claim unfaulted (by rw [names, noOpenIs, decide_eq_true_iff]; exact busy)) (.idle nofun)
    obtain ⟨F, exec, frame, only, answered⟩ := answers run (by decide) began
    refine ⟨_, exec, frame, only, ?_⟩
    rw [if_neg fault, if_pos busy]
    rw [releasePayload_releasing claim] at answered
    exact ⟨stored, began.own, told, answered⟩
  obtain ⟨drained, noOpen⟩ := not_or.mp busy
  rw [not_not] at drained noOpen
  have unnamed : w.namesChannel c = false := by rw [names, decide_eq_false_iff_not, not_not]; exact drained
  rw [← noOpenIs] at noOpen
  by_cases done : (s.chan c).state = .opened ∨ (s.chan c).cfg.safe = .hold
  · obtain ⟨ended, kept, report⟩ := began.endClaim rfl
    have run : RunsTo 1 [.drain c] w _ := drain_runsTo
      (drainTest_ends claim unfaulted unnamed noOpen (by rw [state, cfg]; exact done)) (.idle nofun)
    obtain ⟨F, exec, frame, only, answered⟩ := answers run (by decide) ended
    refine ⟨_, exec, frame, only, ?_⟩
    rw [if_neg fault, if_neg busy, if_pos done]
    rw [releasePayload_free (congrArg Channel.claim ended.own)] at answered
    have told := report told
    rw [recorded] at told
    exact ⟨kept.trans stored, ended.own, told, answered⟩
  obtain ⟨shut, openIt⟩ := not_or.mp done
  have safe : (w.chan c).cfg.safe = .openIt := by
    rw [cfg]
    cases is : (s.chan c).cfg.safe with
    | openIt => rfl
    | hold => exact absurd is openIt
  by_cases closed : (s.chan c).state = .closed
  · obtain ⟨x, drained, placed, same⟩ : ∃ x, drainTest c w = (x, [.examine c])
        ∧ Wrought c { s.chan c with
            claim := .releasing p, tally := s.sched.waiting.countP (Entry.names c), pendingOpen := some .release } s x
        ∧ x.sched = w.sched ∧ x.sessions = w.sessions := by
      have drained := drainTest_places claim unnamed noOpen (state.trans closed) safe
      rw [began.own] at drained
      exact ⟨_, drained, began.setChan (ch' := { s.chan c with
        claim := .releasing p, tally := s.sched.waiting.countP (Entry.names c), pendingOpen := some .release }) rfl, rfl, rfl⟩
    obtain ⟨sameSched, sameSessions⟩ := same
    have stored : x.sched = markChannel c s.sched := sameSched.trans stored
    have told : OnlySession p (restarted s.now (s.session p)) s x.sessions := by rw [sameSessions]; exact told
    have unnamed : x.namesChannel c = false := by
      rw [State.namesChannel, sameSched]
      exact unnamed
    have owes : (x.chan c).pendingOpen = some .release := by rw [placed.own]
    have closedX : (x.chan c).state = .closed := by rw [placed.own]; exact closed
    have dwell : dwellMet x (x.chan c) (x.chan c).cfg.onDwell = dwellMet s (s.chan c) (s.chan c).cfg.onDwell := by
      rw [placed.own, dwellMet, placed.ltb]
      rfl
    by_cases met : dwellMet s (s.chan c) (s.chan c).cfg.onDwell = false
    · obtain ⟨reason, refused⟩ := openAnswer_refuses (.inr ⟨closedX, dwell.trans met⟩)
      have run : RunsTo 1 [.drain c] w x :=
        drain_runsTo drained (.idle fun t mem => by rw [List.mem_singleton.mp mem]; exact examine_refused refused)
      obtain ⟨F, exec, frame, only, answered⟩ := answers run (by decide) placed
      refine ⟨_, exec, frame, only, ?_⟩
      rw [if_neg fault, if_neg busy, if_neg done, if_pos (.inr met)]
      rw [releasePayload_releasing (p := p) (by rw [placed.own])] at answered
      refine ⟨stored, ?_, told, answered⟩
      rw [if_pos closed]
      exact placed.own
    · have taken : OpenTaken x c := .inr ⟨closedX, by rw [dwell]; exact Bool.not_eq_false _ ▸ met⟩
      have opened := cleared_wrought taken
      have examined := examine_release owes taken
      have storedY : (clearPendingOpen c (openCommand c x).2).sched = markChannel c s.sched := (cleared_sched c x).trans stored
      have toldY : OnlySession p (restarted s.now (s.session p)) s (clearPendingOpen c (openCommand c x).2).sessions := by
        rw [cleared_sessions]; exact told
      generalize clearPendingOpen c (openCommand c x).2 = y at *
      have final := placed.trans opened rfl rfl
      have claimY : (takenChannel x c).claim = .releasing p := by rw [takenChannel_claim, placed.own]
      have tally : (takenChannel x c).tally = s.sched.waiting.countP (Entry.names c) := by
        rw [takenChannel_tally, placed.own]
      have unnamedY : y.namesChannel c = false := by
        rw [State.namesChannel, storedY, ← stored]
        exact unnamed
      have noOpenY : (y.chan c).pendingOpen = none := by rw [opened.own]; rfl
      have is : takenChannel x c = { openedChannel s.now s.ltb.pos (x.chan c) with pendingOpen := none } := by
        rw [takenChannel, if_neg (by rw [closedX]; nofun), placed.now, placed.ltb]
      have made : (takenChannel x c).drive = false ∧ (takenChannel x c).pendingOpen = none
          ∧ (takenChannel x c).changePos = s.ltb.pos ∧ (takenChannel x c).closures = (s.chan c).closures := by
        rw [is, placed.own]
        exact ⟨rfl, rfl, rfl, rfl⟩
      have stateY : (takenChannel x c).state =
          if (s.chan c).cfg.present = true ∧ (s.chan c).feedback = true then .opening else .opened := by
        rw [is, placed.own]
        simp [openedChannel]
      obtain ⟨drive, cleared, changePos, closures⟩ := made
      by_cases opens : (s.chan c).cfg.present = true ∧ (s.chan c).feedback = true
      · rw [if_pos opens] at stateY
        have waits := drainTest_waits (s := y) (by rw [opened.own]; exact claimY) unnamedY noOpenY
          (by rw [opened.own, stateY]; rfl) (by rw [opened.own, takenChannel_cfg, placed.own]; exact cfg ▸ safe)
        have run : RunsTo 4 [.drain c] w y := drain_runsTo drained (examine_runsTo examined (takenTasks_drain noOpenY waits))
        obtain ⟨F, exec, frame, only, answered⟩ := answers run (by decide) final
        rw [releasePayload_releasing (p := p) (by rw [final.own]; exact claimY)] at answered
        have own : ({ y with fronts := F } : State).chan c = takenChannel x c := final.own
        refine ⟨_, exec, frame, only, ?_⟩
        rw [if_neg fault, if_neg busy, if_neg done, if_neg (by simp [closed, met]), if_pos opens, own]
        exact ⟨storedY, drive, cleared, changePos, closures, stateY, claimY, answered⟩
      · rw [if_neg opens] at stateY
        have ends := drainTest_ends (s := y) (by rw [opened.own]; exact claimY) (by rw [opened.own, stateY]; rfl) unnamedY
          noOpenY (.inl (by rw [opened.own]; exact stateY))
        have run : RunsTo 4 [.drain c] w _ := drain_runsTo drained (examine_runsTo examined (takenTasks_drain noOpenY ends))
        obtain ⟨freed, kept, report⟩ := final.endClaim claimY
        have told := report toldY
        rw [recorded, tally] at told
        obtain ⟨F, exec, frame, only, answered⟩ := answers run (by decide) freed
        rw [releasePayload_free (by rw [freed.own])] at answered
        have own : ({ endClaim c .graceful y with fronts := F } : State).chan c =
          { takenChannel x c with claim := .free, tally := 0 } := freed.own
        refine ⟨_, exec, frame, only, ?_⟩
        rw [if_neg fault, if_neg busy, if_neg done, if_neg (by simp [closed, met]), if_neg opens, own]
        exact ⟨kept.trans storedY, drive, cleared, changePos, closures, stateY, rfl, told, answered⟩
  · have moving : movingState (w.chan c).state = true := movingState_of_rest unfaulted (by rw [state]; exact shut)
      (by rw [state]; exact closed)
    have run : RunsTo 1 [.drain c] w w := drain_runsTo (drainTest_waits claim unnamed noOpen moving safe) (.idle nofun)
    obtain ⟨F, exec, frame, only, answered⟩ := answers run (by decide) began
    refine ⟨_, exec, frame, only, ?_⟩
    rw [if_neg fault, if_neg busy, if_neg done, if_pos (.inl closed)]
    rw [releasePayload_releasing claim] at answered
    refine ⟨stored, ?_, told, answered⟩
    rw [if_neg closed, ← noOpen, noOpenIs]
    exact began.own

end Sys2Proof.Machine
end

section
/-! CANCEL (R59, R60): what it removes, and the drain tests that it leads to. -/

namespace Sys2Proof.Machine

/-! ## Drain tests of channels without entries -/

theorem removeEntries_none {f : Entry → Bool} {d : Schedule} (none : countEntries f d = 0) : removeEntries f d = d := by
  have unmet : ∀ e ∈ allEntries d, f e = false := fun e mem => by
    simpa using List.countP_eq_zero.mp none e mem
  have keeps : ∀ {α : Type} (g : α → Entry) (l : List α), (∀ x ∈ l, g x ∈ allEntries d) → l.filter (fun x => !f (g x)) = l :=
    fun g l mem => List.filter_eq_self.mpr fun x hx => by rw [unmet _ (mem x hx)]; rfl
  unfold removeEntries
  rw [keeps (·.entry) d.pending fun x hx => by simp [allEntries, List.mem_map_of_mem hx],
    show d.waiting.filter (fun e => !f e) = d.waiting from keeps id d.waiting fun x hx => by simp [allEntries, hx],
    keeps (·.entry) d.deferred fun x hx => by simp [allEntries, List.mem_map_of_mem hx]]

/-- The channel owes no held open. -/
def OwesNoHeld (ch : Channel) : Prop := heldTag ch.pendingOpen = none

/-- A drain test of a channel that no entry names, or the examination of an open that no entry is behind. -/
def DrainsOnly (s : State) (t : Task) : Prop :=
  ∃ c, countEntries (Entry.names c) s.sched = 0 ∧ (t = .drain c ∨ t = .examine c ∧ OwesNoHeld (s.chan c))

theorem openAnswer_untaken {s : State} {c : Chan} (untaken : ¬ OpenTaken s c) :
    ∃ reason, openAnswer s c = .refused reason := by
  unfold OpenTaken at untaken
  unfold openAnswer
  dsimp only
  cases state : (s.chan c).state with
  | opened => exact absurd (.inl state) untaken
  | closed =>
    rw [if_neg fun met => untaken (.inr ⟨state, met⟩)]
    exact ⟨_, rfl⟩
  | closing => exact ⟨_, rfl⟩
  | opening => exact ⟨_, rfl⟩
  | fault cause => exact ⟨_, rfl⟩

/-- What such a task leaves. -/
structure StoreStays (s t : State) : Prop where
  sched : t.sched = s.sched
  noHeld : ∀ c, OwesNoHeld (s.chan c) → OwesNoHeld (t.chan c)

namespace StoreStays

theorem refl (s : State) : StoreStays s s := ⟨rfl, fun _ => id⟩

theorem trans {a b c : State} (h : StoreStays a b) (k : StoreStays b c) : StoreStays a c :=
  ⟨k.sched.trans h.sched, fun d => k.noHeld d ∘ h.noHeld d⟩

theorem setChan {s : State} {c : Chan} {ch : Channel} (noHeld : OwesNoHeld (s.chan c) → OwesNoHeld ch) :
    StoreStays s (s.setChan c ch) where
  sched := rfl
  noHeld d h := by
    rw [State.setChan_chan]
    split
    · next e => exact noHeld (e ▸ h)
    · exact h

theorem of_stands {s t : State} (h : StoreStands s t) : StoreStays s t where
  sched := h.sched
  noHeld c free := by rw [OwesNoHeld, (h.chans c).pendingOpen]; exact free

theorem drainsOnly {s t : State} (h : StoreStays s t) {task : Task} (is : DrainsOnly s task) : DrainsOnly t task := by
  obtain ⟨c, unnamed, kind⟩ := is
  exact ⟨c, by rw [h.sched]; exact unnamed, kind.imp_right fun ⟨examine, free⟩ => ⟨examine, h.noHeld c free⟩⟩

end StoreStays

theorem endClaim_stays (c : Chan) (cause : EndedCause) (s : State) : StoreStays s (endClaim c cause s) := by
  unfold endClaim
  exact (StoreStays.setChan (ch := { s.chan c with claim := .free, tally := 0 }) id).trans
    ⟨State.handToOwner_sched .., fun d h => by rw [State.handToOwner_chan]; exact h⟩

theorem drainTest_stays {c : Chan} {s : State} (unnamed : countEntries (Entry.names c) s.sched = 0) :
    StoreStays s (drainTest c s).1 ∧ ∀ t ∈ (drainTest c s).2, DrainsOnly (drainTest c s).1 t := by
  unfold drainTest
  dsimp only
  split
  · exact ⟨.refl s, nofun⟩
  · split
    · refine ⟨.trans ?_ (endClaim_stays c _ _), nofun⟩
      unfold removeChannelEntries State.removeWhere
      rw [removeEntries_none unnamed]
      exact .setChan id
    · split
      · exact ⟨.refl s, nofun⟩
      · split
        · exact ⟨endClaim_stays c _ s, nofun⟩
        · exact ⟨endClaim_stays c _ s, nofun⟩
        · refine ⟨.setChan fun _ => rfl, fun t mem => ⟨c, unnamed, .inr ⟨List.mem_singleton.mp mem, ?_⟩⟩⟩
          rw [State.setChan_chan_same]
          rfl
        · exact ⟨.refl s, nofun⟩

theorem examine_stays {c : Chan} {s : State} (inLoop : Bool) (unnamed : countEntries (Entry.names c) s.sched = 0)
    (noHeld : OwesNoHeld (s.chan c)) :
    StoreStays s (examinePendingOpen inLoop c s).1
      ∧ ∀ t ∈ (examinePendingOpen inLoop c s).2, DrainsOnly (examinePendingOpen inLoop c s).1 t := by
  cases owes : (s.chan c).pendingOpen with
  | none =>
    rw [show examinePendingOpen inLoop c s = (s, []) from idle_examine owes inLoop]
    exact ⟨.refl s, nofun⟩
  | some o =>
    cases o with
    | held tag label =>
      rw [OwesNoHeld, owes] at noHeld
      cases noHeld
    | release =>
      by_cases taken : OpenTaken s c
      · have cleared : StoreStays s (clearPendingOpen c (openCommand c s).2) :=
          (StoreStays.of_stands (openCommand_stands c s)).trans (.setChan fun _ => rfl)
        have unnamed' : countEntries (Entry.names c) (clearPendingOpen c (openCommand c s).2).sched = 0 := by
          rw [cleared.sched]; exact unnamed
        rw [examine_taken owes taken]
        refine ⟨cleared, fun t mem => ⟨c, unnamed', ?_⟩⟩
        have mem : t ∈ takenTasks s c := mem
        unfold takenTasks at mem
        split at mem
        · exact .inl (List.mem_singleton.mp mem)
        · rcases List.mem_cons.mp mem with examine | drain
          · exact .inr ⟨examine, cleared.noHeld c noHeld⟩
          · exact .inl (List.mem_singleton.mp drain)
      · obtain ⟨reason, refused⟩ := openAnswer_untaken taken
        rw [show examinePendingOpen inLoop c s = (s, []) from examine_refused refused inLoop]
        exact ⟨.refl s, nofun⟩

theorem run_stays {t : Task} {s : State} (inLoop : Bool) (is : DrainsOnly s t) :
    StoreStays s (t.run inLoop s).1 ∧ ∀ t' ∈ (t.run inLoop s).2, DrainsOnly (t.run inLoop s).1 t' := by
  obtain ⟨c, unnamed, rfl | ⟨rfl, noHeld⟩⟩ := is
  · exact drainTest_stays unnamed
  · exact examine_stays inLoop unnamed noHeld

theorem runTasks_stays (n : Nat) {tasks : List Task} {s : State} (all : ∀ t ∈ tasks, DrainsOnly s t) :
    StoreStays s (runTasks n tasks s) := by
  induction n generalizing tasks s with
  | zero => exact .refl s
  | succ n ih =>
    cases tasks with
    | nil => exact .refl s
    | cons t ts =>
      obtain ⟨stays, further⟩ := run_stays (ts.contains .fireOn) (all t List.mem_cons_self)
      rw [runTasks_cons]
      refine stays.trans (ih fun t' mem => ?_)
      rcases List.mem_append.mp mem with new | old
      · exact further t' new
      · exact stays.drainsOnly (all t' (List.mem_cons_of_mem _ old))

theorem work_stays {tasks : List Task} {s : State} (all : ∀ t ∈ tasks, DrainsOnly s t) : StoreStays s (work tasks s) :=
  runTasks_stays _ all

/-! ## The request -/

/-- R106: a CANCEL drains no channel that its port is not releasing. -/
theorem drainedBy_nil {p : Port} {f : CancelForm} {s : State} (ok : OwnershipOk s) (none : ∀ c, (s.chan c).claim ≠ .releasing p) :
    drainedBy p f s = [] := by
  refine List.filter_eq_nil_iff.mpr fun c _ drained => ?_
  simp only [Bool.and_eq_true, Bool.not_eq_true'] at drained
  obtain ⟨⟨releasing, named⟩, gone⟩ := drained
  obtain ⟨e, mem, names⟩ := List.any_eq_true.mp named
  have removed : cancelled p f e = true := by
    by_contra kept
    rw [State.namesChannel, List.any_eq_false] at gone
    refine gone e ?_ names
    exact mem_allEntries_removeEntries.mpr ⟨mem, Bool.eq_false_iff.mpr kept⟩
  have owner := ok.entries e mem c (of_decide_eq_true names)
  have own : e.owner = p := of_decide_eq_true (Bool.and_eq_true_iff.mp removed).1
  rw [own] at owner
  cases claim : (s.chan c).claim with
  | free => rw [claim] at releasing; cases releasing
  | held q => rw [claim] at releasing; cases releasing
  | releasing q =>
    rw [claim] at owner
    exact none c (claim.trans (congrArg Claim.releasing (Option.some.inj owner)))

/-- R59: every form that `cancelOf` gives is read from the payload's bytes. -/
theorem cancelOf_some {form : Byte} {tag : BitVec 16} {channel : Byte} {f : CancelForm} (h : cancelOf form tag channel = some f) :
    form = 0 ∧ f = .tag tag ∨ form = 1 ∧ (∃ c : Chan, c.val = channel.toNat ∧ f = .channel c) ∨ form = 2 ∧ f = .all := by
  have byte : ∀ n : Nat, n < 256 → form.toNat = n → form = BitVec.ofNat 8 n := fun n small is =>
    BitVec.eq_of_toNat_eq (by rw [is, BitVec.toNat_ofNat, Nat.mod_eq_of_lt small])
  unfold cancelOf at h
  split at h
  · next is =>
    obtain ⟨-, e⟩ := Option.ite_none_right_eq_some.mp h
    exact .inl ⟨byte 0 (by decide) is, (Option.some.inj e).symm⟩
  · next is =>
    obtain ⟨-, e⟩ := Option.ite_none_right_eq_some.mp h
    obtain ⟨c, named, rfl⟩ := Option.map_eq_some_iff.mp e
    refine .inr (.inl ⟨byte 1 (by decide) is, c, ?_, rfl⟩)
    unfold chanOfByte at named
    split at named
    · rw [← Option.some.inj named]
    · cases named
  · next is =>
    obtain ⟨-, e⟩ := Option.ite_none_right_eq_some.mp h
    exact .inr (.inr ⟨byte 2 (by decide) is, (Option.some.inj e).symm⟩)
  · cases h

theorem cancelNotFound_iff {p : Port} {f : CancelForm} {d : Schedule} :
    cancelNotFound p f d = true ↔ countEntries (cancelled p f) d = 0 ∧ ∃ tag, f = .tag tag := by
  unfold cancelNotFound
  cases f with
  | tag x => simp [countEntries, List.countP_eq_zero]
  | channel c => simp
  | all => simp

theorem cancelEntries_state (p : Port) (f : CancelForm) (s : State) :
    (cancelEntries p f s).state = work ((s.inFreeOrder (drainedBy p f s)).1.map Task.drain)
      ((s.inFreeOrder (drainedBy p f s)).2.removeWhere (cancelled p f)) := rfl

/-- R59, R60: an accepted CANCEL removes the entries that it names, and the drain tests behind it remove none. -/
theorem cancelEntries_sched (p : Port) (f : CancelForm) (s : State) :
    (cancelEntries p f s).state.sched = removeEntries (cancelled p f) s.sched := by
  obtain ⟨k, shuffled⟩ := State.inFreeOrder_state (drainedBy p f s) s
  have drains : ∀ t ∈ (s.inFreeOrder (drainedBy p f s)).1.map Task.drain,
      DrainsOnly ((s.inFreeOrder (drainedBy p f s)).2.removeWhere (cancelled p f)) t := fun t mem => by
    obtain ⟨c, drained, rfl⟩ := List.mem_map.mp mem
    have last := (List.mem_filter.mp ((State.inFreeOrder_perm _ s).mem_iff.mp drained)).2
    have unnamed := (Bool.and_eq_true_iff.mp last).2
    rw [Bool.not_eq_true', namesChannel_eq, decide_eq_false_iff_not, not_not] at unnamed
    exact ⟨c, by rw [shuffled]; exact unnamed, .inl rfl⟩
  rw [cancelEntries_state, (work_stays drains).sched, shuffled]
  rfl

theorem cancelEntries_frame (p : Port) (f : CancelForm) (s : State) :
    let v := (cancelEntries p f s).state
    v = { s with chans := v.chans, groups := v.groups, sessions := v.sessions, sched := v.sched, draws := v.draws } := by
  obtain ⟨k, shuffled⟩ := State.inFreeOrder_state (drainedBy p f s) s
  have frame := (work_keeps ((s.inFreeOrder (drainedBy p f s)).1.map Task.drain)
    ((s.inFreeOrder (drainedBy p f s)).2.removeWhere (cancelled p f))).frame
  rw [shuffled] at frame
  intro v
  have is : v = work ((s.inFreeOrder (drainedBy p f s)).1.map Task.drain)
      (({ s with draws := k } : State).removeWhere (cancelled p f)) := by
    rw [← shuffled]
    exact cancelEntries_state p f s
  rw [← is] at frame
  generalize v = w at *
  rw [frame]
  rfl

/-- Settles O33: the reply is the refusal of a tag not found, or the removal with its count; without a RELEASING channel of the
port there is no drain test behind it. -/
theorem cancelRemoves : Obligations.CancelRemoves := by
  unfold Obligations.CancelRemoves
  intro p seq form tag channel f s can ok is
  refine ⟨cancelOf_some is, ?_⟩
  have told := restartKeepalive_only p s
  have frame := restartKeepalive_frame p s
  have served : act p (.cancel form tag channel) (restartKeepalive p s) =
      if cancelNotFound p f (restartKeepalive p s).sched then refuse .notFound (restartKeepalive p s)
      else cancelEntries p f (restartKeepalive p s) := by
    show serveCancel p form tag channel _ = _
    unfold serveCancel
    rw [is]
  have sched : (restartKeepalive p s).sched = s.sched := by rw [frame]
  have drained : (∀ c, (s.chan c).claim ≠ .releasing p) → drainedBy p f (restartKeepalive p s) = [] := fun none => by
    rw [frame]
    exact drainedBy_nil (s := s) ok none
  have gives := @request_gives p seq (.cancel form tag channel) s
  generalize restartKeepalive p s = u at *
  generalize isOutcome : Machine.exec (.cancel p seq form tag channel) s = outcome
  have isOutcome : outcome = .next (sendRequest p seq (.cancel form tag channel) s) := isOutcome.symm
  have form0 : form = 0 ↔ ∃ tag, f = .tag tag := by
    rcases cancelOf_some is with ⟨rfl, rfl⟩ | ⟨rfl, c, -, rfl⟩ | ⟨rfl, rfl⟩ <;> simp
  have notFound : cancelNotFound p f u.sched = true ↔ countEntries (cancelled p f) s.sched = 0 ∧ form = 0 := by
    rw [sched, cancelNotFound_iff, form0]
  by_cases missing : countEntries (cancelled p f) s.sched = 0 ∧ form = 0
  · rw [if_pos (notFound.mpr missing)] at served
    obtain ⟨F, sent, answered⟩ := gives can served (by rw [frame]) (by rw [frame])
    refine ⟨_, by rw [isOutcome, sent], ?_⟩
    beta_reduce
    intro named found second
    have same : named = cancelled p f := by funext e; cases f <;> rfl
    clear_value named
    subst same
    rw [if_pos (show found = 0 ∧ form = 0 from missing)]
    exact ⟨congrArg (fun u : State => { u with fronts := F }) frame, told, answered⟩
  · rw [if_neg (mt notFound.mp missing)] at served
    have stored := cancelEntries_sched p f u
    have framed := cancelEntries_frame p f u
    have drainsNone : (∀ c, (s.chan c).claim ≠ .releasing p) → (cancelEntries p f u).state = u.removeWhere (cancelled p f) :=
      fun none => by
        rw [cancelEntries_state, drained none, inFreeOrder_nil]
        rfl
    have served : act p (.cancel form tag channel) u = accept
        [byteOf (countEntries (cancelled p f) s.sched), flagByte (leftClosed p f s.sched)] (cancelEntries p f u).state := by
      rw [served, ← sched]
      rfl
    generalize (cancelEntries p f u).state = v at *
    obtain ⟨F, sent, answered⟩ := gives can served (by rw [framed, frame]) (by rw [framed, frame])
    refine ⟨_, by rw [isOutcome, sent], ?_⟩
    beta_reduce
    intro named found second
    have same : named = cancelled p f := by funext e; cases f <;> rfl
    clear_value named
    subst same
    rw [if_neg (show ¬ (found = 0 ∧ form = 0) from missing)]
    rw [sched] at stored
    refine ⟨?_, congrArg Schedule.pending stored, congrArg Schedule.waiting stored, congrArg Schedule.deferred stored, answered,
      fun none => ?_⟩
    · refine (congrArg (fun v : State => { v with fronts := F }) framed).trans ?_
      rw [frame]
    · rw [drainsNone none]
      refine ⟨?_, told⟩
      rw [frame]
      rfl

end Sys2Proof.Machine
end

section
/-! SCHEDULE (R37 to R45): the parameter check on the payload's bytes, the order of the checks, the admission. -/

namespace Sys2Proof.Machine

/-! ## The parameter check, field by field -/

theorem chanOfByte_some {b : Byte} (low : b.toNat < 12) : chanOfByte b = some ⟨b.toNat, low⟩ := by
  rw [chanOfByte, dif_pos low]

theorem chanOfByte_none {b : Byte} (high : ¬ b.toNat < 12) : chanOfByte b = none := by
  rw [chanOfByte, dif_neg high]

theorem chanOfByte_val {b : Byte} {c : Chan} (h : chanOfByte b = some c) : c.val = b.toNat := by
  unfold chanOfByte at h
  split at h
  · rw [← Option.some.inj h]
  · cases h

/-- R42: kind, channel and width fail the parameter check. -/
def badAction (s : State) (a : ScheduleArgs) : Bool :=
  match a.kind.toNat with
  | 0 => decide (12 ≤ a.channel.toNat ∨ a.width ≠ 0)
  | 1 => decide (12 ≤ a.channel.toNat ∨ a.width ≠ 0)
  | 2 =>
    decide (12 ≤ a.channel.toNat ∨ a.width = 0 ∨ 4096 ≤ a.width.toNat)
      || allChans.any fun c => decide (c.val = a.channel.toNat ∧ a.width.toNat < (s.chan c).cfg.onDwell.toNat)
  | 3 => decide (a.channel ≠ 0xFF ∨ a.width ≠ 0)
  | _ => true

/-- R42, R156: the timing form with its fields fails the parameter check. -/
def badTiming (a : ScheduleArgs) : Bool :=
  let trigger := decide (a.input ≠ 0 ∨ a.edge ≠ 0 ∨ a.delay ≠ 0)
  match a.form.toNat with
  | 0 => trigger || decide (1024 ≤ a.dueStep.toNat)
  | 1 => trigger || decide (1024 ≤ a.dueStep.toNat ∨ 65536 ≤ a.dueCycle.toNat)
  | 2 =>
    decide (a.dueCycle ≠ 0 ∨ a.dueStep ≠ 0 ∨ 4 ≤ a.input.toNat ∨ a.edge = 0 ∨ 4 ≤ a.edge.toNat ∨ a.delay.toNat < 4)
  | _ => true

/-- R42: the repeat fails the parameter check. -/
def badRepeat (a : ScheduleArgs) : Bool :=
  match a.repeatFlag.toNat with
  | 0 => decide (a.interval ≠ 0 ∨ a.count ≠ 0)
  | 1 => decide (a.interval = 0)
  | _ => true

theorem badSchedule_eq (s : State) (a : ScheduleArgs) :
    badSchedule s a = (badAction s a || decide (3 ≤ a.tolerance.toNat) || badTiming a || badRepeat a) := rfl

theorem any_chan_val {n : Nat} (low : n < 12) (f : Chan → Prop) [DecidablePred f] :
    (allChans.any fun c => decide (c.val = n ∧ f c)) = decide (f ⟨n, low⟩) := by
  rw [Bool.eq_iff_iff, List.any_eq_true, decide_eq_true_iff]
  refine ⟨fun ⟨c, _, h⟩ => ?_, fun h => ⟨⟨n, low⟩, mem_allChans _, decide_eq_true ⟨rfl, h⟩⟩⟩
  obtain ⟨rfl, met⟩ := of_decide_eq_true h
  exact met

theorem actionOf_close {a : ScheduleArgs} (kind : a.kind.toNat = 0) :
    actionOf a = if a.width = 0 then (chanOfByte a.channel).map .close else none := by
  unfold actionOf kindOfByte
  rw [kind]
  cases chanOfByte a.channel <;> rfl

theorem actionOf_open {a : ScheduleArgs} (kind : a.kind.toNat = 1) :
    actionOf a = if a.width = 0 then (chanOfByte a.channel).map .openUp else none := by
  unfold actionOf kindOfByte
  rw [kind]
  cases chanOfByte a.channel <;> rfl

theorem actionOf_pulse {a : ScheduleArgs} (kind : a.kind.toNat = 2) :
    actionOf a = if 1 ≤ a.width.toNat ∧ a.width.toNat ≤ 4095 then
      (chanOfByte a.channel).map fun c => .pulse c a.width.toNat false
    else none := by
  unfold actionOf kindOfByte
  rw [kind]
  cases chanOfByte a.channel <;> rfl

theorem actionOf_mark {a : ScheduleArgs} (kind : a.kind.toNat = 3) :
    actionOf a = if a.width = 0 ∧ a.channel = 0xFF then some .mark else none := by
  unfold actionOf kindOfByte
  rw [kind]
  rfl

theorem actionOf_other {a : ScheduleArgs} (kind : 4 ≤ a.kind.toNat) : actionOf a = none := by
  unfold actionOf kindOfByte
  split
  · omega
  · omega
  · omega
  · omega
  · rfl

/-- R42: no action, or a PULSE shorter than its channel's minimum on dwell. -/
def noAction (s : State) (o : Option Action) : Bool := o.all fun x => !widthMeetsDwell s x

theorem noAction_map {s : State} {b : Byte} {f : Chan → Action} (met : ∀ c, widthMeetsDwell s (f c) = true) :
    noAction s ((chanOfByte b).map f) = decide (12 ≤ b.toNat) := by
  by_cases low : b.toNat < 12
  · rw [chanOfByte_some low, decide_eq_false (by omega)]
    simp [noAction, met]
  · rw [chanOfByte_none low, decide_eq_true (by omega)]
    rfl

theorem noAction_actionOf (s : State) (a : ScheduleArgs) : noAction s (actionOf a) = badAction s a := by
  have command : ∀ f : Chan → Action, (∀ c, widthMeetsDwell s (f c) = true) →
      noAction s (if a.width = 0 then (chanOfByte a.channel).map f else none) =
        decide (12 ≤ a.channel.toNat ∨ a.width ≠ 0) := fun f met => by
    by_cases zero : a.width = 0
    · rw [if_pos zero, noAction_map met]
      simp [zero]
    · rw [if_neg zero, decide_eq_true (.inr zero)]
      rfl
  unfold badAction
  split
  · next kind =>
    rw [actionOf_close kind]
    exact command _ fun _ => rfl
  · next kind =>
    rw [actionOf_open kind]
    exact command _ fun _ => rfl
  · next kind =>
    rw [actionOf_pulse kind]
    have zero : a.width = 0 ↔ a.width.toNat = 0 := ⟨fun e => by rw [e]; rfl, fun e => BitVec.eq_of_toNat_eq e⟩
    by_cases width : 1 ≤ a.width.toNat ∧ a.width.toNat ≤ 4095
    · rw [if_pos width]
      by_cases low : a.channel.toNat < 12
      · rw [chanOfByte_some low, any_chan_val low fun c => a.width.toNat < (s.chan c).cfg.onDwell.toNat,
          decide_eq_false (by rw [zero]; omega), Bool.false_or]
        simp only [noAction, Option.map_some, Option.all_some, widthMeetsDwell, ← decide_not, Nat.not_le]
      · rw [chanOfByte_none low, decide_eq_true (.inl (Nat.not_lt.mp low))]
        rfl
    · rw [if_neg width, decide_eq_true (by rw [zero]; omega)]
      rfl
  · next kind =>
    rw [actionOf_mark kind]
    by_cases fine : a.width = 0 ∧ a.channel = 0xFF
    · rw [if_pos fine, decide_eq_false (by rw [not_or, not_not, not_not]; exact fine.symm)]
      rfl
    · rw [if_neg fine, decide_eq_true (by rwa [or_comm, ← not_and_or])]
      rfl
  · next k0 k1 k2 k3 =>
    have above : 4 ≤ a.kind.toNat := by
      by_contra below
      interval_cases a.kind.toNat <;> simp_all
    rw [actionOf_other above]
    rfl

theorem toleranceOfByte_isNone (b : Byte) : (toleranceOfByte b).isNone = decide (3 ≤ b.toNat) := by
  unfold toleranceOfByte
  split
  · next is => rw [is]; rfl
  · next is => rw [is]; rfl
  · next is => rw [is]; rfl
  · next n0 n1 n2 =>
    have above : 3 ≤ b.toNat := by
      by_contra below
      interval_cases b.toNat <;> simp_all
    rw [decide_eq_true above]
    rfl

theorem stepOf16_isNone (x : BitVec 16) : (stepOf16 x).isNone = decide (1024 ≤ x.toNat) := by
  unfold stepOf16
  split
  · next low => rw [decide_eq_false (Nat.not_le.mpr low)]; rfl
  · next high => rw [decide_eq_true (Nat.not_lt.mp high)]; rfl

theorem isNone_ite {α : Type} (c : Prop) [Decidable c] (o : Option α) :
    (if c then o else none).isNone = (decide (¬ c) || o.isNone) := by
  by_cases met : c
  · rw [if_pos met, decide_eq_false (not_not.mpr met), Bool.false_or]
  · rw [if_neg met, decide_eq_true met]
    rfl

theorem inputOfByte_isNone (b : Byte) : (inputOfByte b).isNone = decide (4 ≤ b.toNat) := by
  unfold inputOfByte
  split
  · next low => rw [decide_eq_false (Nat.not_le.mpr low)]; rfl
  · next high => rw [decide_eq_true (Nat.not_lt.mp high)]; rfl

theorem edgeSelOfByte_isNone (b : Byte) : (edgeSelOfByte b).isNone = decide (b = 0 ∨ 4 ≤ b.toNat) := by
  have zero : b = 0 ↔ b.toNat = 0 := ⟨fun e => by rw [e]; rfl, fun e => BitVec.eq_of_toNat_eq e⟩
  rw [decide_eq_decide.mpr (or_congr_left zero)]
  unfold edgeSelOfByte
  split
  · next is => rw [decide_eq_false (by omega)]; rfl
  · next is => rw [decide_eq_false (by omega)]; rfl
  · next is => rw [decide_eq_false (by omega)]; rfl
  · next n1 n2 n3 =>
    have outside : b.toNat = 0 ∨ 4 ≤ b.toNat := by
      by_contra inside
      rw [not_or] at inside
      obtain ⟨nonzero, below⟩ := inside
      interval_cases b.toNat <;> simp_all
    rw [decide_eq_true outside]
    rfl

theorem triggerOf_isNone (a : ScheduleArgs) :
    (triggerOf a).isNone =
      ((inputOfByte a.input).isNone || (edgeSelOfByte a.edge).isNone || decide (a.delay.toNat < 4)) := by
  unfold triggerOf
  cases inputOfByte a.input with
  | none => rfl
  | some input =>
    cases edgeSelOfByte a.edge with
    | none => rfl
    | some edge =>
      show (if 4 ≤ a.delay.toNat then some (Trigger.mk input edge a.delay.toNat) else none).isNone = _
      rw [isNone_ite, decide_eq_decide.mpr Nat.not_le]
      exact Bool.or_comm _ _

theorem timingOf_absolute {a : ScheduleArgs} (form : a.form.toNat = 0) :
    timingOf a = if a.input = 0 ∧ a.edge = 0 ∧ a.delay = 0 then
      (stepOf16 a.dueStep).map fun x => .absolute (posOf a.dueCycle x)
    else none := by
  simp only [timingOf, form]

theorem timingOf_relative {a : ScheduleArgs} (form : a.form.toNat = 1) :
    timingOf a = if a.input = 0 ∧ a.edge = 0 ∧ a.delay = 0 ∧ a.dueCycle.toNat ≤ 65535 then
      (stepOf16 a.dueStep).map fun x => .relative (a.dueCycle.setWidth 16) x
    else none := by
  simp only [timingOf, form]

theorem timingOf_triggered {a : ScheduleArgs} (form : a.form.toNat = 2) :
    timingOf a = if a.dueCycle = 0 ∧ a.dueStep = 0 then (triggerOf a).map .triggered else none := by
  simp only [timingOf, form]

theorem timingOf_other {a : ScheduleArgs} (form : 3 ≤ a.form.toNat) : timingOf a = none := by
  unfold timingOf
  split
  · omega
  · omega
  · omega
  · rfl

theorem timingOf_isNone (a : ScheduleArgs) : (timingOf a).isNone = badTiming a := by
  unfold badTiming
  dsimp only
  split
  · next form =>
    rw [timingOf_absolute form, isNone_ite, Option.isNone_map, stepOf16_isNone]
    simp only [not_and_or, ne_eq]
  · next form =>
    rw [timingOf_relative form, isNone_ite, Option.isNone_map, stepOf16_isNone, ← Bool.decide_or, ← Bool.decide_or]
    have far : 65536 ≤ a.dueCycle.toNat ↔ ¬ a.dueCycle.toNat ≤ 65535 := by omega
    rw [decide_eq_decide, far]
    tauto
  · next form =>
    rw [timingOf_triggered form, isNone_ite, Option.isNone_map, triggerOf_isNone, inputOfByte_isNone, edgeSelOfByte_isNone]
    simp only [← Bool.decide_or]
    refine decide_eq_decide.mpr ?_
    simp only [not_and_or, ne_eq, or_assoc]
  · next n0 n1 n2 =>
    have above : 3 ≤ a.form.toNat := by
      by_contra below
      interval_cases a.form.toNat <;> simp_all
    rw [timingOf_other above]
    rfl

theorem repeatOf_once {a : ScheduleArgs} (flag : a.repeatFlag.toNat = 0) :
    repeatOf a = if a.interval = 0 ∧ a.count = 0 then some none else none := by
  unfold repeatOf flagOfByte
  rw [flag]
  rfl

theorem repeatOf_again {a : ScheduleArgs} (flag : a.repeatFlag.toNat = 1) :
    repeatOf a = if a.interval = 0 then none
      else some (some { interval := a.interval.toNat, count := a.count.toNat, remaining := a.count.toNat }) := by
  unfold repeatOf flagOfByte nonzeroByte
  rw [flag]
  by_cases zero : a.interval = 0
  · rw [if_pos zero, if_pos zero]
    rfl
  · rw [if_neg zero, if_neg zero]
    rfl

theorem repeatOf_other {a : ScheduleArgs} (flag : 2 ≤ a.repeatFlag.toNat) : repeatOf a = none := by
  unfold repeatOf flagOfByte
  split
  · omega
  · omega
  · rfl

theorem repeatOf_isNone (a : ScheduleArgs) : (repeatOf a).isNone = badRepeat a := by
  unfold badRepeat
  split
  · next flag =>
    rw [repeatOf_once flag, isNone_ite, Option.isNone_some, Bool.or_false]
    simp only [not_and_or, ne_eq]
  · next flag =>
    rw [repeatOf_again flag]
    by_cases zero : a.interval = 0
    · rw [if_pos zero, decide_eq_true zero]; rfl
    · rw [if_neg zero, decide_eq_false zero]; rfl
  · next n0 n1 =>
    have above : 2 ≤ a.repeatFlag.toNat := by
      by_contra below
      interval_cases a.repeatFlag.toNat <;> simp_all
    rw [repeatOf_other above]
    rfl

theorem scheduleParams_isNone (s : State) (a : ScheduleArgs) :
    (scheduleParams s a).isNone =
      (noAction s (actionOf a) || (toleranceOfByte a.tolerance).isNone || (timingOf a).isNone || (repeatOf a).isNone) := by
  unfold scheduleParams
  cases actionOf a with
  | none => rfl
  | some x =>
    cases toleranceOfByte a.tolerance with
    | none => simp
    | some tol =>
      cases timingOf a with
      | none => simp
      | some timing =>
        cases repeatOf a with
        | none => simp
        | some rep =>
          cases met : widthMeetsDwell s x <;> simp [noAction, met]

/-- R42: the parameter check of SCHEDULE is the tests on the payload's bytes. -/
theorem scheduleParams_none (s : State) (a : ScheduleArgs) : scheduleParams s a = none ↔ badSchedule s a = true := by
  rw [← Option.isNone_iff_eq_none, scheduleParams_isNone, badSchedule_eq, noAction_actionOf, toleranceOfByte_isNone,
    timingOf_isNone, repeatOf_isNone]

/-! ## The checks of R44 in their order -/

theorem isReleasing_owned {claim : Claim} {p : Port} (own : ownerOf claim = some p) :
    isReleasing claim = decide (claim = .releasing p) := by
  cases claim <;> simp_all [ownerOf, isReleasing]

/-- R44: the tests on the channel. -/
theorem channelRefusal_eq (p : Port) (a : Action) (s : State) :
    channelRefusal p a s =
      if ((chanOf a).any fun c => decide (ownerOf (s.chan c).claim ≠ some p)) = true then some .notOwner
      else if ((chanOf a).any fun c => decide ((s.chan c).claim = .releasing p)) = true then some .releasing
      else none := by
  unfold channelRefusal
  cases chanOf a with
  | none => rfl
  | some c =>
    simp only [Option.any_some, State.holds, ← decide_not]
    split
    · rfl
    · next own =>
      rw [decide_eq_true_iff, not_not] at own
      rw [isReleasing_owned own]

/-- R44: the tests on the timing. -/
theorem timingRefusal_eq (q : ScheduleParams) (s : State) :
    timingRefusal q s =
      if (((dueOf q.timing s.ltb.pos).any fun d => decide (signedDistance (fireOf s q.action d) s.ltb.pos < 4))
          || (timingTrigger q.timing).any fun x => decide (x.delay < (leadOf s q.action).toNat + 4)) = true then some .tooSoon
      else if ((dueOf q.timing s.ltb.pos).any fun d => decide (67107840 < signedDistance d s.ltb.pos)) = true then some .tooFar
      else if phasesInOrder q.action s = false then some .badParameter
      else none := by
  unfold timingRefusal
  cases q.timing <;> simp [dueOf, timingTrigger]

theorem placeAvailable_false {d : Schedule} {p : Port} : placeAvailable d p = false ↔ 8 ≤ ownCount d p ∧ 24 ≤ sharedUsed d := by
  rw [placeAvailable, decide_eq_false_iff_not, not_or, Nat.not_lt, Nat.not_lt]

theorem restarted_attached (now : Nat) (r : Session) : (restarted now r).attached = r.attached := by
  unfold restarted
  split <;> rfl

/-- R155, R44: the status and the state of the reply to a SCHEDULE. -/
theorem replyTo_schedule (p : Port) (a : ScheduleArgs) (s : State) :
    replyTo p (.good (.schedule a)) s =
      if (s.session p).attached = true then serveSchedule p a (restartKeepalive p s)
      else refuse .notAttached (restartKeepalive p s) := by
  have attached : ((restartKeepalive p s).session p).attached = (s.session p).attached := by
    rw [restartKeepalive_session, if_pos rfl, restarted_attached]
  have detached : allowedDetached (.schedule a) = false := rfl
  have owning : act p (.schedule a) (restartKeepalive p s) = serveSchedule p a (restartKeepalive p s) := rfl
  rw [replyTo, serve, attached, detached, owning, Bool.or_false]

theorem serveSchedule_status (p : Port) (a : ScheduleArgs) (s : State) :
    (serveSchedule p a s).status =
      (scheduleParams s a).elim .badParameter fun q => (scheduleRefusal p q s).getD .ok := by
  unfold serveSchedule
  cases scheduleParams s a with
  | none => rfl
  | some q =>
    dsimp only [Option.elim_some]
    cases scheduleRefusal p q s with
    | some status => rfl
    | none =>
      show (admitEntry p q s).status = .ok
      unfold admitEntry
      dsimp only
      split <;> rfl

theorem serveSchedule_refused {p : Port} {a : ScheduleArgs} {s : State} (refused : (serveSchedule p a s).status ≠ .ok) :
    (serveSchedule p a s).state = s := by
  rw [serveSchedule_status] at refused
  unfold serveSchedule
  cases params : scheduleParams s a with
  | none => rfl
  | some q =>
    rw [params] at refused
    cases refusal : scheduleRefusal p q s with
    | some status => simp only [refusal]; rfl
    | none => simp [refusal] at refused

/-- R44: the first check that fails gives the status. -/
theorem scheduleRefusal_status {p : Port} {q : ScheduleParams} {s : State}
    {notOwner releasing soon far outOfOrder overlapping : Bool}
    (channel : channelRefusal p q.action s =
      if notOwner = true then some .notOwner else if releasing = true then some .releasing else none)
    (timing : timingRefusal q s =
      if soon = true then some .tooSoon
      else if far = true then some .tooFar
      else if outOfOrder = true then some .badParameter
      else none)
    (fits : repeatFits q = !overlapping) :
    (scheduleRefusal p q s).getD .ok =
      if notOwner = true then .notOwner
      else if releasing = true then .releasing
      else if s.ltb.started = false then .notStarted
      else if soon = true then .tooSoon
      else if far = true then .tooFar
      else if (outOfOrder || overlapping) = true then .badParameter
      else if 8 ≤ ownCount s.sched p ∧ 24 ≤ sharedUsed s.sched then .scheduleFull
      else .ok := by
  unfold scheduleRefusal
  rw [channel, timing, fits]
  simp only [Bool.not_eq_true', placeAvailable_false, Bool.not_not]
  cases notOwner
  · cases releasing
    · cases s.ltb.started
      · rfl
      · cases soon
        · cases far
          · cases outOfOrder
            · cases overlapping
              · simp only [Bool.false_eq_true, if_false, Bool.or_false, reduceCtorEq]
                split <;> rfl
              · rfl
            · rfl
          · rfl
        · rfl
    · rfl
  · rfl

/-- Settles O31: the two parts of the parameter check agree field by field, and the model tests in the order of R44. -/
theorem scheduleCheckOrder : Obligations.ScheduleCheckOrder := by
  unfold Obligations.ScheduleCheckOrder
  intro p a s
  rw [replyTo_schedule]
  have sameParams : scheduleParams (restartKeepalive p s) a = scheduleParams s a := by rw [restartKeepalive_frame]; rfl
  have sameRefusal : ∀ q, scheduleRefusal p q (restartKeepalive p s) = scheduleRefusal p q s := fun q => by
    rw [restartKeepalive_frame]; rfl
  refine ⟨fun refused => ?_, scheduleParams_none s a, ?_⟩
  · split at refused
    · next attached => rw [if_pos attached]; exact serveSchedule_refused refused
    · next detached => rw [if_neg detached]; rfl
  · by_cases attached : (s.session p).attached = true
    · rw [if_pos attached, serveSchedule_status, sameParams, if_neg (by rw [attached]; nofun)]
      cases scheduleParams s a with
      | none => rfl
      | some q =>
        rw [Option.elim_some, sameRefusal]
        refine scheduleRefusal_status (channelRefusal_eq p q.action s) ?_ ?_
        · rw [timingRefusal_eq]
          cases q.timing <;> cases q.action <;> simp [dueOf, timingTrigger, phasesInOrder]
        · unfold repeatFits
          cases q.action with
          | pulse c w second =>
            cases q.rep with
            | none => rfl
            | some r => simp only [← decide_not, Nat.not_le]
          | close c => rfl
          | openUp c => rfl
          | mark => rfl
    · rw [if_neg attached, if_pos (Bool.eq_false_iff.mpr attached)]
      rfl

end Sys2Proof.Machine
end

section
/-! SCHEDULE admits one entry (R45): the fields that the payload's bytes give, the tag, the place in the store. -/

namespace Sys2Proof.Machine

/-! ## The fields of an admitted entry -/

theorem scheduleParams_some {s : State} {a : ScheduleArgs} {q : ScheduleParams} (h : scheduleParams s a = some q) :
    actionOf a = some q.action ∧ toleranceOfByte a.tolerance = some q.tol ∧ timingOf a = some q.timing
      ∧ repeatOf a = some q.rep ∧ q.label = a.label := by
  unfold scheduleParams at h
  simp only [Option.bind_eq_bind, Option.bind_eq_some_iff] at h
  obtain ⟨action, isAction, tol, isTol, timing, isTiming, rep, isRep, built⟩ := h
  split at built
  · obtain rfl := Option.some.inj built
    exact ⟨isAction, isTol, isTiming, isRep, rfl⟩
  · cases built

/-- R42: an action has the kind, the channel and the width of the payload, in phase FIRST. -/
theorem actionOf_fields {a : ScheduleArgs} {x : Action} (h : actionOf a = some x) :
    (kindCode (kindOf x)).toNat = a.kind.toNat ∧ isSecond x = false ∧ widthOf x = a.width.toNat
      ∧ ∀ c, chanOf x = some c → c.val = a.channel.toNat := by
  have channel : ∀ {f : Chan → Action} {x}, (chanOfByte a.channel).map f = some x →
      ∃ c, x = f c ∧ c.val = a.channel.toNat := fun found => by
    obtain ⟨c, named, rfl⟩ := Option.map_eq_some_iff.mp found
    exact ⟨c, rfl, chanOfByte_val named⟩
  have zero : a.width = 0 → a.width.toNat = 0 := fun e => by rw [e]; rfl
  have kinds : a.kind.toNat = 0 ∨ a.kind.toNat = 1 ∨ a.kind.toNat = 2 ∨ a.kind.toNat = 3 ∨ 4 ≤ a.kind.toNat := by omega
  rcases kinds with kind | kind | kind | kind | kind
  · rw [actionOf_close kind] at h
    obtain ⟨width, found⟩ := Option.ite_none_right_eq_some.mp h
    obtain ⟨c, rfl, val⟩ := channel found
    exact ⟨kind.symm, rfl, (zero width).symm, fun d e => by rw [← Option.some.inj e]; exact val⟩
  · rw [actionOf_open kind] at h
    obtain ⟨width, found⟩ := Option.ite_none_right_eq_some.mp h
    obtain ⟨c, rfl, val⟩ := channel found
    exact ⟨kind.symm, rfl, (zero width).symm, fun d e => by rw [← Option.some.inj e]; exact val⟩
  · rw [actionOf_pulse kind] at h
    obtain ⟨-, found⟩ := Option.ite_none_right_eq_some.mp h
    obtain ⟨c, rfl, val⟩ := channel found
    exact ⟨kind.symm, rfl, rfl, fun d e => by rw [← Option.some.inj e]; exact val⟩
  · rw [actionOf_mark kind] at h
    obtain ⟨⟨width, -⟩, found⟩ := Option.ite_none_right_eq_some.mp h
    obtain rfl := Option.some.inj found
    exact ⟨kind.symm, rfl, (zero width).symm, nofun⟩
  · rw [actionOf_other kind] at h
    cases h

theorem toleranceOfByte_code {b : Byte} {x : Tolerance} (h : toleranceOfByte b = some x) : (toleranceCode x).toNat = b.toNat := by
  unfold toleranceOfByte at h
  split at h
  · next is => rw [← Option.some.inj h, is]; rfl
  · next is => rw [← Option.some.inj h, is]; rfl
  · next is => rw [← Option.some.inj h, is]; rfl
  · cases h

theorem edgeSelOfByte_code {b : Byte} {x : EdgeSel} (h : edgeSelOfByte b = some x) : (edgeSelCode x).toNat = b.toNat := by
  unfold edgeSelOfByte at h
  split at h
  · next is => rw [← Option.some.inj h, is]; rfl
  · next is => rw [← Option.some.inj h, is]; rfl
  · next is => rw [← Option.some.inj h, is]; rfl
  · cases h

theorem stepOf16_some {x : BitVec 16} {y : LineStep} (h : stepOf16 x = some y) : y = x.setWidth 10 := by
  unfold stepOf16 at h
  exact (Option.some.inj (Option.ite_none_right_eq_some.mp h).2).symm

theorem triggerOf_fields {a : ScheduleArgs} {x : Trigger} (h : triggerOf a = some x) :
    x.input.val = a.input.toNat ∧ (edgeSelCode x.edge).toNat = a.edge.toNat ∧ x.delay = a.delay.toNat := by
  unfold triggerOf at h
  simp only [Option.bind_eq_bind, Option.bind_eq_some_iff] at h
  obtain ⟨input, isInput, edge, isEdge, built⟩ := h
  obtain ⟨-, e⟩ := Option.ite_none_right_eq_some.mp built
  obtain rfl := Option.some.inj e
  refine ⟨?_, edgeSelOfByte_code isEdge, rfl⟩
  unfold inputOfByte at isInput
  split at isInput
  · rw [← Option.some.inj isInput]
  · cases isInput

/-- R43: the due position that the payload's form gives, or the trigger. -/
theorem timingOf_fields {a : ScheduleArgs} {x : Timing} (pos : Pos) (h : timingOf a = some x) :
    (dueOf x pos = match a.form.toNat with
      | 0 => some (posOf a.dueCycle (a.dueStep.setWidth 10))
      | 1 => some (posOf (cycleOf pos + a.dueCycle) (a.dueStep.setWidth 10))
      | _ => none)
    ∧ (a.form.toNat = 2 ↔ (timingTrigger x).isSome = true)
    ∧ ∀ y ∈ timingTrigger x,
        y.input.val = a.input.toNat ∧ (edgeSelCode y.edge).toNat = a.edge.toNat ∧ y.delay = a.delay.toNat := by
  have forms : a.form.toNat = 0 ∨ a.form.toNat = 1 ∨ a.form.toNat = 2 ∨ 3 ≤ a.form.toNat := by omega
  rcases forms with form | form | form | form
  · rw [timingOf_absolute form] at h
    obtain ⟨-, found⟩ := Option.ite_none_right_eq_some.mp h
    obtain ⟨step, isStep, rfl⟩ := Option.map_eq_some_iff.mp found
    rw [form, stepOf16_some isStep]
    exact ⟨rfl, by simp [timingTrigger], nofun⟩
  · rw [timingOf_relative form] at h
    obtain ⟨⟨-, -, -, near⟩, found⟩ := Option.ite_none_right_eq_some.mp h
    obtain ⟨step, isStep, rfl⟩ := Option.map_eq_some_iff.mp found
    have cycles : (a.dueCycle.setWidth 16).setWidth 32 = a.dueCycle := by
      apply BitVec.eq_of_toNat_eq
      simp only [BitVec.toNat_setWidth]
      omega
    rw [form, stepOf16_some isStep]
    refine ⟨?_, by simp [timingTrigger], nofun⟩
    show some (posOf (cycleOf pos + (a.dueCycle.setWidth 16).setWidth 32) _) = some (posOf (cycleOf pos + a.dueCycle) _)
    rw [cycles]
  · rw [timingOf_triggered form] at h
    obtain ⟨-, found⟩ := Option.ite_none_right_eq_some.mp h
    obtain ⟨y, isTrigger, rfl⟩ := Option.map_eq_some_iff.mp found
    rw [form]
    refine ⟨rfl, by simp [timingTrigger], fun z mem => ?_⟩
    obtain rfl := Option.some.inj mem
    exact triggerOf_fields isTrigger
  · rw [timingOf_other form] at h
    cases h

/-- R42: the repeat of the payload. -/
theorem repeatOf_fields {a : ScheduleArgs} {x : Option Repeat} (h : repeatOf a = some x) :
    x = if a.repeatFlag = 1 then
      some { interval := a.interval.toNat, count := a.count.toNat, remaining := a.count.toNat }
    else none := by
  have one : a.repeatFlag = 1 ↔ a.repeatFlag.toNat = 1 :=
    ⟨fun e => by rw [e]; rfl, fun e => BitVec.eq_of_toNat_eq e⟩
  have flags : a.repeatFlag.toNat = 0 ∨ a.repeatFlag.toNat = 1 ∨ 2 ≤ a.repeatFlag.toNat := by omega
  rcases flags with flag | flag | flag
  · rw [repeatOf_once flag] at h
    rw [if_neg (by rw [one, flag]; decide)]
    exact (Option.some.inj (Option.ite_none_right_eq_some.mp h).2).symm
  · rw [repeatOf_again flag] at h
    rw [if_pos (one.mpr flag)]
    exact (Option.some.inj (Option.ite_none_left_eq_some.mp h).2).symm
  · rw [repeatOf_other flag] at h
    cases h

/-! ## The place in the pending list -/

/-- R39: behind every entry whose fire position is not later, and before the first that is. -/
theorem insertByFire_place (q : Pos) (x : PendingEntry) (l : List PendingEntry) :
    ∃ n ∈ List.range (l.length + 1),
      insertByFire q x l = l.take n ++ x :: l.drop n
        ∧ (∀ y ∈ l.take n, signedDistance y.fire q ≤ signedDistance x.fire q)
        ∧ ∀ y ∈ (l.drop n).take 1, signedDistance x.fire q < signedDistance y.fire q := by
  induction l with
  | nil => exact ⟨0, by simp, rfl, by simp, by simp⟩
  | cons y l ih =>
    unfold insertByFire
    split
    · next early =>
      obtain ⟨n, low, placed, before, behind⟩ := ih
      refine ⟨n + 1, ?_, by rw [placed]; rfl, ?_, behind⟩
      · rw [List.mem_range] at low ⊢
        exact Nat.succ_lt_succ low
      · exact List.forall_mem_cons.mpr ⟨early, before⟩
    · next late =>
      refine ⟨0, by simp, rfl, by simp, fun z mem => ?_⟩
      rw [List.mem_singleton.mp mem]
      omega

/-! ## The admission -/

theorem admitEntry_due {p : Port} {q : ScheduleParams} {s : State} {due : Pos} (timed : dueOf q.timing s.ltb.pos = some due) :
    admitEntry p q s =
      accept (bytes16 (nextTag s) ++ posBytes due ++ posBytes (fireOf s q.action due))
        { s with
          sched :=
            { s.sched with
              tagCounter := nextTag s
              admCounter := s.sched.admCounter + 1
              pending :=
                insertByFire s.ltb.pos
                  { entry := { newEntry p (nextTag s) q with adm := s.sched.admCounter + 1 }
                    due := due, fire := fireOf s q.action due } s.sched.pending } } := by
  unfold admitEntry
  dsimp only
  rw [timed]
  rfl

theorem admitEntry_trigger {p : Port} {q : ScheduleParams} {s : State} (untimed : dueOf q.timing s.ltb.pos = none) :
    admitEntry p q s =
      accept (bytes16 (nextTag s) ++ List.replicate 12 0xFF)
        { s with
          sched :=
            { s.sched with
              tagCounter := nextTag s
              admCounter := s.sched.admCounter + 1
              waiting := s.sched.waiting ++ [{ newEntry p (nextTag s) q with adm := s.sched.admCounter + 1 }] } } := by
  unfold admitEntry
  dsimp only
  rw [untimed]
  rfl

/-- Settles O32: the fields are read form by form, the tag is the first unused one, and the place is that of R39. -/
theorem scheduleAdmits : Obligations.ScheduleAdmits := by
  unfold Obligations.ScheduleAdmits
  intro p seq a q s can store params passes
  obtain ⟨isAction, isTol, isTiming, isRep, label⟩ := scheduleParams_some params
  obtain ⟨kind, first, width, channel⟩ := actionOf_fields isAction
  obtain ⟨due, form, trigger⟩ := timingOf_fields s.ltb.pos isTiming
  have two : a.form = 2 ↔ a.form.toNat = 2 := ⟨fun e => by rw [e]; rfl, fun e => BitVec.eq_of_toNat_eq e⟩
  refine ⟨⟨kind, first, width, channel, label, toleranceOfByte_code isTol, due, two.trans form, trigger, repeatOf_fields isRep⟩, ?_⟩
  have frame := restartKeepalive_frame p s
  have told := restartKeepalive_only p s
  have served : act p (.schedule a) (restartKeepalive p s) = admitEntry p q (restartKeepalive p s) := by
    show serveSchedule p a _ = _
    have params : scheduleParams (restartKeepalive p s) a = some q := by rw [frame]; exact params
    have passes : scheduleRefusal p q (restartKeepalive p s) = none := by rw [frame]; exact passes
    unfold serveSchedule
    rw [params]
    dsimp only
    rw [passes]
  have gives := @request_gives p seq (.schedule a) s
  generalize isOutcome : Machine.exec (.schedule p seq a) s = outcome
  have isOutcome : outcome = .next (sendRequest p seq (.schedule a) s) := isOutcome.symm
  generalize restartKeepalive p s = u at *
  have sched : u.sched = s.sched := by rw [frame]
  have ltb : u.ltb = s.ltb := by rw [frame]
  have tag : nextTag u = nextTag s := by rw [frame]; rfl
  have fires : ∀ due, fireOf u q.action due = fireOf s q.action due := fun due => by rw [frame]; rfl
  have gives : ∀ {payload S}, act p (.schedule a) u = accept payload { u with sched := S } →
      ∃ F, outcome = .next { s with fronts := F, sessions := u.sessions, sched := S } ∧ Answered p seq .ok payload s F :=
    fun {payload S} served => by
      obtain ⟨F, sent, answered⟩ := gives can served (by rw [frame]) (by rw [frame])
      refine ⟨F, isOutcome.trans ?_, answered⟩
      rw [sent, frame]
  cases timed : dueOf q.timing s.ltb.pos with
  | some due =>
    rw [admitEntry_due (by rw [ltb]; exact timed), tag, fires, sched] at served
    obtain ⟨F, sent, answered⟩ := gives served
    rw [ltb] at sent
    refine ⟨_, sent, rfl, told, nextTag_ne_zero s, nextTag_fresh store, rfl, rfl, fun due' isDue => ?_,
      fun untimed => absurd untimed (Option.some_ne_none due)⟩
    obtain rfl := Option.some.inj isDue
    exact ⟨rfl, answered, insertByFire_place ..⟩
  | none =>
    rw [admitEntry_trigger (by rw [ltb]; exact timed), tag, sched] at served
    obtain ⟨F, sent, answered⟩ := gives served
    refine ⟨_, sent, rfl, told, nextTag_ne_zero s, nextTag_fresh store, rfl, rfl,
      fun due isDue => absurd isDue.symm (Option.some_ne_none due), fun _ => ⟨rfl, rfl, answered⟩⟩

end Sys2Proof.Machine
end

section
/-! A capture edge (R141): the count at which its level is qualified (log 4), the arm records of its input, the waiting
entries that it triggers. -/

namespace Sys2Proof.Machine

/-! ## The qualification of a capture level -/

theorem levelAfter_eq (d : EdgeDir) : levelAfter d = decide (d = .rising) := by cases d <;> rfl

theorem directionOf_rising (d : EdgeDir) : directionOf (decide (d = .rising)) = d := by cases d <;> rfl

theorem exec_captureEdge {i : CapInput} {d : EdgeDir} {after : Nat} {s : State} (running : s.power = .running) :
    exec (.captureEdge i d after) s =
      .next (levelAfterCounts 8 after (showCap i (decide (d = .rising))) (.capLevel i (decide (d = .rising))) s) := by
  show execCaptureEdge i d after s = _
  rw [execCaptureEdge, State.whileRunning_running running, levelAfter_eq]
  rfl

/-- R141: samples that the hold-off covers leave no full run. -/
theorem handleDue_showCap_covered {i : CapInput} {high : Bool} {last : Nat} {s : State}
    (holds : last ∈ (s.capFilter i).holdOff) (early : s.now < last + 8) :
    handleDue (showCap i high 8 s) (.capLevel i high) = showCap i high 8 s := by
  have clear : clearOfHoldOff edgeSamples s.now (s.capFilter i) < 8 := by
    simp only [clearOfHoldOff, Option.mem_def.mp holds]
    omega
  have short : ((showCap i high 8 s).capFilter i).run ≠ fullRun edgeSamples high := fun full => by
    rw [showCap, State.setCapFilter_capFilter_same] at full
    have count : min (clearOfHoldOff edgeSamples s.now (s.capFilter i)) _ = 8 := congrArg SampleRun.count full
    omega
  have idle : isDue (showCap i high 8 s) (.capLevel i high) = false := by
    simp [isDue, runFull, short]
  rw [handleDue, idle]
  rfl

/-- R141: a level without an advance at its count is handled at the part that the count leaves, a change as an edge. -/
theorem levelAfterCounts_capture {i : CapInput} {high : Bool} {after : Nat} {s : State}
    (comes : LevelComes 8 after (showCap i high) (.capLevel i high) s)
    (still : advanceWith 8 after (showCap i high) s = false)
    (change : ((levelCount 8 after (showCap i high) s).capFilter i).level = some (!high)) :
    levelAfterCounts 8 after (showCap i high) (.capLevel i high) s =
      capQualified i high (levelCount 8 after (showCap i high) s) := by
  obtain ⟨running, due, counted⟩ := comes
  by_cases now : after = 0
  · subst now
    exact (levelAfterCounts_zero _ _ _ running).trans (handleDue_due due)
  · obtain ⟨clocked, runningV, noReset, alone⟩ := counted now
    have count : levelCount 8 after (showCap i high) s = nextCount (beforeLevel 8 after (showCap i high) s) := if_neg now
    have edge : withoutEdge (levelCount 8 after (showCap i high) s) (.capLevel i high) = false := by
      simp [withoutEdge, change]
    have advancing : advances (beforeLevel 8 after (showCap i high) s).ltb = false := by
      simpa [advanceWith, now] using still
    rw [count] at noReset alone edge ⊢
    rw [levelAfterCounts_tick now (by decide) clocked, tick_running runningV, runningCount_step noReset advancing,
      handleAll_alone alone edge]
    rfl

/-- R141: the filter of an input behind an edge. -/
def edgeFilter (high : Bool) (u : State) : CapFilter :=
  { level := some high, run := { level := false, count := 0 }, holdOff := some (u.now + 80) }

/-- R141: a change of the level is an edge, which starts the hold-off. -/
theorem capQualified_edge {i : CapInput} {high : Bool} {u : State} (change : (u.capFilter i).level = some (!high)) :
    capQualified i high u =
      distributeEdge i (directionOf high) (u.setCapFilter i (edgeFilter high u)) := by
  have differs : (!high) ≠ high := by cases high <;> decide
  unfold capQualified
  rw [change]
  dsimp only
  rw [if_neg differs, startHoldOff, State.setCapFilter_capFilter_same]
  refine congrArg (distributeEdge i (directionOf high)) ?_
  simp [State.setCapFilter, edgeFilter, SampleRun.none, holdOffCounts]

/-! ## The arm records of an input -/

/-- R147: the arm record reports an edge of this direction. -/
def armMatches (d : EdgeDir) : Arm → Bool
  | .idle => false
  | .armed sel _ => selMatches sel d

/-- R148: the figure that the arm record's CAPTURE record gives. -/
def reportFigure : Arm → Nat
  | .idle => 0
  | .armed _ remaining => armFigure remaining

/-- R147: the arm record after an edge that it reports. -/
def armCounted : Arm → Arm
  | .idle => .idle
  | .armed sel remaining => armAfter sel remaining

/-- R142, R148: the body of the CAPTURE record. -/
def captureBody (i : CapInput) (d : EdgeDir) (l : Ltb) (a : Arm) : EventBody :=
  .capture i d (256 * l.acc / l.period) l.lock (reportFigure a)

theorem reportEdge_matches {i : CapInput} {d : EdgeDir} {s : State} {p : Port} (h : armMatches d (s.arm p i) = true) :
    reportEdge i d s p =
      (s.setSession p (received s.ltb.pos (captureBody i d s.ltb (s.arm p i)) (s.session p))).setArm p i
        (armCounted (s.arm p i)) := by
  unfold reportEdge
  cases arm : s.arm p i with
  | idle => rw [arm] at h; cases h
  | armed sel remaining =>
    rw [arm] at h
    dsimp only
    rw [if_pos (show selMatches sel d = true from h), handTo_eq]
    rfl

theorem reportEdge_differs {i : CapInput} {d : EdgeDir} {s : State} {p : Port} (h : armMatches d (s.arm p i) ≠ true) :
    reportEdge i d s p = s := by
  unfold reportEdge
  cases arm : s.arm p i with
  | idle => rfl
  | armed sel remaining =>
    rw [arm] at h
    exact if_neg h

theorem reportEdge_frame (i : CapInput) (d : EdgeDir) (s : State) (p : Port) :
    reportEdge i d s p =
      { s with arms := (reportEdge i d s p).arms, sessions := (reportEdge i d s p).sessions } := by
  by_cases h : armMatches d (s.arm p i) = true
  · rw [reportEdge_matches h]; rfl
  · rw [reportEdge_differs h]

theorem reportEdge_arm (i : CapInput) (d : EdgeDir) (s : State) (p q : Port) (j : CapInput) :
    (reportEdge i d s p).arm q j =
      if p = q ∧ i = j ∧ armMatches d (s.arm q j) = true then armCounted (s.arm q j) else s.arm q j := by
  by_cases h : armMatches d (s.arm p i) = true
  · rw [reportEdge_matches h, State.setArm_arm]
    by_cases here : p = q ∧ i = j
    · obtain ⟨rfl, rfl⟩ := here
      simp [h]
    · rw [if_neg here, if_neg fun own => here ⟨own.1, own.2.1⟩]
      rfl
  · rw [reportEdge_differs h, if_neg]
    rintro ⟨rfl, rfl, own⟩
    exact h own

theorem reportEdge_session (i : CapInput) (d : EdgeDir) (s : State) (p q : Port) :
    (reportEdge i d s p).session q =
      if p = q ∧ armMatches d (s.arm q i) = true then
        received s.ltb.pos (captureBody i d s.ltb (s.arm q i)) (s.session q)
      else s.session q := by
  by_cases h : armMatches d (s.arm p i) = true
  · rw [reportEdge_matches h]
    show State.session (s.setSession p _) q = _
    rw [State.setSession_session]
    by_cases own : p = q
    · subst own; simp [h]
    · simp [own]
  · rw [reportEdge_differs h, if_neg]
    rintro ⟨rfl, own⟩
    exact h own

/-- R147, R148: what an edge makes of the arm records and the sessions of the ports of a list. -/
structure EdgeReported (i : CapInput) (d : EdgeDir) (l : List Port) (s t : State) : Prop where
  frame : t = { s with arms := t.arms, sessions := t.sessions }
  arm : ∀ q j, t.arm q j =
    if q ∈ l ∧ i = j ∧ armMatches d (s.arm q j) = true then armCounted (s.arm q j) else s.arm q j
  session : ∀ q, t.session q =
    if q ∈ l ∧ armMatches d (s.arm q i) = true then
      received s.ltb.pos (captureBody i d s.ltb (s.arm q i)) (s.session q)
    else s.session q

theorem foldl_reportEdge (i : CapInput) (d : EdgeDir) {l : List Port} (nodup : l.Nodup) (s : State) :
    EdgeReported i d l s (l.foldl (reportEdge i d) s) := by
  induction l generalizing s with
  | nil => exact ⟨rfl, fun q j => by simp, fun q => by simp⟩
  | cons p l ih =>
    obtain ⟨fresh, nodup⟩ := List.nodup_cons.mp nodup
    obtain ⟨frame, arm, session⟩ := ih nodup (reportEdge i d s p)
    have first := reportEdge_frame i d s p
    have ltb : (reportEdge i d s p).ltb = s.ltb := by rw [first]
    refine ⟨?_, fun q j => ?_, fun q => ?_⟩
    · rw [List.foldl_cons, frame, first]
    · rw [List.foldl_cons, arm, reportEdge_arm]
      by_cases own : p = q
      · subst own; simp [fresh]
      · simp [own, Ne.symm own]
    · rw [List.foldl_cons, session, reportEdge_arm, reportEdge_session, ltb]
      by_cases own : p = q
      · subst own; simp [fresh]
      · simp [own, Ne.symm own]

/-! ## The waiting entries -/

/-- R57, R38: an entry that a trigger moves to the pending list. -/
def triggered (pos : Pos) (u : State) (e : Entry) : PendingEntry :=
  { entry := { e with adm := u.sched.admCounter + 1 }, due := pos + BitVec.ofNat 42 (triggerDelay e),
    fire := fireOf u e.action (pos + BitVec.ofNat 42 (triggerDelay e)) }

theorem foldl_triggerEntry_waiting (pos : Pos) (l : List Entry) (u : State) :
    (l.foldl (fun s e => triggerEntry pos e s) u).sched.waiting = u.sched.waiting := by
  induction l generalizing u with
  | nil => rfl
  | cons e l ih => exact ih (triggerEntry pos e u)

/-- R57: the offer of an edge to the waiting set. -/
structure EdgeOffered (i : CapInput) (d : EdgeDir) (pos : Pos) (u t : State) : Prop where
  frame : t = { u with sched := t.sched }
  waiting : t.sched.waiting = u.sched.waiting.filter (fun e => !triggerMatches i d e)
  deferred : t.sched.deferred = u.sched.deferred
  none : (∀ e ∈ u.sched.waiting, triggerMatches i d e = false) → t.sched = u.sched
  one : ∀ e, u.sched.waiting.filter (triggerMatches i d) = [e] →
    t.sched.admCounter = u.sched.admCounter + 1
      ∧ t.sched.pending = insertByFire u.ltb.pos (triggered pos u e) u.sched.pending

theorem offerTrigger_offered (i : CapInput) (d : EdgeDir) (pos : Pos) (u : State) :
    EdgeOffered i d pos u (offerTrigger i d pos u) := by
  obtain ⟨-, k, eq, deferred⟩ := foldl_triggerEntry pos (u.sched.waiting.filter (triggerMatches i d))
    { u with sched := { u.sched with waiting := u.sched.waiting.filter fun e => !triggerMatches i d e } }
  have offered : offerTrigger i d pos u = { u with sched := k } := eq
  refine ⟨by rw [offered], foldl_triggerEntry_waiting _ _ _, ?_, fun quiet => ?_, fun e only => ?_⟩
  · rw [offered]; exact deferred
  · have matching : u.sched.waiting.filter (triggerMatches i d) = [] :=
      List.filter_eq_nil_iff.mpr fun e mem => by simp [quiet e mem]
    have rest : (u.sched.waiting.filter fun e => !triggerMatches i d e) = u.sched.waiting :=
      List.filter_eq_self.mpr fun e mem => by simp [quiet e mem]
    rw [offerTrigger, matching, rest]
    rfl
  · rw [offerTrigger, only]
    exact ⟨rfl, rfl⟩

/-! ## O48 -/

/-- R147, R149: what a qualified edge makes of the part that it meets. -/
theorem distributeEdge_distributed (i : CapInput) (d : EdgeDir) (s : State) :
    ∃ v, EdgeReported i d allPorts s v ∧ EdgeOffered i d s.ltb.pos v (distributeEdge i d s) :=
  ⟨_, foldl_reportEdge i d (by decide) s, offerTrigger_offered i d s.ltb.pos _⟩

/-- Settles O48: a covered level leaves no full run; an edge is distributed at the part that its count leaves, to the arm
records of the three ports and then to the waiting set. -/
theorem captureEdgeDistributed : Obligations.CaptureEdgeDistributed := by
  unfold Obligations.CaptureEdgeDistributed
  intro i d after s high u
  refine ⟨fun running last holds early => ?_, fun comes still change => ?_⟩
  · have is := exec_captureEdge (i := i) (d := d) (after := 0) running
    rw [levelAfterCounts_zero _ _ _ running, handleDue_showCap_covered holds early] at is
    refine ⟨_, is, rfl, fun j other => ?_, ?_, ?_⟩
    · rw [showCap, State.setCapFilter_capFilter_ne _ _ (Ne.symm other)]
      rfl
    · rw [showCap, State.setCapFilter_capFilter_same]
    · rw [showCap, State.setCapFilter_capFilter_same]
  · have is := exec_captureEdge (i := i) (d := d) (after := after) comes.1
    rw [levelAfterCounts_capture comes still change, capQualified_edge change, directionOf_rising] at is
    obtain ⟨v, reported, offered⟩ := distributeEdge_distributed i d (u.setCapFilter i (edgeFilter high u))
    clear_value u
    change EdgeOffered i d u.ltb.pos v _ at offered
    generalize distributeEdge i d (u.setCapFilter i (edgeFilter high u)) = t at *
    refine ⟨t, is, ?_⟩
    beta_reduce
    intro matched figure counted
    have isMatched : matched = armMatches d := funext fun a => by
      rcases a with _ | ⟨_ | _ | _, _⟩ <;> cases d <;> rfl
    have isFigure : figure = reportFigure := funext fun a => by
      rcases a with _ | ⟨_, _ | _⟩ <;> rfl
    have isCounted : counted = armCounted := funext fun a => by
      rcases a with _ | ⟨_, _ | _ | _⟩ <;> rfl
    rw [isMatched, isFigure, isCounted]
    clear_value matched figure counted
    have sched : v.sched = u.sched := by rw [reported.frame]; rfl
    have ltb : v.ltb = u.ltb := by rw [reported.frame]; rfl
    have filter (j : CapInput) : t.capFilter j = if i = j then edgeFilter high u else u.capFilter j := by
      rw [offered.frame, reported.frame]
      exact State.setCapFilter_capFilter u i j _
    have port (q : Port) : q ∈ allPorts := mem_allPorts q
    refine ⟨?_, (filter i).trans (if_pos rfl), fun j other => (filter j).trans (if_neg (Ne.symm other)), fun q j => ?_,
      fun q => ?_, ?_, ?_, fun quiet => ?_, fun e mem only => ?_⟩
    · rw [offered.frame, reported.frame]; rfl
    · have arm := reported.arm q j
      rw [State.setCapFilter_arm] at arm
      rw [offered.frame]
      refine Eq.trans arm ?_
      simp only [port, true_and, eq_comm]
    · have session := reported.session q
      rw [State.setCapFilter_arm] at session
      rw [offered.frame]
      refine Eq.trans session ?_
      simp only [port, true_and]
      rfl
    · rw [offered.waiting, sched]
    · rw [offered.deferred, sched]
    · rw [offered.none (by rwa [sched]), sched]
    · have one := offered.one e (by rwa [sched])
      have moved : triggered u.ltb.pos v e = triggered u.ltb.pos u e := by rw [reported.frame]; rfl
      rw [sched, ltb, moved] at one
      exact one

end Sys2Proof.Machine
end

section
/-! O6: the channel records stay in order, and the drives of a group exclude each other. Every part of a step but an accepted
close leaves drives off or as they are; an accepted close finds no other occupant in its group (R92, R94). -/

namespace Sys2Proof.Machine

/-! ## The invariant at one channel -/

/-- No channel's drive goes on, and a channel whose drive is on stays in its group. -/
theorem SwitchingOk.of_chans {s t : State} (h : SwitchingOk s) (ok : ∀ c, ChannelOk (t.chan c))
    (on : ∀ c, (t.chan c).drive = true → (s.chan c).drive = true ∧ (t.chan c).cfg.group = (s.chan c).cfg.group) :
    SwitchingOk t := by
  refine ⟨ok, fun c d other onC onD grouped => ?_⟩
  obtain ⟨wasC, groupC⟩ := on c onC
  obtain ⟨wasD, groupD⟩ := on d onD
  rw [groupC] at grouped ⊢
  rw [groupD]
  exact h.2 c d other wasC wasD grouped

theorem SwitchingOk.of_chan {s t : State} (h : SwitchingOk s) (same : ∀ c, t.chan c = s.chan c) : SwitchingOk t :=
  h.of_chans (fun c => same c ▸ h.1 c) fun c on => by rw [same] at on ⊢; exact ⟨on, rfl⟩

/-- One channel is rewritten, and its drive does not go on. -/
theorem SwitchingOk.of_one {s t : State} (h : SwitchingOk s) (c : Chan) (ok : ChannelOk (t.chan c))
    (on : (t.chan c).drive = true → (s.chan c).drive = true ∧ (t.chan c).cfg.group = (s.chan c).cfg.group)
    (others : ∀ d, d ≠ c → t.chan d = s.chan d) : SwitchingOk t := by
  refine h.of_chans (fun d => ?_) fun d onD => ?_
  · by_cases own : d = c
    · exact own ▸ ok
    · exact others d own ▸ h.1 d
  · by_cases own : d = c
    · subst own; exact on onD
    · rw [others d own] at onD ⊢; exact ⟨onD, rfl⟩

theorem SwitchingOk.setChan {s : State} (h : SwitchingOk s) {c : Chan} {x : Channel} (ok : ChannelOk x)
    (on : x.drive = true → (s.chan c).drive = true ∧ x.cfg.group = (s.chan c).cfg.group) : SwitchingOk (s.setChan c x) :=
  h.of_one c (by rwa [State.setChan_chan_same]) (by rwa [State.setChan_chan_same]) fun _ other =>
    State.setChan_chan_ne _ _ (Ne.symm other)

namespace ChannelOk

variable {ch : Channel} (h : ChannelOk ch)
include h

/-- R90: the occupancy that the state gives. -/
theorem occupancyOf : ChannelOk (occupancyOf ch) where
  drive := h.drive
  timer := h.timer
  present := h.present
  fault := h.fault
  ungrouped none := by
    have none : ch.cfg.group = Option.none := none
    simp [Machine.occupancyOf, none, h.ungrouped none]
  occupies grouped moving := by
    have grouped : ch.cfg.group.isSome = true := grouped
    have moving : drivenState ch.state = true ∨ movingState ch.state = true := moving
    cases state : ch.state <;> simp_all [Machine.occupancyOf, Machine.occupies, drivenState, movingState]

/-- R68, R90: an accepted close of an OPEN channel. -/
theorem closed (opened : ch.state = .opened) (now : Nat) (pos : Pos) : ChannelOk (closedChannel now pos ch) := by
  have stopped := h.timer
  rw [opened] at stopped
  constructor <;> cases present : ch.cfg.present <;>
    simp_all [closedChannel, drivenState, movingState, inFault, h.ungrouped]

/-- R70, R79, R90: an open of a channel whose drive is on. -/
theorem opened (now : Nat) (pos : Pos) : ChannelOk (openedChannel now pos ch) := by
  unfold openedChannel
  cases moving : ch.cfg.present && ch.feedback with
  | true =>
    obtain ⟨present, -⟩ := Bool.and_eq_true_iff.mp moving
    refine ⟨rfl, rfl, fun _ => present, nofun, fun none => ?_, fun grouped _ => if_pos grouped⟩
    have none : ch.cfg.group = Option.none := none
    simp [none, h.ungrouped none]
  | false =>
    refine ⟨rfl, rfl, nofun, nofun, fun none => ?_, fun _ busy => by rcases busy with on | moves <;> contradiction⟩
    have none : ch.cfg.group = Option.none := none
    simp [none, h.ungrouped none]

/-- R73: an entry to FAULT. -/
theorem faulted (pos : Pos) (cause : FaultCause) : ChannelOk (faultChannel pos cause ch) := by
  constructor <;> cases on : ch.drive <;>
    simp [faultChannel, driveOff, drivenState, movingState, on] <;> exact h.ungrouped

/-- R52, R80, R81: a pending open that ends. -/
theorem unowed (claim : Claim) (tally : Nat) :
    ChannelOk { ch with claim := claim, tally := tally, pendingOpen := none } :=
  ⟨h.drive, h.timer, h.present, fun _ => rfl, h.ungrouped, h.occupies⟩

/-- R51, R107: a pending open of a channel that is not in FAULT. -/
theorem owing (noFault : inFault ch.state = false) (owed : PendingOpen) :
    ChannelOk { ch with pendingOpen := some owed } :=
  ⟨h.drive, h.timer, h.present, fun fault => absurd (noFault.symm.trans fault) (by decide), h.ungrouped, h.occupies⟩

/-- Table 4-2 does not speak of claims. -/
theorem claimed (claim : Claim) (tally : Nat) : ChannelOk { ch with claim := claim, tally := tally } :=
  ⟨h.drive, h.timer, h.present, h.fault, h.ungrouped, h.occupies⟩

/-- Table 4-2 does not speak of feedback, nor of the dwell flag. -/
theorem sampled (feedback settled : Bool) (run : SampleRun) :
    ChannelOk { ch with feedback := feedback, settled := settled, fbkRun := run } :=
  ⟨h.drive, h.timer, h.present, h.fault, h.ungrouped, h.occupies⟩

/-- R69, R71, R75: a channel that comes to rest in OPEN or CLOSED with its drive as it is. -/
theorem rested {state : ChanState} (driven : drivenState state = ch.drive) (rests : movingState state = false)
    (noFault : inFault state = false) (occupied : ch.drive = true → ch.cfg.group.isSome = true → ch.occupant = true) :
    ChannelOk { ch with state := state, verifyAt := none } where
  drive := driven.symm
  timer := rests.symm
  present moving := by rw [rests] at moving; cases moving
  fault fault := by rw [noFault] at fault; cases fault
  ungrouped := h.ungrouped
  occupies grouped busy := by
    rcases busy with on | moving
    · exact occupied (driven ▸ on) grouped
    · rw [rests] at moving; cases moving

/-- R90: a channel with its drive on occupies its group. -/
theorem occupant_of_drive (on : ch.drive = true) (grouped : ch.cfg.group.isSome = true) : ch.occupant = true :=
  h.occupies grouped (.inl (h.drive ▸ on))

end ChannelOk

/-! ## Commands (R77 to R79, R92) -/

theorem SwitchingOk.updateOccupancy {s : State} (h : SwitchingOk s) (c : Chan) :
    SwitchingOk (Machine.updateOccupancy c s) := by
  have own : (Machine.updateOccupancy c s).chan c = Machine.occupancyOf (s.chan c) := by
    rw [updateOccupancy_chan, if_pos rfl]
  refine h.of_one c (own ▸ (h.1 c).occupancyOf) (fun on => ?_) fun d other => ?_
  · rw [own] at on ⊢; exact ⟨on, rfl⟩
  · rw [updateOccupancy_chan, if_neg (Ne.symm other)]

/-- R92: a close passes only in a group that no other member occupies. -/
theorem alone_of_groupRefusal {s : State} {c : Chan} {g : GroupId} (passes : groupRefusal s c = none)
    (grouped : (s.chan c).cfg.group = some g) {d : Chan} (other : d ≠ c) : isOccupant s g d = false := by
  unfold groupRefusal at passes
  rw [grouped] at passes
  dsimp only at passes
  split at passes
  · cases passes
  · next vacant =>
    simp only [List.any_eq_true, not_exists, not_and, Bool.and_eq_true, decide_eq_true_eq] at vacant
    exact Bool.eq_false_iff.mpr (vacant d (mem_allChans d) other)

theorem opened_of_accepted {s : State} {c : Chan} (accepted : closeAnswer s c = .accepted) :
    (s.chan c).state = .opened ∧ groupRefusal s c = none := by
  unfold closeAnswer at accepted
  dsimp only at accepted
  split at accepted <;> try cases accepted
  next opened =>
    refine ⟨opened, ?_⟩
    split at accepted
    · cases accepted
    · split at accepted
      · cases accepted
      · assumption

/-- R94: an accepted close turns the one drive of its group on. -/
theorem SwitchingOk.closeCommand {s : State} (h : SwitchingOk s) (c : Chan) :
    SwitchingOk (Machine.closeCommand c s).2 := by
  have command := closeCommand_commands c s
  generalize (Machine.closeCommand c s).2 = t at command
  split at command
  case isFalse => exact h.of_chan fun d => by rw [command.chan]; split <;> simp_all
  case isTrue accepted =>
  obtain ⟨opened, passes⟩ := opened_of_accepted accepted
  have apart : ∀ d, d ≠ c → (s.chan d).drive = true → (s.chan c).cfg.group.isSome = true →
      (s.chan c).cfg.group ≠ (s.chan d).cfg.group := fun d other on grouped same => by
    obtain ⟨g, inG⟩ := Option.isSome_iff_exists.mp grouped
    have vacant := alone_of_groupRefusal passes inG other
    rw [same] at grouped inG
    simp [isOccupant, inG, (h.1 d).occupant_of_drive on grouped] at vacant
  have cfg : (t.chan c).cfg = (s.chan c).cfg := by rw [command.own]; rfl
  refine ⟨fun d => ?_, fun d e other onD onE grouped => ?_⟩
  · rw [command.chan]
    split
    · exact (h.1 c).closed opened _ _
    · exact h.1 d
  · by_cases isC : d = c
    · subst isC
      rw [command.other (Ne.symm other)] at onE ⊢
      rw [cfg] at grouped ⊢
      exact apart e (Ne.symm other) onE grouped
    · rw [command.other isC] at onD grouped ⊢
      by_cases eIsC : e = c
      · subst eIsC
        rw [cfg]
        exact fun same => apart d isC onD (same ▸ grouped) same.symm
      · rw [command.other eIsC] at onE ⊢
        exact h.2 d e other onD onE grouped

/-- A command that opens a channel, if it does anything. -/
theorem SwitchingOk.of_opened {s t : State} (h : SwitchingOk s) {c : Chan} {ch : Channel} (command : Commanded c ch s t)
    (is : ch = s.chan c ∨ ch = openedChannel s.now s.ltb.pos (s.chan c)) : SwitchingOk t := by
  refine h.of_one c ?_ (fun on => ?_) fun d other => command.other other
  · rw [command.own]
    rcases is with rfl | rfl
    · exact h.1 c
    · exact (h.1 c).opened _ _
  · rw [command.own] at on ⊢
    rcases is with rfl | rfl
    · exact ⟨on, rfl⟩
    · cases on

theorem SwitchingOk.openCommand {s : State} (h : SwitchingOk s) (c : Chan) : SwitchingOk (Machine.openCommand c s).2 :=
  h.of_opened (openCommand_commands c s) (by split <;> simp)

/-- R79: an override open does what an open of a CLOSED channel does, as CLOSING is a state of mode PRESENT. -/
theorem overrideChannel_eq {ch : Channel} (ok : ChannelOk ch) (now : Nat) (pos : Pos) :
    overrideChannel now pos ch = enterOpening now (driveOff pos ch) := by
  unfold overrideChannel
  dsimp only
  split
  · next closing =>
    have present : (driveOff pos ch).cfg.present = true := ok.present (by rw [closing]; rfl)
    rw [enterOpening, present, Bool.true_and]
  · rfl

theorem overrideActs_iff {ch : Channel} (ok : ChannelOk ch) : overrideActs ch = ch.drive := by
  rw [ok.drive]
  unfold overrideActs drivenState
  cases ch.state <;> rfl

/-- R79: what an override open makes of its channel and its groups. -/
theorem overrideOpen_commands {c : Chan} {s : State} (ok : ChannelOk (s.chan c)) :
    Commanded c (if (s.chan c).drive = true then openedChannel s.now s.ltb.pos (s.chan c) else s.chan c) s
      (overrideOpen c s) := by
  have stands := overrideOpen_stands c s
  unfold overrideOpen at stands ⊢
  rw [overrideActs_iff ok] at stands ⊢
  split
  · next on =>
    rw [if_pos on, overrideChannel_eq ok] at stands
    obtain ⟨cfg, occupant⟩ : (enterOpening s.now (driveOff s.ltb.pos (s.chan c))).cfg = (s.chan c).cfg
        ∧ (enterOpening s.now (driveOff s.ltb.pos (s.chan c))).occupant = (s.chan c).occupant := by
      unfold enterOpening
      split <;> exact ⟨rfl, rfl⟩
    rw [overrideChannel_eq ok, ← occupancyOf_enterOpening]
    exact .written cfg occupant stands
  · exact .refl c s

theorem SwitchingOk.overrideOpen {s : State} (h : SwitchingOk s) (c : Chan) : SwitchingOk (Machine.overrideOpen c s) :=
  h.of_opened (overrideOpen_commands (h.1 c)) (by split <;> simp)

/-! ## The work -/

theorem resolveHeld_chan (inLoop : Bool) (c : Chan) (tag : Tag) (body : Nat → EventBody) (s : State) (d : Chan) :
    (resolveHeld inLoop c tag body s).1.chan d = s.chan d :=
  (resolveDeferred_chan _ _ _ d).trans (State.handToOwner_chan ..)

theorem faultRecord_chan (c : Chan) (cause : FaultCause) (s : State) (d : Chan) :
    (faultRecord c cause s).chan d = s.chan d := by
  unfold faultRecord
  dsimp only
  split
  · exact State.handTo_chan ..
  · exact State.handToEach_chan ..

theorem SwitchingOk.claimed {s : State} (h : SwitchingOk s) (c : Chan) (claim : Claim) (tally : Nat) :
    SwitchingOk (s.setChan c { s.chan c with claim := claim, tally := tally }) :=
  h.setChan ((h.1 c).claimed claim tally) fun on => ⟨on, rfl⟩

theorem SwitchingOk.endClaim {s : State} (h : SwitchingOk s) (c : Chan) (cause : EndedCause) :
    SwitchingOk (Machine.endClaim c cause s) :=
  (h.claimed c .free 0).of_chan fun _ => State.handToOwner_chan ..

theorem SwitchingOk.removeWhere {s : State} (h : SwitchingOk s) (f : Entry → Bool) : SwitchingOk (s.removeWhere f) :=
  h.of_chan fun _ => rfl

theorem SwitchingOk.removeChannelEntries {s : State} (h : SwitchingOk s) (c : Chan) :
    SwitchingOk (Machine.removeChannelEntries c s) :=
  (h.removeWhere (Entry.names c)).setChan ((h.1 c).claimed _ _) fun on => ⟨on, rfl⟩

theorem SwitchingOk.drainTest {s : State} (h : SwitchingOk s) (c : Chan) : SwitchingOk (Machine.drainTest c s).1 := by
  unfold Machine.drainTest
  dsimp only
  split
  · exact h
  · split
    · exact (h.removeChannelEntries c).endClaim c _
    · split
      · exact h
      · split
        · exact h.endClaim c _
        · exact h.endClaim c _
        · next closed _ =>
          exact h.setChan ((h.1 c).owing (by rw [closed]; rfl) _) fun on => ⟨on, rfl⟩
        · exact h

theorem SwitchingOk.executePendingOpen {s : State} (h : SwitchingOk s) (inLoop : Bool) (c : Chan) (p : PendingOpen)
    (already : Bool) : SwitchingOk (Machine.executePendingOpen inLoop c p already s).1 := by
  have cleared : SwitchingOk (clearPendingOpen c s) :=
    h.setChan ((h.1 c).unowed (s.chan c).claim (s.chan c).tally) fun on => ⟨on, rfl⟩
  unfold Machine.executePendingOpen
  dsimp only
  split
  · exact cleared.of_chan fun _ => resolveHeld_chan ..
  · exact cleared

theorem SwitchingOk.examinePendingOpen {s : State} (h : SwitchingOk s) (inLoop : Bool) (c : Chan) :
    SwitchingOk (Machine.examinePendingOpen inLoop c s).1 := by
  have opened := h.openCommand c
  unfold Machine.examinePendingOpen
  split
  · exact h
  · split
    · next e => rw [e] at opened; exact opened.executePendingOpen inLoop c _ _
    · next e => rw [e] at opened; exact opened.executePendingOpen inLoop c _ _
    · next e => rw [e] at opened; exact opened

/-- R49 to R53: of an answered issue only a hand-off writes a channel, and none in FAULT. -/
theorem SwitchingOk.issueAnswered {s : State} (h : SwitchingOk s) {x : PendingEntry} {c : Chan} {a : Answer}
    (noFault : isSecond x.entry.action = true → a ≠ .refused .fault → inFault (s.chan c).state = false) :
    SwitchingOk (Machine.issueAnswered x c a s).1 := by
  unfold Machine.issueAnswered
  split
  · exact h.of_chan (issueDone_chan x false s)
  · exact h.of_chan (issueDone_chan x true s)
  · next reason =>
    split
    · next handed =>
      simp only [Bool.and_eq_true] at handed
      have unfaulted := noFault handed.1.1 fun e => by
        have handsOver := handed.1.2
        rw [Answer.refused.inj e] at handsOver
        cases handsOver
      refine (h.setChan ((h.1 c).owing unfaulted (.held x.entry.tag x.entry.label)) fun on => ⟨on, rfl⟩).of_chan
        fun d => ?_
      rw [handOff_chan, State.setChan_chan]
      split
      · next e => rw [e]
      · rfl
    · exact h.of_chan (issueMissed_chan x reason s)

theorem SwitchingOk.issue {s : State} (h : SwitchingOk s) (x : PendingEntry) : SwitchingOk (Machine.issue x s).1 := by
  unfold Machine.issue
  dsimp only
  split
  · exact h.of_chan (issueMissed_chan x _ s)
  · split
    · exact h.of_chan (issueMissed_chan x _ s)
    · split
      · exact h.of_chan (issueDone_chan x false s)
      · next c _ =>
        split
        · next closing =>
          refine (h.closeCommand c).issueAnswered fun second => ?_
          rw [isSecond_of_closing closing] at second
          cases second
        · refine (h.openCommand c).issueAnswered fun _ answer => ?_
          rw [openCommand_answer] at answer
          cases fault : inFault ((Machine.openCommand c s).2.chan c).state with
          | false => rfl
          | true => exact absurd (openAnswer_fault (((openCommand_stands c s).chans c).fault fault)) answer

theorem SwitchingOk.fireHead {s : State} (h : SwitchingOk s) : SwitchingOk (Machine.fireHead s).1 := by
  unfold Machine.fireHead
  split
  · exact h
  · next x l _ =>
    split
    · exact SwitchingOk.issue (s := { s with sched := { s.sched with pending := l } }) h x
    · exact h

theorem SwitchingOk.work {s : State} (h : SwitchingOk s) (tasks : List Task) : SwitchingOk (Machine.work tasks s) := by
  refine work_inv SwitchingOk (fun inLoop t u ok => ?_) tasks s h
  cases t with
  | fire => exact ok.fireHead
  | fireOn => exact ok.fireHead
  | examine c => exact ok.examinePendingOpen inLoop c
  | drain c => exact ok.drainTest c
  | changed c => exact ok.updateOccupancy c

/-- R73: the drive goes off and the pending open is cleared before anything else is done. -/
theorem SwitchingOk.enterFault {s : State} (h : SwitchingOk s) (c : Chan) (cause : FaultCause) :
    SwitchingOk (Machine.enterFault c cause s) := by
  have off : (faultChannel s.ltb.pos cause (s.chan c)).drive = false := by
    rw [((h.1 c).faulted s.ltb.pos cause).drive]; rfl
  have faulted := h.setChan (c := c) ((h.1 c).faulted s.ltb.pos cause) fun on => by rw [off] at on; cases on
  have recorded : SwitchingOk (faultRecord c cause (s.setChan c (faultChannel s.ltb.pos cause (s.chan c)))) :=
    faulted.of_chan (faultRecord_chan c cause _)
  unfold Machine.enterFault
  dsimp only
  split
  · exact (recorded.of_chan fun _ => resolveHeld_chan ..).work _
  · exact recorded.work _

theorem SwitchingOk.inFreeOrder {α : Type} {s : State} (h : SwitchingOk s) (l : List α) :
    SwitchingOk (s.inFreeOrder l).2 := by
  obtain ⟨k, e⟩ := State.inFreeOrder_state l s
  exact e ▸ h.of_chan fun _ => rfl

theorem SwitchingOk.offerPosition {s : State} (h : SwitchingOk s) : SwitchingOk (Machine.offerPosition s) := by
  have offered : SwitchingOk (atOffer s) := by
    refine h.of_chans (fun c => ?_) fun c on => ?_
    · rw [atOffer_chan]
      exact (h.1 c).sampled _ _ _
    · rw [atOffer_chan] at on ⊢
      exact ⟨on, rfl⟩
  rw [offerPosition_eq]
  exact (offered.inFreeOrder _).work _

/-! ## Events -/

/-- R69, R71, R75: a channel comes to rest, and the work of R81 follows. -/
theorem SwitchingOk.rested {s : State} (h : SwitchingOk s) {c : Chan} {state : ChanState}
    (driven : drivenState state = (s.chan c).drive) (rests : movingState state = false) (noFault : inFault state = false) :
    SwitchingOk (Machine.work [.changed c] (s.setChan c { s.chan c with state := state, verifyAt := none })) :=
  (h.setChan ((h.1 c).rested driven rests noFault fun on => (h.1 c).occupant_of_drive on) fun on => ⟨on, rfl⟩).work _

theorem SwitchingOk.sampled {s : State} (h : SwitchingOk s) (c : Chan) (feedback : Bool) (run : SampleRun) :
    SwitchingOk (s.setChan c { s.chan c with feedback := feedback, fbkRun := run }) :=
  h.setChan ((h.1 c).sampled feedback (s.chan c).settled run) fun on => ⟨on, rfl⟩

theorem SwitchingOk.feedbackActs {s : State} (h : SwitchingOk s) (c : Chan) (closed : Bool) :
    SwitchingOk (Machine.feedbackActs c closed s) := by
  have drive := (h.1 c).drive
  unfold Machine.feedbackActs
  dsimp only
  split
  · next closing =>
    split
    · exact h.rested (by rw [drive, closing]; rfl) rfl rfl
    · exact h
  · next opening =>
    split
    · exact h
    · exact h.rested (by rw [drive, opening]; rfl) rfl rfl
  · split
    · exact h.enterFault c _
    · exact h
  · split
    · exact h.enterFault c _
    · exact h
  · exact h.updateOccupancy c

theorem SwitchingOk.feedbackChange {s : State} (h : SwitchingOk s) (c : Chan) (closed : Bool) :
    SwitchingOk (Machine.feedbackChange c closed s) := by
  unfold Machine.feedbackChange
  split
  · exact h
  · exact (h.sampled c closed (s.chan c).fbkRun).feedbackActs c closed

theorem SwitchingOk.verifyExpiry {s : State} (h : SwitchingOk s) (c : Chan) : SwitchingOk (Machine.verifyExpiry c s) := by
  unfold Machine.verifyExpiry
  split
  · exact h.enterFault c _
  · exact h.enterFault c _
  · exact h

theorem SwitchingOk.drainCompletion {s : State} (h : SwitchingOk s) (c : Chan) :
    SwitchingOk (Machine.drainCompletion c s) := by
  unfold Machine.drainCompletion
  split
  · exact h.work _
  · exact h

theorem SwitchingOk.overrideWork {s : State} (h : SwitchingOk s) (c : Chan) : SwitchingOk (Machine.overrideWork c s) := by
  unfold Machine.overrideWork
  split
  · exact (h.overrideOpen c).work _
  · exact h

/-- What each turn of a fold keeps. -/
theorem SwitchingOk.foldl {α : Type} {f : State → α → State} {s : State} (h : SwitchingOk s)
    (turn : ∀ s x, SwitchingOk s → SwitchingOk (f s x)) (l : List α) : SwitchingOk (l.foldl f s) :=
  KeptByHandling.foldl turn l h

theorem SwitchingOk.supplyRecord {s : State} (h : SwitchingOk s) (low : Bool) (shed : List Chan) :
    SwitchingOk (Machine.supplyRecord low shed s) := h.of_chan fun _ => rfl

theorem SwitchingOk.supplyEntry {s : State} (h : SwitchingOk s) : SwitchingOk (Machine.supplyEntry s) := by
  unfold Machine.supplyEntry
  dsimp only
  split
  · exact h
  · refine SwitchingOk.supplyRecord (SwitchingOk.foldl ?_ (fun u c ok => ok.overrideWork c) _) true _
    exact h.of_chan fun _ => rfl

theorem SwitchingOk.supplyLeaving {s : State} (h : SwitchingOk s) : SwitchingOk (Machine.supplyLeaving s) := by
  unfold Machine.supplyLeaving
  split
  · refine SwitchingOk.supplyRecord ?_ false []
    exact h.of_chan fun _ => rfl
  · exact h

theorem SwitchingOk.distributeEdge {s : State} (h : SwitchingOk s) (i : CapInput) (d : EdgeDir) :
    SwitchingOk (Machine.distributeEdge i d s) := by
  obtain ⟨v, reported, offered⟩ := distributeEdge_distributed i d s
  generalize Machine.distributeEdge i d s = t at offered ⊢
  refine h.of_chan fun c => ?_
  have told : v.chan c = s.chan c := (congrArg (fun u : State => u.chan c) reported.frame :)
  have triggered : t.chan c = v.chan c := (congrArg (fun u : State => u.chan c) offered.frame :)
  exact triggered.trans told

/-! ## Claims and sessions -/

theorem SwitchingOk.gracefulRelease {s : State} (h : SwitchingOk s) (c : Chan) :
    SwitchingOk (Machine.gracefulRelease c s) := by
  unfold Machine.gracefulRelease
  dsimp only
  split
  · next p _ =>
    refine SwitchingOk.work ?_ _
    exact (h.claimed c (.releasing p) (s.sched.waiting.countP (Entry.names c))).of_chan fun _ => rfl
  · exact h

theorem SwitchingOk.freeByForce {s : State} (h : SwitchingOk s) (c : Chan) : SwitchingOk (Machine.freeByForce c s) := by
  have freed : SwitchingOk (s.setChan c { s.chan c with pendingOpen := none, claim := .free }) :=
    h.setChan ((h.1 c).unowed .free (s.chan c).tally) fun on => ⟨on, rfl⟩
  unfold Machine.freeByForce
  dsimp only
  split
  · exact freed.overrideWork c
  · exact freed

theorem SwitchingOk.forcedRelease {s : State} (h : SwitchingOk s) (c : Chan) :
    SwitchingOk (Machine.forcedRelease c s) := by
  unfold Machine.forcedRelease
  refine SwitchingOk.claimed ?_ c _ 0
  exact ((h.removeChannelEntries c).freeByForce c).of_chan fun _ => State.handToOwner_chan ..

theorem SwitchingOk.releaseChans {s : State} (h : SwitchingOk s) (mode : ReleaseMode) (set : List Chan) :
    SwitchingOk (Machine.releaseChans mode set s) := by
  refine h.foldl (fun u c ok => ?_) set
  cases mode with
  | graceful => exact ok.gracefulRelease c
  | forced => exact ok.forcedRelease c

theorem SwitchingOk.claimChans {s : State} (h : SwitchingOk s) (p : Port) (set : List Chan) :
    SwitchingOk (Machine.claimChans p set s) := by
  refine h.foldl (fun u c ok => ?_) set
  unfold claimChan
  split
  · exact ok.claimed c _ _
  · exact ok

theorem SwitchingOk.setSession {s : State} (h : SwitchingOk s) (p : Port) (r : Session) :
    SwitchingOk (s.setSession p r) := h.of_chan fun _ => rfl

theorem SwitchingOk.setFront {s : State} (h : SwitchingOk s) (p : Port) (x : FrontEnd) : SwitchingOk (s.setFront p x) :=
  h.of_chan fun _ => rfl

theorem SwitchingOk.setArm {s : State} (h : SwitchingOk s) (p : Port) (i : CapInput) (a : Arm) :
    SwitchingOk (s.setArm p i a) := h.of_chan fun _ => rfl

theorem SwitchingOk.sessionEnd {s : State} (h : SwitchingOk s) (p : Port) (cause : EndCause) :
    SwitchingOk (Machine.sessionEnd p cause s) := by
  have released := (h.removeWhere fun e => decide (e.owner = p)).foldl (f := endHold p) (fun u c ok => by
    unfold endHold
    split
    · exact (ok.freeByForce c).claimed c _ 0
    · exact ok) allChans
  have disarmed := released.foldl (f := fun s i => s.setArm p i .idle) (fun _ i ok => ok.setArm p i _) allInputs
  exact disarmed.setSession p _

theorem SwitchingOk.keepaliveExpiry {s : State} (h : SwitchingOk s) (p : Port) :
    SwitchingOk (Machine.keepaliveExpiry p s) := by
  unfold Machine.keepaliveExpiry
  split
  · exact h.sessionEnd p _
  · exact h

/-! ## Channel configuration (R82, R83, R96) -/

/-- The channel behind a move of R96 to another group. -/
def movedChannel (new : Option GroupId) (ch : Channel) : Channel :=
  if new = ch.cfg.group then ch
  else { ch with cfg := { ch.cfg with group := new }, occupant := new.isSome && occupies ch }

theorem moveGroup_chan (c : Chan) (new : Option GroupId) (s : State) (d : Chan) :
    (moveGroup c new s).chan d = if c = d then movedChannel new (s.chan c) else s.chan d := by
  unfold moveGroup movedChannel
  dsimp only
  split
  · split
    · next e => rw [e]
    · rfl
  · rw [State.setChan_chan]
    split
    · rfl
    · next other =>
      split
      · split <;> exact State.setChan_chan_ne _ _ other
      · exact State.setChan_chan_ne _ _ other

/-- The channel behind the move and the writing of its new configuration. -/
def configuredChannel (cfg : ChanConfig) (ch : Channel) : Channel :=
  { ch with cfg := cfg, occupant := if cfg.group = ch.cfg.group then ch.occupant else cfg.group.isSome && occupies ch }

theorem movedChannel_configured (cfg : ChanConfig) (ch : Channel) :
    { movedChannel cfg.group ch with cfg := cfg } = configuredChannel cfg ch := by
  unfold movedChannel configuredChannel
  split <;> rfl

/-- R83, R96: the configuration written, in the new group, before the transition of Table 4-3. -/
def reconfigured (c : Chan) (cfg : ChanConfig) (s : State) : State :=
  (moveGroup c cfg.group s).setChan c { (moveGroup c cfg.group s).chan c with cfg := cfg }

theorem configure_eq (c : Chan) (cfg : ChanConfig) (s : State) :
    configure c cfg s = changeFeedbackMode c (s.chan c).cfg.present (reconfigured c cfg s) := rfl

theorem reconfigured_chan (c : Chan) (cfg : ChanConfig) (s : State) (d : Chan) :
    (reconfigured c cfg s).chan d = if c = d then configuredChannel cfg (s.chan c) else s.chan d := by
  unfold reconfigured
  rw [State.setChan_chan, moveGroup_chan, if_pos rfl, movedChannel_configured]
  split
  · rfl
  · next other => rw [moveGroup_chan, if_neg other]

/-- Table 4-2 for a channel with its new configuration, if it is not one that the new mode stops. -/
theorem ChannelOk.configured {ch : Channel} (h : ChannelOk ch) {cfg : ChanConfig}
    (present : movingState ch.state = true → cfg.present = true) : ChannelOk (configuredChannel cfg ch) where
  drive := h.drive
  timer := h.timer
  present := present
  fault := h.fault
  ungrouped none := by
    have none : cfg.group = Option.none := none
    simp only [configuredChannel, none, Option.isSome_none, Bool.false_and]
    split
    · next same => exact h.ungrouped same.symm
    · rfl
  occupies grouped busy := by
    have grouped : cfg.group.isSome = true := grouped
    have busy : drivenState ch.state = true ∨ movingState ch.state = true := busy
    simp only [configuredChannel]
    split
    · next same => exact h.occupies (same ▸ grouped) busy
    · rw [grouped, Bool.true_and]
      cases state : ch.state <;> simp_all [Machine.occupies, drivenState, movingState]

/-- R82: a channel whose drive is on keeps its group. -/
def KeepsDrivenGroup (c : Chan) (cfg : ChanConfig) (s : State) : Prop :=
  (s.chan c).drive = true → cfg.group = (s.chan c).cfg.group

theorem keepsDrivenGroup_of_refusal {p : Port} {c : Chan} {cfg : ChanConfig} {s : State}
    (accepted : configRefusal p c cfg s = none) : KeepsDrivenGroup c cfg s := fun on => by
  unfold configRefusal at accepted
  dsimp only at accepted
  repeat (split at accepted; cases accepted)
  next driven => exact Classical.byContradiction fun moves => driven ⟨moves, on⟩

theorem SwitchingOk.reconfigured {s : State} (h : SwitchingOk s) {c : Chan} {cfg : ChanConfig}
    (keeps : KeepsDrivenGroup c cfg s) (present : movingState (s.chan c).state = true → cfg.present = true) :
    SwitchingOk (Machine.reconfigured c cfg s) := by
  have own : (Machine.reconfigured c cfg s).chan c = configuredChannel cfg (s.chan c) := by
    rw [reconfigured_chan, if_pos rfl]
  refine h.of_one c (own ▸ (h.1 c).configured present) (fun on => ?_) fun d other => ?_
  · rw [own] at on ⊢
    exact ⟨on, keeps on⟩
  · rw [reconfigured_chan, if_neg (Ne.symm other)]

/-- Table 4-3: a moving channel that loses its feedback comes to rest. -/
theorem SwitchingOk.stopped {s : State} (h : SwitchingOk s) {c : Chan} {cfg : ChanConfig}
    (keeps : KeepsDrivenGroup c cfg s) {state : ChanState} (driven : drivenState state = (s.chan c).drive)
    (rests : movingState state = false) (noFault : inFault state = false) :
    SwitchingOk (Machine.work [.changed c] ((Machine.reconfigured c cfg s).setChan c
      { (Machine.reconfigured c cfg s).chan c with state := state, verifyAt := none })) := by
  have own : (Machine.reconfigured c cfg s).chan c = configuredChannel cfg (s.chan c) := by
    rw [reconfigured_chan, if_pos rfl]
  have ok : ChannelOk { configuredChannel cfg (s.chan c) with state := state, verifyAt := none } := {
    drive := driven.symm
    timer := rests.symm
    present := fun moving => by rw [show movingState _ = _ from rests] at moving; cases moving
    fault := fun fault => by rw [show inFault _ = _ from noFault] at fault; cases fault
    ungrouped := fun none => by
      have none : cfg.group = Option.none := none
      simp only [configuredChannel, none, Option.isSome_none, Bool.false_and]
      split
      · next same => exact (h.1 c).ungrouped same.symm
      · rfl
    occupies := fun grouped busy => by
      have on : (s.chan c).drive = true := by
        rcases busy with on | moving
        · exact driven ▸ on
        · rw [show movingState _ = _ from rests] at moving; cases moving
      simp only [configuredChannel, if_pos (keeps on)]
      exact (h.1 c).occupant_of_drive on (keeps on ▸ grouped) }
  refine SwitchingOk.work (h.of_one c ?_ ?_ fun d other => ?_) _
  · rw [State.setChan_chan_same, own]
    exact ok
  · rw [State.setChan_chan_same, own]
    exact fun on => ⟨on, keeps on⟩
  · rw [State.setChan_chan_ne _ _ (Ne.symm other), reconfigured_chan, if_neg (Ne.symm other)]

theorem SwitchingOk.configure {s : State} (h : SwitchingOk s) {c : Chan} {cfg : ChanConfig}
    (keeps : KeepsDrivenGroup c cfg s) : SwitchingOk (Machine.configure c cfg s) := by
  have own : (Machine.reconfigured c cfg s).chan c = configuredChannel cfg (s.chan c) := by
    rw [reconfigured_chan, if_pos rfl]
  have drive := (h.1 c).drive
  have present := (h.1 c).present
  have written := h.reconfigured keeps
  have stopped := fun state => h.stopped keeps (state := state)
  rw [configure_eq]
  unfold changeFeedbackMode
  dsimp only
  rw [own] at stopped ⊢
  split
  · next opened =>
    have ok := written fun moving => by rw [show (s.chan c).state = _ from opened] at moving; cases moving
    split
    · exact ok.enterFault c _
    · exact ok
  · next closed =>
    have ok := written fun moving => by rw [show (s.chan c).state = _ from closed] at moving; cases moving
    split
    · exact ok
    · exact ok.enterFault c _
  · next closing => exact stopped _ (by rw [drive, show (s.chan c).state = _ from closing]; rfl) rfl rfl
  · next opening => exact stopped _ (by rw [drive, show (s.chan c).state = _ from opening]; rfl) rfl rfl
  · next rest1 rest2 rest3 rest4 =>
    refine written fun moving => ?_
    cases off : cfg.present with
    | true => rfl
    | false =>
      cases state : (s.chan c).state <;> rw [state] at moving <;> try cases moving
      · exact absurd state (rest3 (present (by rw [state]; rfl)) off)
      · exact absurd state (rest4 (present (by rw [state]; rfl)) off)

/-! ## Requests -/

theorem SwitchingOk.timebase {s t : State} (h : SwitchingOk s) (k : TimebaseKeeps s t) : SwitchingOk t :=
  h.of_chan fun c => (congrArg (fun u : State => u.chan c) k.beside :)

theorem SwitchingOk.setDevice {s : State} (h : SwitchingOk s) (d : DeviceSettings) :
    SwitchingOk (Machine.setDevice d s) := by
  unfold Machine.setDevice
  refine SwitchingOk.timebase ?_ (setSelector_keeps d.mode d.offsetA d.offsetB _)
  exact h.of_chan fun _ => rfl

/-- R75: a channel in FAULT goes back to OPEN. -/
theorem SwitchingOk.cleared {s : State} (h : SwitchingOk s) {c : Chan} (fault : inFault (s.chan c).state = true) :
    SwitchingOk (Machine.work [.changed c] (s.setChan c { s.chan c with state := .opened })) := by
  obtain ⟨cause, state⟩ := inFault_iff.mp fault
  have off : (s.chan c).drive = false := by rw [(h.1 c).drive, state]; rfl
  have stopped : (s.chan c).verifyAt = none := by
    have timer := (h.1 c).timer
    rw [state] at timer
    exact Option.isSome_eq_false_iff.mp timer |> Option.isNone_iff_eq_none.mp
  have ends := h.rested (c := c) (state := .opened) off.symm rfl rfl
  rwa [← stopped] at ends

theorem inFault_of_refusal {p : Port} {c : Chan} {s : State} (accepted : clearFaultRefusal p c s = none) :
    inFault (s.chan c).state = true := by
  unfold clearFaultRefusal at accepted
  dsimp only at accepted
  split at accepted
  · cases accepted
  · split at accepted
    · cases accepted
    · next fault => simpa using fault

theorem SwitchingOk.act {s : State} (h : SwitchingOk s) (p : Port) (r : Request) :
    SwitchingOk (Machine.act p r s).state := by
  cases r with
  | nop | readStatus | readDevice => exact h
  | attach keepalive subs =>
    unfold Machine.act serveAttach
    dsimp only [accept]
    split
    · exact h
    · split
      · exact h.setSession p _
      · exact (h.setSession p _).setFront p _
  | detach =>
    unfold Machine.act serveDetach
    dsimp only
    split
    · exact h
    · exact h.sessionEnd p _
  | resetPort =>
    unfold Machine.act serveResetPort
    dsimp only [accept]
    split
    · exact (h.sessionEnd p _).setFront p _
    · exact h.setFront p _
  | clearNotices notices =>
    unfold Machine.act serveClearNotices
    dsimp only
    split
    · exact h
    · exact h.setSession p _
  | setDevice a =>
    unfold Machine.act serveSetDevice
    dsimp only
    split
    · exact h
    · split
      · exact h
      · exact h.setDevice _
  | claim chans =>
    unfold Machine.act serveClaim
    dsimp only
    split
    · exact h
    · split
      · exact h
      · exact h.claimChans p _
  | release chans mode =>
    unfold Machine.act serveRelease
    dsimp only
    split
    · split
      · exact h.releaseChans _ _
      · exact h
    · exact h
  | setChannel a =>
    unfold Machine.act serveSetChannel
    dsimp only
    split
    · split
      · exact h
      · next accepted => exact h.configure (keepsDrivenGroup_of_refusal accepted)
    · exact h
  | readChannel c =>
    unfold Machine.act serveReadChannel
    dsimp only
    split <;> exact h
  | clearFault c =>
    unfold Machine.act serveClearFault
    dsimp only
    split
    · exact h
    · split
      · exact h
      · next accepted => exact h.cleared (inFault_of_refusal accepted)
  | schedule a =>
    unfold Machine.act serveSchedule
    dsimp only
    split
    · exact h
    · split
      · exact h
      · unfold admitEntry
        dsimp only
        split <;> exact h.of_chan fun _ => rfl
  | cancel form tag channel =>
    unfold Machine.act serveCancel
    dsimp only
    split
    · exact h
    · split
      · exact h
      · exact ((h.inFreeOrder _).removeWhere _).work _
  | readSchedule start =>
    unfold Machine.act serveReadSchedule
    dsimp only
    split <;> exact h
  | armCapture input edge count =>
    unfold Machine.act serveArmCapture
    dsimp only
    split
    · exact h.setArm p _ _
    · exact h
  | disarmCapture input =>
    unfold Machine.act serveDisarmCapture
    dsimp only
    split
    · exact h.setArm p _ _
    · exact h
  | takeEvents count =>
    unfold Machine.act serveTakeEvents
    dsimp only
    split <;> exact h
  | ackEvents number =>
    unfold Machine.act serveAckEvents
    dsimp only
    split
    · exact h
    · exact h.setSession p _

theorem SwitchingOk.replyTo {s : State} (h : SwitchingOk s) (p : Port) (b : Received) :
    SwitchingOk (Machine.replyTo p b s).state := by
  have restarted : SwitchingOk (restartKeepalive p s) := by rw [restartKeepalive_frame]; exact h
  cases b with
  | checkError => exact h
  | badRequest => exact restarted
  | good r =>
    unfold Machine.replyTo serve
    dsimp only
    split
    · exact restarted.act p r
    · exact restarted

/-! ## O6 -/

theorem SwitchingOk.monitored {s : State} (h : SwitchingOk s) (r : RefId) (m : Monitor) :
    SwitchingOk (testStanding (s.setMonitor r m)) :=
  (h.of_chan (t := s.setMonitor r m) fun _ => by simp).timebase (testStanding_keeps _)

theorem SwitchingOk.blocks (straps : Straps) (fbk : BitVec 12) (suplowN : Bool) (s : State) :
    SwitchingOk (blocksReset straps fbk suplowN s) := by
  have chan : ∀ c, (blocksReset straps fbk suplowN s).chan c = Channel.reset (fbk.getLsbD c.val) := resetChannels_get fbk
  exact ⟨fun c => chan c ▸ Channel.reset_ok _, fun c _ _ on => by rw [chan] at on; cases on⟩

/-- The switching is kept in order by every part of a step. -/
theorem switchingOk_keptByParts : KeptByParts SwitchingOk where
  draws _ _ h := h
  clock _ _ _ h := h
  inputs _ _ _ _ _ _ h := h
  ports _ _ _ _ _ _ _ _ _ h := h
  feedbackRun s c run h := h.sampled c (s.chan c).feedback run
  supplyRun _ _ h := h
  accumulator _ h := h
  work s h := h.timebase (timebaseWork_keeps s)
  offer _ h := h.offerPosition
  edge t s h := h.timebase (timebaseEdge_keeps t s)
  monitor r _ h := h.monitored r _
  silence r s h := by
    unfold silenceLimitExpiry
    split
    · exact h.monitored r _
    · exact h
  capture i d _ h := h.distributeEdge i d
  feedback c closed _ h := h.feedbackChange c closed
  verify c _ h := h.verifyExpiry c
  supplyLow _ h := h.supplyEntry
  supplyHigh _ h := h.supplyLeaving
  keepalive p _ h := h.keepaliveExpiry p
  examine c _ h := h.work [.examine c]
  drain c _ h := h.drainCompletion c
  reply p b _ h := h.replyTo p b
  blocks straps fbk suplowN _ _ s _ := SwitchingOk.blocks straps fbk suplowN s

/-- Settles O6: an accepted close finds its group without another occupant, so without another drive on, and every other
part of a step leaves drives off or as they are. -/
theorem switchingStaysExclusive : Obligations.SwitchingStaysExclusive := by
  unfold Obligations.SwitchingStaysExclusive
  intro s t h e
  exact switchingOk_keptByParts.step h e

end Sys2Proof.Machine
end

section
/-! O30: CLEAR FAULT, and what it shares with SET CHANNEL (O28, O29): requests of a holder that write one channel. -/

namespace Sys2Proof.Machine

/-! ## A request that is refused, a change that is worked out -/

/-- R157: a refusal restarts the keepalive timer and answers, and changes nothing else. -/
theorem request_refused {p : Port} {seq : Byte} {r : Request} {status : Status} {s t : State} (can : CanAct p s)
    (sent : sendRequest p seq r s = t)
    (served : act p r (restartKeepalive p s) = refuse status (restartKeepalive p s)) :
    t = { s with fronts := t.fronts, sessions := t.sessions }
      ∧ OnlySession p (restarted s.now (s.session p)) s t.sessions ∧ Answered p seq status [] s t.fronts := by
  have frame := restartKeepalive_frame p s
  obtain ⟨F, answers, answered⟩ := request_gives (seq := seq) can served (by rw [frame]) (by rw [frame])
  rw [← sent, answers]
  exact ⟨by rw [frame], restartKeepalive_only p s, answered⟩

/-- R157, R171: the answer of a request that is accepted, of which the effects leave the front ends and the count. -/
theorem request_accepted {p : Port} {seq : Byte} {r : Request} {payload : List Byte} {s t v : State} (can : CanAct p s)
    (sent : sendRequest p seq r s = t) (served : act p r (restartKeepalive p s) = accept payload v)
    (fronts : v.fronts = s.fronts) (now : v.now = s.now) :
    t = { v with fronts := t.fronts } ∧ Answered p seq .ok payload s t.fronts := by
  obtain ⟨F, answers, answered⟩ := request_gives (seq := seq) can served fronts now
  rw [← sent, answers]
  exact ⟨rfl, answered⟩

/-- R81: a channel that owes no open and is not RELEASING is rewritten, and its group follows. -/
theorem changed_wrought {c : Chan} {x : Channel} {s u : State} (base : Wrought c (s.chan c) s u)
    (groups : ∀ g, u.group g = s.group g) (cfg : x.cfg = (s.chan c).cfg) (occupant : x.occupant = (s.chan c).occupant)
    (none : x.pendingOpen = none) (notReleasing : isReleasing x.claim = false) :
    let t := work [.changed c] (u.setChan c x)
    Wrought c (occupancyOf x) s t ∧ t.sched = u.sched ∧ t.sessions = u.sessions := by
  intro t
  have follows : t = updateOccupancy c (u.setChan c x) :=
    work_changed (by rwa [State.setChan_chan_same]) (by rwa [State.setChan_chan_same])
  rw [follows]
  exact ⟨(base.setChan occupant).updateOccupancy groups cfg occupant, (updateOccupancy_stands c _).sched,
    updateOccupancy_sessions c _⟩

theorem occupancyOf_opened {ch : Channel} (ungrouped : ch.cfg.group = none → ch.occupant = false) :
    occupancyOf { ch with state := .opened } = { ch with state := .opened, occupant := false } := by
  cases group : ch.cfg.group <;> simp [occupancyOf, occupies, group, ungrouped]

theorem occupancyOf_closed {ch : Channel} (ungrouped : ch.cfg.group = none → ch.occupant = false) :
    occupancyOf { ch with state := .closed } = { ch with state := .closed, occupant := ch.cfg.group.isSome } := by
  cases group : ch.cfg.group <;> simp [occupancyOf, occupies, group, ungrouped]

theorem GroupsFollow.of_left {c : Chan} {u t : State} (h : GroupsFollow c id u t) (left : (t.chan c).occupant = false)
    (g : GroupId) :
    t.group g =
      if (u.chan c).cfg.group = some g ∧ (u.chan c).occupant = true ∧ ∀ d, isOccupant u g d = true → d = c then
        { u.group g with vacated := some u.ltb.pos }
      else u.group g := by
  rw [h g, left]
  simp

/-! ## CLEAR FAULT (R75) -/

theorem holds_iff_held {p : Port} {c : Chan} {s : State} (notReleasing : isReleasing (s.chan c).claim = false) :
    s.holds p c = true ↔ (s.chan c).claim = .held p := by
  unfold State.holds
  cases claim : (s.chan c).claim <;> simp_all [ownerOf, isReleasing]

/-- R75: the checks in their order. -/
theorem clearFaultRefusal_eq {p : Port} {c : Chan} {s : State} (notReleasing : isReleasing (s.chan c).claim = false) :
    clearFaultRefusal p c s =
      if (s.chan c).claim ≠ .held p then some .notOwner
      else if inFault (s.chan c).state = false then some .notFaulted
      else if (s.chan c).cfg.present = true ∧ (s.chan c).feedback = true then some .feedbackClosed
      else none := by
  simp [clearFaultRefusal, ← holds_iff_held notReleasing]

theorem act_clearFault {p : Port} {channel : Byte} {c : Chan} {s : State} (isChan : chanOfByte channel = some c) :
    act p (.clearFault channel) s =
      match clearFaultRefusal p c s with
      | some status => refuse status s
      | none => accept [] (work [.changed c] (s.setChan c { s.chan c with state := .opened })) := by
  show serveClearFault p channel s = _
  unfold serveClearFault
  rw [isChan] <;> rfl

/-- Settles O30: a channel in FAULT owes no open, so the work behind its opening is its occupancy's alone. -/
theorem clearFaultReopens : Obligations.ClearFaultReopens := by
  unfold Obligations.ClearFaultReopens
  intro p seq channel c s can ok isChan notReleasing
  have frame := restartKeepalive_frame p s
  have only := restartKeepalive_only p s
  have base := Wrought.of_sessions c frame
  have serves := act_clearFault (p := p) (s := restartKeepalive p s) isChan
  have checks : clearFaultRefusal p c (restartKeepalive p s) = clearFaultRefusal p c s := by rw [frame]; rfl
  rw [checks, clearFaultRefusal_eq notReleasing] at serves
  obtain ⟨t, sent⟩ : ∃ t, sendRequest p seq (.clearFault channel) s = t := ⟨_, rfl⟩
  refine ⟨t, congrArg Host.Outcome.next sent, ?_⟩
  have refused : ∀ {status}, act p (.clearFault channel) (restartKeepalive p s) = refuse status (restartKeepalive p s) →
      OnlySession p (restarted s.now (s.session p)) s t.sessions
        ∧ t = { s with fronts := t.fronts, sessions := t.sessions } ∧ Answered p seq status [] s t.fronts :=
    fun served => and_left_comm.mp (request_refused can sent served)
  dsimp only
  split_ifs at serves ⊢ with notHeld unfaulted closed
  · exact refused serves
  · exact refused serves
  · exact refused serves
  · have fault : inFault (s.chan c).state = true := by simpa using unfaulted
    rw [base.own] at serves
    obtain ⟨wrought, sched, sessions⟩ := changed_wrought (x := { s.chan c with state := .opened }) base
      (fun g => by rw [frame]; rfl) rfl rfl ((ok.1 c).fault fault) notReleasing
    obtain ⟨same, answered⟩ := request_accepted can sent serves (by rw [wrought.frame]) wrought.now
    generalize work [.changed c] ((restartKeepalive p s).setChan c { s.chan c with state := .opened }) = v at *
    have own := wrought.own
    rw [occupancyOf_opened (ok.1 c).ungrouped] at own
    have stored : v.sched = s.sched := by rw [sched, frame]
    have whole := wrought.frame
    rw [stored] at whole
    have left := wrought.groups.of_left (by rw [own])
    rw [same]
    exact ⟨by rw [← sessions] at only; exact only, congrArg (fun v : State => { v with fronts := t.fronts }) whole,
      wrought.other, own, answered, left⟩

end Sys2Proof.Machine
end

section
/-! O28, O29: SET CHANNEL, its checks, the move of a channel to another group, and the transitions of Table 4-3. -/

namespace Sys2Proof.Machine

/-! ## The fields of the payload (11.6) -/

theorem setWidth_of_stepOf16 {x : BitVec 16} {y : LineStep} (h : stepOf16 x = some y) : y.setWidth 16 = x := by
  unfold stepOf16 at h
  split at h
  · next low =>
    rw [← Option.some.inj h]
    refine BitVec.eq_of_toNat_eq ?_
    rw [BitVec.toNat_setWidth, BitVec.toNat_setWidth]
    omega
  · cases h

theorem groupCode_of_groupOfByte : ∀ {b : Byte} {g : Option GroupId}, groupOfByte b = some g → groupCode g = b := by
  decide

theorem safeCode_of_safeOfByte : ∀ {b : Byte} {x : SafeState}, safeOfByte b = some x → safeCode x = b := by
  intro b x
  cases x <;> revert b <;> decide

theorem flagByte_of_flagOfByte : ∀ {b : Byte} {x : Bool}, flagOfByte b = some x → flagByte x = b := by decide

/-- 11.6: a configuration stands on the wire as the payload's fields. -/
theorem configOf_fields {a : SetChannelArgs} {g : ChanConfig} (h : configOf a = some g) :
    g.closeLead.setWidth 16 = a.closeLead ∧ g.openLead.setWidth 16 = a.openLead ∧ g.onDwell = a.onDwell
      ∧ g.offDwell = a.offDwell ∧ groupCode g.group = a.group ∧ safeCode g.safe = a.safe
      ∧ flagByte g.present = a.feedback ∧ g.verify = a.verify := by
  simp only [configOf, Option.bind_eq_bind, Option.bind_eq_some_iff, Option.some.injEq] at h
  obtain ⟨closeLead, isClose, openLead, isOpen, group, isGroup, safe, isSafe, present, isPresent, verify, isVerify, rfl⟩ := h
  refine ⟨setWidth_of_stepOf16 isClose, setWidth_of_stepOf16 isOpen, rfl, rfl, groupCode_of_groupOfByte isGroup,
    safeCode_of_safeOfByte isSafe, flagByte_of_flagOfByte isPresent, ?_⟩
  unfold nonzeroByte at isVerify
  split at isVerify
  · cases isVerify
  · exact (Option.some.inj isVerify).symm

/-! ## The checks (R82) -/

/-- R82: the checks in their order. -/
theorem configRefusal_eq (p : Port) (c : Chan) (cfg : ChanConfig) (s : State) :
    configRefusal p c cfg s =
      if s.holds p c = false then some .notOwner
      else if (s.chan c).claim ≠ .held p then some .releasing
      else if s.namesChannel c = true ∨ (s.chan c).pendingOpen ≠ none then some .entriesPending
      else if cfg.group ≠ (s.chan c).cfg.group ∧ (s.chan c).drive = true then some .driveOn
      else none := by
  have releasing : s.holds p c = true → (isReleasing (s.chan c).claim = true ↔ (s.chan c).claim ≠ .held p) := by
    unfold State.holds
    cases (s.chan c).claim <;> simp_all [ownerOf, isReleasing]
  unfold configRefusal
  cases holds : s.holds p c with
  | false => rfl
  | true =>
    simp only [Bool.not_true, Bool.false_eq_true, reduceCtorEq, if_false, releasing holds, Bool.or_eq_true,
      Option.isSome_iff_ne_none]

theorem act_setChannel {p : Port} {a : SetChannelArgs} {c : Chan} {g : ChanConfig} {s : State}
    (isChan : chanOfByte a.channel = some c) (isConfig : configOf a = some g) :
    act p (.setChannel a) s =
      match configRefusal p c g s with
      | some status => refuse status s
      | none => accept [] (configure c g s) := by
  show serveSetChannel p a s = _
  unfold serveSetChannel
  rw [isChan, isConfig] <;> rfl

/-! ## The move to another group (R96) -/

theorem reconfigured_frame (c : Chan) (cfg : ChanConfig) (s : State) :
    reconfigured c cfg s =
      { s with chans := (reconfigured c cfg s).chans, groups := (reconfigured c cfg s).groups } := by
  unfold reconfigured moveGroup
  dsimp only
  split
  · rfl
  · split
    · split <;> rfl
    · rfl

/-- R91: a group that a channel leaves for another is empty when nothing else occupied it. -/
theorem groupOccupied_left {s : State} {c : Chan} {ch : Channel} {g : GroupId} (ungrouped : ch.cfg.group = none) :
    groupOccupied (s.setChan c ch) g = false ↔ ∀ d, isOccupant s g d = true → d = c := by
  simp only [groupOccupied_false, isOccupant_setChan, ungrouped, reduceCtorEq, decide_false, Bool.false_and]
  refine forall_congr' fun d => ?_
  by_cases own : c = d
  · simp [own]
  · simp [own, Ne.symm own]

theorem reconfigured_group (c : Chan) (cfg : ChanConfig) (s : State) (x : GroupId) :
    (reconfigured c cfg s).group x =
      if cfg.group ≠ (s.chan c).cfg.group ∧ (s.chan c).cfg.group = some x ∧ (s.chan c).occupant = true
          ∧ ∀ d, isOccupant s x d = true → d = c then
        { s.group x with vacated := some s.ltb.pos }
      else s.group x := by
  show (moveGroup c cfg.group s).group x = _
  unfold moveGroup
  dsimp only
  by_cases same : cfg.group = (s.chan c).cfg.group
  · rw [if_pos same, if_neg fun h => h.1 same]
  · rw [if_neg same, State.setChan_group]
    cases group : (s.chan c).cfg.group with
    | none => simp
    | some g =>
      have empty := groupOccupied_left (s := s) (c := c) (g := g)
        (ch := { s.chan c with cfg := { (s.chan c).cfg with group := none }, occupant := false }) rfl
      have moves : cfg.group ≠ some g := fun e => same (e.trans group.symm)
      dsimp only
      by_cases leaves : (s.chan c).occupant = true ∧ ∀ d, isOccupant s g d = true → d = c
      · rw [if_pos (by rw [empty.mpr leaves.2, leaves.1]; rfl), vacate, State.setGroup_group]
        by_cases own : g = x
        · subst own
          rw [if_pos rfl, if_pos ⟨moves, rfl, leaves⟩]
          rfl
        · rw [if_neg own, if_neg fun h => own (Option.some.inj h.2.1)]
          rfl
      · rw [if_neg, if_neg]
        · rfl
        · rintro ⟨-, isX, stays⟩
          exact leaves (Option.some.inj isX ▸ stays)
        · simp only [Bool.and_eq_true, Bool.not_eq_true']
          exact fun h => leaves ⟨h.1, empty.mp h.2⟩

/-! ## The transitions of Table 4-3 -/

/-- Table 4-3: feedback turned on over a disagreeing channel. -/
theorem changeFeedbackMode_faults {c : Chan} {v : State} (present : (v.chan c).cfg.present = true)
    (disagrees : (v.chan c).state = .opened ∧ (v.chan c).feedback = true
      ∨ (v.chan c).state = .closed ∧ (v.chan c).feedback = false) :
    changeFeedbackMode c false v = enterFault c .uncommanded v := by
  unfold changeFeedbackMode
  rcases disagrees with ⟨state, feedback⟩ | ⟨state, feedback⟩ <;> simp [present, state, feedback]

/-- Table 4-3: feedback turned off under a moving channel. -/
theorem changeFeedbackMode_rests {c : Chan} {v : State} {state : ChanState} (absent : (v.chan c).cfg.present = false)
    (moves : (v.chan c).state = .closing ∧ state = .closed ∨ (v.chan c).state = .opening ∧ state = .opened) :
    changeFeedbackMode c true v =
      work [.changed c] (v.setChan c { v.chan c with state := state, verifyAt := none }) := by
  unfold changeFeedbackMode
  rcases moves with ⟨was, rfl⟩ | ⟨was, rfl⟩ <;> simp [absent, was]

/-- Table 4-3: every other case. -/
theorem changeFeedbackMode_stays {c : Chan} {was : Bool} {v : State}
    (agrees : (v.chan c).cfg.present = was ∨ inFault (v.chan c).state = true
      ∨ (v.chan c).cfg.present = true ∧ ((v.chan c).state = .opened ∧ (v.chan c).feedback = false
          ∨ (v.chan c).state = .closed ∧ (v.chan c).feedback = true)
      ∨ (v.chan c).cfg.present = false ∧ ((v.chan c).state = .opened ∨ (v.chan c).state = .closed)) :
    changeFeedbackMode c was v = v := by
  unfold changeFeedbackMode
  dsimp only
  split <;> simp_all [inFault]

/-- What a change of feedback mode does to a held channel that owes no open, whatever it is. -/
theorem changeFeedbackMode_wrought {c : Chan} {p : Port} {v : State} (was : Bool) (held : (v.chan c).claim = .held p)
    (none : (v.chan c).pendingOpen = none) :
    ∃ ch, Wrought c ch v (changeFeedbackMode c was v) ∧ (changeFeedbackMode c was v).sched = v.sched
      ∧ ch.cfg = (v.chan c).cfg := by
  have self : Wrought c (v.chan c) v v := .of_sessions c rfl
  have faults : ∃ ch, Wrought c ch v (enterFault c .uncommanded v) ∧ (enterFault c .uncommanded v).sched = v.sched
      ∧ ch.cfg = (v.chan c).cfg := by
    obtain ⟨wrought, sched, -⟩ := enterFault_held (cause := .uncommanded) held
      (fun _ _ owes => by rw [none] at owes; cases owes) (by rw [none]; nofun)
    exact ⟨_, wrought, sched, (faultChannel_keeps v.ltb.pos .uncommanded (v.chan c)).1⟩
  have rests : ∀ state, ∃ ch,
      Wrought c ch v (work [.changed c] (v.setChan c { v.chan c with state := state, verifyAt := Option.none }))
      ∧ (work [.changed c] (v.setChan c { v.chan c with state := state, verifyAt := Option.none })).sched = v.sched
      ∧ ch.cfg = (v.chan c).cfg := fun state => by
    obtain ⟨wrought, sched, -⟩ := changed_wrought (x := { v.chan c with state := state, verifyAt := Option.none }) self
      (fun _ => rfl) rfl rfl none (by rw [held]; rfl)
    exact ⟨_, wrought, sched, rfl⟩
  have stays : ∃ ch, Wrought c ch v v ∧ v.sched = v.sched ∧ ch.cfg = (v.chan c).cfg := ⟨_, self, rfl, rfl⟩
  unfold changeFeedbackMode
  dsimp only
  split
  · split
    · exact faults
    · exact stays
  · split
    · exact stays
    · exact faults
  · exact rests _
  · exact rests _
  · exact stays

/-! ## An accepted SET CHANNEL (R83) -/

/-- R83, R96, R122: what an accepted SET CHANNEL has made of `s` before the transition of Table 4-3. -/
structure Reconfigured (p : Port) (c : Chan) (g : ChanConfig) (s v : State) : Prop where
  frame : v = { s with chans := v.chans, groups := v.groups, sessions := v.sessions }
  told : OnlySession p (restarted s.now (s.session p)) s v.sessions
  own : v.chan c = configuredChannel g (s.chan c)
  other : OnlyChannel c s v
  group : ∀ x, v.group x =
    if g.group ≠ (s.chan c).cfg.group ∧ (s.chan c).cfg.group = some x ∧ (s.chan c).occupant = true
        ∧ ∀ d, isOccupant s x d = true → d = c then
      { s.group x with vacated := some s.ltb.pos }
    else s.group x

theorem reconfigured_restarted (p : Port) (c : Chan) (g : ChanConfig) (s : State) :
    Reconfigured p c g s (reconfigured c g (restartKeepalive p s)) := by
  have frame := restartKeepalive_frame p s
  have only := restartKeepalive_only p s
  generalize restartKeepalive p s = u at *
  have chan : ∀ d, u.chan d = s.chan d := fun d => by rw [frame]; rfl
  have vFrame := reconfigured_frame c g u
  refine ⟨?_, ?_, ?_, fun d other => ?_, fun x => ?_⟩
  · rw [vFrame, frame]
  · rw [vFrame]; exact only
  · rw [reconfigured_chan, if_pos rfl, chan]
  · rw [reconfigured_chan, if_neg (Ne.symm other), chan]
  · rw [reconfigured_group, frame]; rfl

/-- R82, R83: a SET CHANNEL that passes its checks. -/
theorem setChannel_accepted {p : Port} {seq : Byte} {a : SetChannelArgs} {c : Chan} {g : ChanConfig} {s t : State}
    (can : CanAct p s) (isChan : chanOfByte a.channel = some c) (isConfig : configOf a = some g)
    (held : (s.chan c).claim = .held p) (none : (s.chan c).pendingOpen = none)
    (passes : configRefusal p c g s = Option.none) (sent : sendRequest p seq (.setChannel a) s = t) :
    ∃ v, Reconfigured p c g s v ∧ t = { changeFeedbackMode c (s.chan c).cfg.present v with fronts := t.fronts }
      ∧ Answered p seq .ok [] s t.fronts := by
  have frame := restartKeepalive_frame p s
  have checks : configRefusal p c g (restartKeepalive p s) = Option.none := by rw [← passes, frame]; rfl
  have present : ((restartKeepalive p s).chan c).cfg.present = (s.chan c).cfg.present := by rw [frame]; rfl
  have serves := act_setChannel (p := p) (s := restartKeepalive p s) isChan isConfig
  rw [checks] at serves
  dsimp only at serves
  rw [configure_eq, present] at serves
  have made := reconfigured_restarted p c g s
  have answers := request_accepted can sent serves
  generalize reconfigured c g (restartKeepalive p s) = v at *
  obtain ⟨ch, wrought, -, -⟩ := changeFeedbackMode_wrought (v := v) (s.chan c).cfg.present (by rw [made.own]; exact held)
    (by rw [made.own]; exact none)
  exact ⟨v, made, answers (by rw [wrought.frame, made.frame]) (by rw [wrought.now, made.frame])⟩

/-! ## O28 -/

/-- Settles O28: the configuration is written in the new group; a transition of Table 4-3 changes the channel, its group and
its owner's session, and no transition is no further change. -/
theorem setChannelConfigures : Obligations.SetChannelConfigures := by
  unfold Obligations.SetChannelConfigures
  intro p seq a c g s can isChan isConfig
  refine ⟨⟨chanOfByte_val isChan, configOf_fields isConfig⟩, ?_⟩
  have serves := act_setChannel (p := p) (s := restartKeepalive p s) isChan isConfig
  have checks : configRefusal p c g (restartKeepalive p s) = configRefusal p c g s := by
    rw [restartKeepalive_frame]; rfl
  have passes := configRefusal_eq p c g s
  rw [checks, passes] at serves
  obtain ⟨t, sent⟩ : ∃ t, sendRequest p seq (.setChannel a) s = t := ⟨_, rfl⟩
  refine ⟨t, congrArg Host.Outcome.next sent, ?_⟩
  dsimp only
  by_cases notOwner : s.holds p c = false
  · rw [if_pos notOwner] at serves ⊢
    exact request_refused can sent serves
  by_cases notHeld : (s.chan c).claim ≠ .held p
  · rw [if_neg notOwner, if_pos notHeld] at serves ⊢
    exact request_refused can sent serves
  by_cases busy : s.namesChannel c = true ∨ (s.chan c).pendingOpen ≠ none
  · rw [if_neg notOwner, if_neg notHeld, if_pos busy] at serves ⊢
    exact request_refused can sent serves
  by_cases driven : g.group ≠ (s.chan c).cfg.group ∧ (s.chan c).drive = true
  · rw [if_neg notOwner, if_neg notHeld, if_neg busy, if_pos driven] at serves ⊢
    exact request_refused can sent serves
  rw [if_neg notOwner, if_neg notHeld, if_neg busy, if_neg driven] at passes ⊢
  obtain ⟨-, none⟩ := not_or.mp busy
  rw [not_not] at notHeld none
  obtain ⟨v, made, same, answered⟩ := setChannel_accepted can isChan isConfig notHeld none passes sent
  obtain ⟨ch, wrought, sched, cfg⟩ := changeFeedbackMode_wrought (v := v) (s.chan c).cfg.present
    (by rw [made.own]; exact notHeld) (by rw [made.own]; exact none)
  have stays := changeFeedbackMode_stays (c := c) (was := (s.chan c).cfg.present) (v := v)
  generalize changeFeedbackMode c (s.chan c).cfg.present v = w at *
  have chan : ∀ d, t.chan d = w.chan d := fun d => by rw [same]; rfl
  refine ⟨answered, ?_, fun d other => ?_, ?_, fun agrees => ?_⟩
  · rw [chan, wrought.own, cfg, made.own]
    rfl
  · rw [chan, wrought.other d other, made.other d other]
  · rw [same]
    exact sched.trans (by rw [made.frame])
  · have still : w = v := stays (by rw [made.own]; exact agrees)
    subst still
    refine ⟨?_, ?_, (chan c).trans made.own, fun x => ?_⟩
    · rw [same]
      exact congrArg (fun v : State => { v with fronts := t.fronts }) made.frame
    · rw [same]
      exact made.told
    · rw [← made.group, same]
      rfl

/-! ## O29 -/

/-- R131: the record of a port whose session is that of `s` but for its own part. -/
theorem OnlySession.trans {p : Port} {r r' : Session} {s t : State} {sessions : Vector Session 3}
    (h : OnlySession p r s t.sessions) (k : OnlySession p r' t sessions) : OnlySession p r' s sessions := by
  rw [OnlySession, show sessions = _ from k, show t.sessions = _ from h]
  simp

theorem OnlySession.own {p : Port} {r : Session} {s t : State} (h : OnlySession p r s t.sessions) : t.session p = r := by
  rw [State.session, show t.sessions = _ from h]
  simp [Vector.get_eq_getElem]

/-- Settles O29: in the same group the configuration is written before the transition, which is an entry to FAULT or the
channel's coming to rest. -/
theorem feedbackModeTransitions : Obligations.FeedbackModeTransitions := by
  unfold Obligations.FeedbackModeTransitions
  intro p seq a c g s can ok isChan isConfig held unnamed none sameGroup
  obtain ⟨drive, -, -, -, ungrouped, -⟩ := ok.1 c
  have passes : configRefusal p c g s = Option.none := by
    rw [configRefusal_eq, if_neg (by simp [State.holds, held, ownerOf]), if_neg (not_not.mpr held),
      if_neg (by simp [unnamed, none]), if_neg fun h => h.1 sameGroup]
  obtain ⟨t, sent⟩ : ∃ t, sendRequest p seq (.setChannel a) s = t := ⟨_, rfl⟩
  refine ⟨t, congrArg Host.Outcome.next sent, ?_⟩
  obtain ⟨v, made, same, -⟩ := setChannel_accepted can isChan isConfig held none passes sent
  have own : v.chan c = { s.chan c with cfg := g } := by rw [made.own, configuredChannel, if_pos sameGroup]
  have pos : v.ltb.pos = s.ltb.pos := by rw [made.frame]
  have attached : (restarted s.now (s.session p)).attached = true := (restarted_attached _ _).trans can.2
  have heldV : (v.chan c).claim = .held p := by rw [own]; exact held
  have noneV : (v.chan c).pendingOpen = Option.none := by rw [own]; exact none
  dsimp only
  have faulted : (s.chan c).cfg.present = false → g.present = true →
      (s.chan c).state = .opened ∧ (s.chan c).feedback = true ∨ (s.chan c).state = .closed ∧ (s.chan c).feedback = false →
      OnlySession p (placeIn s.ltb.pos (.fault c .uncommanded (some p)) (restarted s.now (s.session p))) s t.sessions
        ∧ t.chan c = occupancyOf (faultChannel s.ltb.pos .uncommanded { s.chan c with cfg := g }) :=
    fun was present disagrees => by
      rw [was, changeFeedbackMode_faults (by rw [own]; exact present) (by rw [own]; exact disagrees)] at same
      obtain ⟨wrought, -, told⟩ := enterFault_held (cause := .uncommanded) heldV
        (fun _ _ owes => by rw [noneV] at owes; cases owes) (by rw [noneV]; nofun)
      rw [noneV, made.told.own, received, if_pos attached, pos] at told
      rw [same]
      exact ⟨made.told.trans told, by rw [← own, ← pos]; exact wrought.own⟩
  have rested : ∀ {state}, (s.chan c).cfg.present = true → g.present = false →
      (s.chan c).state = .closing ∧ state = .closed ∨ (s.chan c).state = .opening ∧ state = .opened →
      t.chan c = occupancyOf { s.chan c with cfg := g, state := state, verifyAt := Option.none } :=
    fun {state} was absent moves => by
      rw [was, changeFeedbackMode_rests (by rw [own]; exact absent) (by rw [own]; exact moves)] at same
      obtain ⟨wrought, -, -⟩ := changed_wrought (x := { v.chan c with state := state, verifyAt := Option.none })
        (.of_sessions c (s := v) rfl) (fun _ => rfl) rfl rfl noneV (by rw [heldV]; rfl)
      have chan := wrought.own
      rw [own] at chan
      rw [same, own]
      exact chan
  have vacant : g.group = Option.none → (s.chan c).occupant = false := fun none => ungrouped (sameGroup ▸ none)
  refine ⟨fun h => ?_, fun h => ?_, fun h => ?_, fun h => ?_⟩ <;> simp only [Prod.mk.injEq] at h
  · obtain ⟨was, present, state, feedback⟩ := h
    obtain ⟨told, chan⟩ := faulted was present (.inl ⟨state, feedback⟩)
    have off : (s.chan c).drive = false := by rw [drive, state]; rfl
    rw [chan]
    exact ⟨told, by simp [occupancyOf, faultChannel, off], by simp [occupancyOf, faultChannel, off]⟩
  · obtain ⟨was, present, state, feedback⟩ := h
    obtain ⟨told, chan⟩ := faulted was present (.inr ⟨state, feedback⟩)
    have on : (s.chan c).drive = true := by rw [drive, state]; rfl
    rw [chan]
    refine ⟨⟨told, ?_, ?_⟩, ?_⟩ <;> simp [occupancyOf, faultChannel, driveOff, on]
  · obtain ⟨was, absent, state⟩ := h
    rw [rested was absent (.inl ⟨state, rfl⟩)]
    exact occupancyOf_closed (ch := { s.chan c with cfg := g, verifyAt := Option.none }) vacant
  · obtain ⟨was, absent, state⟩ := h
    rw [rested was absent (.inr ⟨state, rfl⟩)]
    exact occupancyOf_opened (ch := { s.chan c with cfg := g, verifyAt := Option.none }) vacant

end Sys2Proof.Machine
end

section
/-! O50: a feedback change (R66): what the channel makes of it in each state, and where it comes from the level itself. -/

namespace Sys2Proof.Machine

/-! ## The FAULT record of a channel (R73) -/

theorem faultRecord_frame (c : Chan) (cause : FaultCause) (s : State) :
    faultRecord c cause s = { s with sessions := (faultRecord c cause s).sessions } := by
  unfold faultRecord
  dsimp only
  split
  · rw [handTo_eq]; rfl
  · rfl

/-- R73: an entry to FAULT leaves the claim and the occupancy, and clears the pending open. -/
theorem faultChannel_stands (pos : Pos) (cause : FaultCause) (ch : Channel) :
    (faultChannel pos cause ch).claim = ch.claim ∧ (faultChannel pos cause ch).occupant = ch.occupant
      ∧ (faultChannel pos cause ch).pendingOpen = none := by
  unfold faultChannel
  dsimp only
  split <;> exact ⟨rfl, rfl, rfl⟩

/-- R73, R131: the FAULT record goes to the owner. -/
theorem faultRecord_owned {c : Chan} {cause : FaultCause} {s : State} {o : Port} (owner : ownerOf (s.chan c).claim = some o)
    (q : Port) :
    (faultRecord c cause s).session q =
      if q = o then received s.ltb.pos (.fault c cause (some o)) (s.session q) else s.session q := by
  unfold faultRecord
  rw [owner]
  dsimp only
  rw [handTo_eq, State.setSession_session]
  by_cases own : o = q
  · subst own; simp
  · rw [if_neg own, if_neg (Ne.symm own)]

/-- R73, R131: the FAULT record of a FREE channel goes to the subscribers of FAULT. -/
theorem faultRecord_free {c : Chan} {cause : FaultCause} {s : State} (owner : ownerOf (s.chan c).claim = none) (q : Port) :
    (faultRecord c cause s).session q =
      if ((s.session q).attached && (s.session q).subs.fault) = true then
        placeIn s.ltb.pos (.fault c cause none) (s.session q)
      else s.session q := by
  unfold faultRecord
  rw [owner]
  exact State.handToEach_session ..

theorem State.setChan_setChan (s : State) (c : Chan) (x y : Channel) : (s.setChan c x).setChan c y = s.setChan c y := by
  simp [State.setChan]

theorem Wrought.told {c : Chan} {ch : Channel} {s t u : State} (h : Wrought c ch s t)
    (frame : u = { t with sessions := u.sessions }) : Wrought c ch s u where
  frame := by rw [frame, h.frame]
  own := by rw [frame]; exact h.own
  other d ne := by rw [frame]; exact h.other d ne
  groups g := by rw [frame]; exact h.groups g

theorem Wrought.unstored {c : Chan} {ch : Channel} {s t : State} (h : Wrought c ch s t) (sched : t.sched = s.sched) :
    OnlyChannel c s t ∧ t = { s with chans := t.chans, groups := t.groups, sessions := t.sessions }
      ∧ GroupsFollow c id s t := by
  have frame := h.frame
  rw [sched] at frame
  exact ⟨h.other, frame, h.groups⟩

/-- R73: an entry to FAULT of a channel that owes no open and is not RELEASING. -/
theorem enterFault_unowed {c : Chan} {cause : FaultCause} {s v : State} (base : Wrought c (v.chan c) s v)
    (same : ∀ g, v.group g = s.group g) (cfg : (v.chan c).cfg = (s.chan c).cfg)
    (occupant : (v.chan c).occupant = (s.chan c).occupant) (none : (v.chan c).pendingOpen = none)
    (notReleasing : isReleasing (v.chan c).claim = false) :
    let faulted := faultChannel v.ltb.pos cause (v.chan c)
    let t := enterFault c cause v
    Wrought c (occupancyOf faulted) s t ∧ t.sched = v.sched
      ∧ t.sessions = (faultRecord c cause (v.setChan c faulted)).sessions := by
  intro faulted t
  obtain ⟨claim, kept, noOpen⟩ := faultChannel_stands v.ltb.pos cause (v.chan c)
  obtain ⟨config, -⟩ := faultChannel_keeps v.ltb.pos cause (v.chan c)
  have frame := faultRecord_frame c cause (v.setChan c faulted)
  have own : (faultRecord c cause (v.setChan c faulted)).chan c = faulted := by
    rw [faultRecord_chan, State.setChan_chan_same]
  have entered : t = updateOccupancy c (faultRecord c cause (v.setChan c faulted)) := by
    rw [← work_changed (by rw [own]; exact noOpen) (by rw [own, claim]; exact notReleasing)]
    simp only [t, enterFault, none, faulted]
  rw [entered]
  refine ⟨((base.setChan kept).told frame).updateOccupancy (fun g => ?_) (config.trans cfg) (kept.trans occupant), ?_,
    updateOccupancy_sessions ..⟩
  · rw [frame]; exact same g
  · rw [(updateOccupancy_stands c _).sched, frame]
    rfl

/-- R90: a moving channel is an occupant of the group that it has. -/
theorem ChannelOk.occupant_of_moving {ch : Channel} (h : ChannelOk ch) (moving : movingState ch.state = true) :
    ch.occupant = ch.cfg.group.isSome := by
  cases group : ch.cfg.group with
  | none => exact h.ungrouped group
  | some g => exact h.occupies (by rw [group]; rfl) (.inr moving)

/-! ## What a channel makes of its new feedback (R69, R71, R72, R74) -/

/-- R69, R71: the feedback that the movement waits for. -/
theorem feedbackActs_confirms {c : Chan} {closed : Bool} {v : State} {state : ChanState}
    (moves : (v.chan c).state = .closing ∧ closed = true ∧ state = .closed
      ∨ (v.chan c).state = .opening ∧ closed = false ∧ state = .opened) :
    feedbackActs c closed v = confirm c state v := by
  unfold feedbackActs
  rcases moves with ⟨was, rfl, rfl⟩ | ⟨was, rfl, rfl⟩ <;> simp [was]

/-- R72: feedback that disagrees with a channel at rest. -/
theorem feedbackActs_disagrees {c : Chan} {closed : Bool} {v : State} (present : (v.chan c).cfg.present = true)
    (disagrees : (v.chan c).state = .opened ∧ closed = true ∨ (v.chan c).state = .closed ∧ closed = false) :
    feedbackActs c closed v = enterFault c .uncommanded v := by
  unfold feedbackActs
  rcases disagrees with ⟨was, rfl⟩ | ⟨was, rfl⟩ <;> simp [was, present]

/-- R74: in FAULT the occupancy follows. -/
theorem feedbackActs_fault {c : Chan} {closed : Bool} {v : State} {cause : FaultCause}
    (fault : (v.chan c).state = .fault cause) : feedbackActs c closed v = updateOccupancy c v := by
  simp [feedbackActs, fault]

/-- R66: any other change is the feedback's alone. -/
theorem feedbackActs_rests {c : Chan} {closed : Bool} {v : State} (noFault : ∀ cause, (v.chan c).state ≠ .fault cause)
    (notClosed : ¬((v.chan c).state = .closing ∧ closed = true))
    (notOpen : ¬((v.chan c).state = .opening ∧ closed = false))
    (agrees : ¬((v.chan c).cfg.present = true
      ∧ ((v.chan c).state = .opened ∧ closed = true ∨ (v.chan c).state = .closed ∧ closed = false))) :
    feedbackActs c closed v = v := by
  unfold feedbackActs
  cases was : (v.chan c).state <;> simp_all

/-- R66, R69, R71: a movement that the feedback completes, of a channel that owes no open and is not RELEASING. -/
theorem confirm_wrought {c : Chan} {x : Channel} {u : State} (state : ChanState) (cfg : x.cfg = (u.chan c).cfg)
    (occupant : x.occupant = (u.chan c).occupant) (none : x.pendingOpen = none)
    (notReleasing : isReleasing x.claim = false) :
    let t := confirm c state (u.setChan c x)
    Wrought c (occupancyOf { x with state := state, verifyAt := .none }) u t ∧ t.sched = u.sched
      ∧ t.sessions = u.sessions := by
  rw [confirm, State.setChan_chan_same, State.setChan_setChan]
  exact changed_wrought (x := { x with state := state, verifyAt := Option.none }) (.of_sessions c rfl) (fun _ => rfl) cfg
    occupant none notReleasing

/-! ## The level's part (log 4) -/

theorem exec_feedbackChange {c : Chan} {closed : Bool} {after : Nat} {s : State} (running : s.power = .running) :
    exec (.feedbackChange c ⟨closed, after⟩) s =
      .next (levelAfterCounts 4000 after (showFbk c closed) (.fbkLevel c closed) s) := by
  show execFeedbackChange c ⟨closed, after⟩ s = _
  rw [execFeedbackChange, State.whileRunning_running running]
  rfl

/-- R66: a level without an advance at its count is handled at the part that the count leaves. -/
theorem levelAfterCounts_feedback {c : Chan} {closed : Bool} {after : Nat} {s : State}
    (comes : LevelComes 4000 after (showFbk c closed) (.fbkLevel c closed) s)
    (still : advanceWith 4000 after (showFbk c closed) s = false) :
    levelAfterCounts 4000 after (showFbk c closed) (.fbkLevel c closed) s =
      feedbackChange c closed (levelCount 4000 after (showFbk c closed) s) := by
  obtain ⟨running, due, counted⟩ := comes
  by_cases now : after = 0
  · subst now
    exact (levelAfterCounts_zero _ _ _ running).trans (handleDue_due due)
  · obtain ⟨clocked, runningV, noReset, alone⟩ := counted now
    have count : levelCount 4000 after (showFbk c closed) s = nextCount (beforeLevel 4000 after (showFbk c closed) s) :=
      if_neg now
    have advancing : advances (beforeLevel 4000 after (showFbk c closed) s).ltb = false := by
      simpa [advanceWith, now] using still
    rw [count] at noReset alone ⊢
    rw [levelAfterCounts_tick now (by decide) clocked, tick_running runningV, runningCount_step noReset advancing,
      handleAll_alone alone rfl]
    rfl

/-- R66: a level that the channel's feedback has already. -/
theorem handleDue_showFbk_same {c : Chan} {closed : Bool} {s : State} (same : (s.chan c).feedback = closed) :
    handleDue (showFbk c closed 4000 s) (.fbkLevel c closed) = showFbk c closed 4000 s := by
  have idle : isDue (showFbk c closed 4000 s) (.fbkLevel c closed) = false := by
    simp [isDue, showFbk, same]
  rw [handleDue, idle]
  rfl

/-! ## O50 -/

/-- Settles O50: behind the level's count the channel has its new feedback, and does what its state says of it. -/
theorem feedbackChanges : Obligations.FeedbackChanges := by
  unfold Obligations.FeedbackChanges
  intro c closed after s u
  refine ⟨fun running same => ⟨showFbk c closed 4000 s, ?_, rfl, fun d other => ?_, ?_⟩,
    fun comes still ok none notReleasing => ?_⟩
  · rw [exec_feedbackChange running, levelAfterCounts_zero _ _ _ running, handleDue_showFbk_same same]
  · exact State.setChan_chan_ne _ _ (Ne.symm other)
  · rw [showFbk, State.setChan_chan_same]
    exact congrArg (fun run => { s.chan c with fbkRun := run }) (shownFor_full 4000 closed _)
  have changes : (u.chan c).feedback ≠ closed := of_decide_eq_true (Bool.and_eq_true_iff.mp comes.2.1).2
  have served : exec (.feedbackChange c ⟨closed, after⟩) s =
      .next (feedbackActs c closed (u.setChan c { u.chan c with feedback := closed })) := by
    rw [exec_feedbackChange comes.1, levelAfterCounts_feedback comes still]
    exact congrArg Host.Outcome.next (if_neg changes)
  clear_value u
  have okX : ChannelOk { u.chan c with feedback := closed } := (ok.1 c).sampled closed _ _
  obtain ⟨x, isX⟩ : ∃ x : Channel, x = { u.chan c with feedback := closed } := ⟨_, rfl⟩
  have cfg : x.cfg = (u.chan c).cfg := by rw [isX]
  have occupant : x.occupant = (u.chan c).occupant := by rw [isX]
  have noneX : x.pendingOpen = Option.none := by rw [isX]; exact none
  have ownerX : isReleasing x.claim = false := by rw [isX]; exact notReleasing
  have feedback : x.feedback = closed := by rw [isX]
  rw [← isX] at served okX
  refine ⟨_, served, ?_⟩
  rw [← isX]
  clear isX served
  have own : (u.setChan c x).chan c = x := State.setChan_chan_same ..
  have written : Wrought c x u (u.setChan c x) := (Wrought.of_sessions c (s := u) rfl).setChan occupant
  dsimp only
  by_cases closes : x.state = .closing ∧ closed = true
  · rw [feedbackActs_confirms (state := .closed) (by rw [own]; exact .inl ⟨closes.1, closes.2, rfl⟩), if_pos closes]
    obtain ⟨wrought, sched, sessions⟩ := confirm_wrought .closed cfg occupant noneX ownerX
    obtain ⟨other, frame, groups⟩ := wrought.unstored sched
    refine ⟨other, frame, groups, sessions, ?_⟩
    have occupied := okX.occupant_of_moving (by rw [closes.1]; rfl)
    rw [wrought.own, occupancyOf_closed (ch := { x with verifyAt := Option.none }) okX.ungrouped]
    exact congrArg (fun o => { x with state := .closed, verifyAt := Option.none, occupant := o }) occupied.symm
  by_cases opens : x.state = .opening ∧ closed = false
  · rw [feedbackActs_confirms (state := .opened) (by rw [own]; exact .inr ⟨opens.1, opens.2, rfl⟩), if_neg closes,
      if_pos opens]
    obtain ⟨wrought, sched, sessions⟩ := confirm_wrought .opened cfg occupant noneX ownerX
    obtain ⟨other, frame, groups⟩ := wrought.unstored sched
    refine ⟨other, frame, groups, sessions, ?_⟩
    rw [wrought.own]
    exact occupancyOf_opened (ch := { x with verifyAt := Option.none }) okX.ungrouped
  by_cases faults : x.cfg.present = true ∧ (x.state = .opened ∧ closed = true ∨ x.state = .closed ∧ closed = false)
  · rw [feedbackActs_disagrees (by rw [own]; exact faults.1) (by rw [own]; exact faults.2), if_neg closes, if_neg opens,
      if_pos faults]
    obtain ⟨wrought, sched, sessions⟩ := enterFault_unowed (cause := .uncommanded) (s := u) (v := u.setChan c x)
      (by rw [own]; exact written) (fun _ => rfl) (by rw [own]; exact cfg) (by rw [own]; exact occupant)
      (by rw [own]; exact noneX) (by rw [own]; exact ownerX)
    obtain ⟨other, frame, groups⟩ := wrought.unstored sched
    have stopped : x.verifyAt = Option.none := by
      have timer := okX.timer
      rcases faults.2 with ⟨state, -⟩ | ⟨state, -⟩ <;> simpa [state, movingState] using timer
    refine ⟨other, frame, groups, ?_, fun q => ?_⟩
    · rw [wrought.own, own, occupancyOf_fault _ _ _ okX.ungrouped, feedback]
      simp [stopped, noneX]
    · rw [own, State.setChan_setChan] at sessions
      have claim : ((u.setChan c (faultChannel (u.setChan c x).ltb.pos .uncommanded x)).chan c).claim = x.claim := by
        rw [State.setChan_chan_same, (faultChannel_stands ..).1]
      rw [State.session, sessions]
      cases owner : ownerOf x.claim with
      | some o => exact faultRecord_owned (by rw [claim]; exact owner) q
      | none => exact faultRecord_free (by rw [claim]; exact owner) q
  · rw [if_neg closes, if_neg opens, if_neg faults]
    by_cases fault : ∃ cause, x.state = .fault cause
    · obtain ⟨cause, fault⟩ := fault
      rw [feedbackActs_fault (by rw [own]; exact fault)]
      have wrought := written.updateOccupancy (fun _ => rfl) cfg occupant
      obtain ⟨other, frame, groups⟩ := wrought.unstored (updateOccupancy_stands c _).sched
      refine ⟨other, frame, groups, updateOccupancy_sessions .., ?_⟩
      rw [wrought.own, occupancyOf, fault]
      dsimp only
      rw [occupies, fault, feedback]
      cases group : x.cfg.group with
      | none => simp [okX.ungrouped group]
      | some g => rfl
    · rw [feedbackActs_rests (by rw [own]; exact not_exists.mp fault) (by rw [own]; exact closes)
        (by rw [own]; exact opens) (by rw [own]; exact faults)]
      obtain ⟨other, frame, groups⟩ := written.unstored rfl
      refine ⟨other, frame, groups, rfl, ?_⟩
      rw [own]
      cases state : x.state with
      | fault cause => exact absurd ⟨cause, state⟩ fault
      | _ =>
        show x = { x with state := _ }
        rw [← state]

end Sys2Proof.Machine
end

section
/-! O52: supply low and restored (R85 to R87). An entry to low opens the shed channels one behind the other. The work behind
each opening can examine its pending open and drain it, and can fire a repeating entry that the open had DEFERRED; that
entry names the same channel and, with the supply low, closes nothing. -/

namespace Sys2Proof.Machine

/-! ## The work behind shed channels -/

/-- The action belongs to a channel that has been shed, and is no SECOND phase. -/
def NamesShed (done : Chan → Prop) (a : Action) : Prop := isSecond a = false ∧ ∃ c, chanOf a = some c ∧ done c

/-- The task is one of the Schedule's loop or of a channel that has been shed. -/
def ShedTask (done : Chan → Prop) : Task → Prop
  | .examine c => done c
  | .drain c => done c
  | .changed c => done c
  | _ => True

/-- What the opening of the channels `done` of `s` keeps: those channels stay open, the others untouched; an entry that can
fire is of one of them, and a held open's DEFERRED entry of the same channel. -/
structure Shedding (done : Chan → Prop) (s t : State) : Prop where
  keeps : WorkKeeps s t
  reached : ∀ x ∈ t.sched.pending, reached t x = true → NamesShed done x.entry.action
  deferred : ∀ x ∈ t.sched.deferred, ∀ c, heldTag (t.chan c).pendingOpen = some x.entry.tag →
    chanOf x.entry.action = some c
  opened : ∀ c, done c → ((t.chan c).state = .opened ∨ (t.chan c).state = .opening) ∧ (t.chan c).drive = false
    ∧ (t.chan c).changePos = s.ltb.pos
  other : ∀ c, ¬ done c → t.chan c = s.chan c

/-- The channel is where it was, and owes no held open that it did not owe. -/
structure Unmoved (x y : Channel) : Prop where
  state : y.state = x.state
  drive : y.drive = x.drive
  changePos : y.changePos = x.changePos
  owes : ∀ tag, heldTag y.pendingOpen = some tag → heldTag x.pendingOpen = some tag

theorem namesShed_firstPhase {done : Chan → Prop} {a : Action} {c : Chan} (names : chanOf a = some c) (shed : done c) :
    NamesShed done (firstPhase a) :=
  ⟨by cases a <;> rfl, c, (firstPhase_chan a).trans names, shed⟩

theorem shedTask_lastEntryReport {done : Chan → Prop} {a : Action} {c : Chan} (names : chanOf a = some c) (shed : done c)
    (s : State) : ∀ t ∈ lastEntryReport a s, ShedTask done t := fun t h => by
  obtain ⟨d, own, rfl⟩ := lastEntryReport_tasks h
  exact Option.some.inj (names.symm.trans own) ▸ shed

namespace Shedding

variable {done : Chan → Prop} {s t u : State}

/-- Channels stay where they are, and what comes to the pending list is of a shed channel. -/
theorem moved (h : Shedding done s t) (keeps : WorkKeeps t u)
    (pending : ∀ x ∈ u.sched.pending, x ∈ t.sched.pending ∨ NamesShed done x.entry.action)
    (deferred : ∀ x ∈ u.sched.deferred, x ∈ t.sched.deferred)
    (chan : ∀ c, u.chan c = t.chan c ∨ done c ∧ Unmoved (t.chan c) (u.chan c)) : Shedding done s u where
  keeps := h.keeps.trans keeps
  reached x own due := by
    have due : Machine.reached t x = true := by rw [Machine.reached, ← keeps.ltb]; exact due
    exact (pending x own).elim (fun was => h.reached x was due) id
  deferred x own c owes := by
    refine h.deferred x (deferred x own) c ?_
    rcases chan c with same | ⟨-, unmoved⟩
    · exact same ▸ owes
    · exact unmoved.owes _ owes
  opened c shed := by
    rcases chan c with same | ⟨-, unmoved⟩
    · exact same ▸ h.opened c shed
    · rw [unmoved.state, unmoved.drive, unmoved.changePos]
      exact h.opened c shed
  other c notShed := by
    rcases chan c with same | ⟨shed, -⟩
    · exact same.trans (h.other c notShed)
    · exact absurd shed notShed

/-- Only session records are written. -/
theorem told (h : Shedding done s t) (keeps : WorkKeeps t u) (sched : u.sched = t.sched) (chan : ∀ c, u.chan c = t.chan c) :
    Shedding done s u :=
  h.moved keeps (fun _ own => .inl (sched ▸ own)) (fun _ own => sched ▸ own) fun c => .inl (chan c)

/-- Entries leave the store. -/
theorem dropped (h : Shedding done s t) (keeps : WorkKeeps t u) (pending : u.sched.pending ⊆ t.sched.pending)
    (deferred : u.sched.deferred ⊆ t.sched.deferred) (chan : ∀ c, u.chan c = t.chan c) : Shedding done s u :=
  h.moved keeps (fun _ own => .inl (pending own)) (fun _ own => deferred own) fun c => .inl (chan c)

/-- A shed channel is rewritten where it stands. -/
theorem setChan (h : Shedding done s t) {c : Chan} (shed : done c) {x : Channel} (unmoved : Unmoved (t.chan c) x)
    (keeps : WorkKeeps t (t.setChan c x)) : Shedding done s (t.setChan c x) :=
  h.moved keeps (fun _ own => .inl own) (fun _ own => own) fun d => by
    by_cases own : c = d
    · subst own
      exact .inr ⟨shed, by rwa [State.setChan_chan_same]⟩
    · exact .inl (State.setChan_chan_ne _ _ own)

/-- R53: a reinsertion for the next firing. -/
theorem reinsertNext (h : Shedding done s t) {e : Entry} {c : Chan} (names : chanOf e.action = some c) (shed : done c)
    (r : Repeat) (due : Pos) : Shedding done s (Machine.reinsertNext e r due t) := by
  refine h.moved (insertPending_keeps _ _ _ t) (fun x own => ?_) (fun _ own => own) fun _ => .inl rfl
  rcases List.mem_cons.mp ((insertByFire_perm _ _ _).mem_iff.mp own) with rfl | was
  · exact .inr (namesShed_firstPhase names shed)
  · exact .inl was

theorem endFiring (h : Shedding done s t) {e : Entry} {c : Chan} (names : chanOf e.action = some c) (shed : done c)
    (due : Pos) : Shedding done s (Machine.endFiring e due t).1
      ∧ ∀ task ∈ (Machine.endFiring e due t).2, ShedTask done task := by
  refine ⟨?_, fun task own => ?_⟩
  · rw [endFiring_eq]
    cases nextRepeat e with
    | none => exact h
    | some r => exact h.reinsertNext names shed r due
  · obtain ⟨d, chan, rfl⟩ := endFiring_tasks own
    exact Option.some.inj (names.symm.trans chan) ▸ shed

/-- R106: the drain test of a shed channel. -/
theorem drainTest (h : Shedding done s t) {c : Chan} (shed : done c) :
    Shedding done s (Machine.drainTest c t).1 ∧ ∀ task ∈ (Machine.drainTest c t).2, ShedTask done task := by
  have ends : ∀ {v}, Shedding done s v → ∀ cause, Shedding done s (endClaim c cause v) := fun {v} h cause => by
    refine (h.setChan shed (x := { v.chan c with claim := .free, tally := 0 }) ⟨rfl, rfl, rfl, fun _ => id⟩
      (setChan_keeps v c _ rfl rfl rfl)).told (handToOwner_keeps ..) ?_ fun d => ?_
    · exact State.handToOwner_sched ..
    · exact State.handToOwner_chan ..
  unfold Machine.drainTest
  dsimp only
  split
  · exact ⟨h, nofun⟩
  · split
    · refine ⟨ends ?_ _, nofun⟩
      refine Shedding.setChan (t := t.removeWhere (Entry.names c)) ?_ shed ⟨rfl, rfl, rfl, fun _ => id⟩
        (setChan_keeps _ c _ rfl rfl rfl)
      exact h.dropped (removeWhere_keeps _ t) (List.filter_subset_self _) (List.filter_subset_self _) fun _ => rfl
    · split
      · exact ⟨h, nofun⟩
      · split
        · exact ⟨ends h _, nofun⟩
        · exact ⟨ends h _, nofun⟩
        · exact ⟨h.setChan shed ⟨rfl, rfl, rfl, nofun⟩ (setChan_keeps t c _ rfl rfl rfl),
            fun task own => List.mem_singleton.mp own ▸ shed⟩
        · exact ⟨h, nofun⟩

/-- R52: the resolution of a held open that a shed channel owed. -/
theorem resolveDeferred (h : Shedding done s t) {c : Chan} (shed : done c) {tag : Tag} (inLoop : Bool)
    (own : ∀ x ∈ t.sched.deferred, x.entry.tag = tag → chanOf x.entry.action = some c) :
    Shedding done s (Machine.resolveDeferred inLoop tag t).1
      ∧ ∀ task ∈ (Machine.resolveDeferred inLoop tag t).2, ShedTask done task := by
  unfold Machine.resolveDeferred
  split
  · exact ⟨h, nofun⟩
  · next x found =>
    have names := own x (List.mem_of_find?_eq_some found) (of_decide_eq_true (List.find?_some found :))
    have left : Shedding done s { t with
        sched := { t.sched with deferred := t.sched.deferred.filter fun y => decide (y.entry.tag ≠ tag) } } :=
      h.dropped (setSched_keeps _ _ rfl) (List.Subset.refl _) (List.filter_subset_self _) fun _ => rfl
    dsimp only
    split
    · split
      · exact ⟨left, shedTask_lastEntryReport names shed _⟩
      · refine ⟨left.reinsertNext names shed _ _, fun task mem => ?_⟩
        cases inLoop
        · exact List.mem_singleton.mp mem ▸ trivial
        · cases mem
    · exact ⟨left, shedTask_lastEntryReport names shed _⟩

/-- R78: an open of a shed channel changes nothing: it is ALREADY open, or BUSY. -/
theorem openCommand (h : Shedding done s t) {c : Chan} (shed : done c) :
    Machine.openCommand c t = (.already, t) ∨ Machine.openCommand c t = (.refused .busy, t) := by
  obtain ⟨state, -⟩ := h.opened c shed
  have answer : openAnswer t c = .already ∨ openAnswer t c = .refused .busy :=
    state.imp (fun opened => by simp [openAnswer, opened]) fun opening => by simp [openAnswer, opening]
  refine answer.imp (fun answer => ?_) fun answer => ?_
  all_goals rw [openCommand_refused (by rw [answer]; nofun), answer]

/-- R81: the pending open of a shed channel. -/
theorem examinePendingOpen (h : Shedding done s t) {c : Chan} (shed : done c) (inLoop : Bool) :
    Shedding done s (Machine.examinePendingOpen inLoop c t).1
      ∧ ∀ task ∈ (Machine.examinePendingOpen inLoop c t).2, ShedTask done task := by
  have opens := h.openCommand shed
  have cleared : Shedding done s (clearPendingOpen c t) :=
    h.setChan shed (x := { t.chan c with pendingOpen := none }) ⟨rfl, rfl, rfl, nofun⟩ (setChan_keeps t c _ rfl rfl rfl)
  unfold Machine.examinePendingOpen
  split
  · exact ⟨h, nofun⟩
  · next p owes =>
    rcases opens with already | busy
    · rw [already]
      have executed : Shedding done s (executePendingOpen inLoop c p true t).1
          ∧ ∀ task ∈ (executePendingOpen inLoop c p true t).2, ShedTask done task := by
        unfold executePendingOpen
        dsimp only
        split
        · next tag label =>
          refine Shedding.resolveDeferred (cleared.told (handToOwner_keeps ..) (State.handToOwner_sched ..)
            fun d => State.handToOwner_chan ..) shed inLoop fun x mem same => ?_
          rw [State.handToOwner_sched] at mem
          exact h.deferred x mem c (by rw [owes, same]; rfl)
        · exact ⟨cleared, nofun⟩
      refine ⟨executed.1, fun task mem => ?_⟩
      rcases List.mem_append.mp mem with first | drain
      · exact executed.2 task first
      · exact List.mem_singleton.mp drain ▸ shed
    · rw [busy]
      exact ⟨h, nofun⟩

/-- R46 to R49: an entry of a shed channel that is issued with the supply low. -/
theorem issue (h : Shedding done s t) (low : s.supply.low = true) {x : PendingEntry} (names : NamesShed done x.entry.action) :
    Shedding done s (Machine.issue x t).1 ∧ ∀ task ∈ (Machine.issue x t).2, ShedTask done task := by
  obtain ⟨first, c, chan, shed⟩ := names
  have missed : ∀ reason, Shedding done s (issueMissed x reason t).1
      ∧ ∀ task ∈ (issueMissed x reason t).2, ShedTask done task := fun reason =>
    (h.told (handTo_keeps ..) (State.handTo_sched ..) fun d => State.handTo_chan ..).endFiring chan shed x.due
  have low : t.supply.low = true := by rw [h.keeps.supply]; exact low
  unfold Machine.issue
  dsimp only
  split
  · exact missed _
  · split
    · exact missed _
    · next notClosing =>
      have opening : isClosing x.entry.action = false := by simpa [low] using notClosing
      rw [chan, opening]
      dsimp only
      simp only [Bool.false_eq_true, if_false]
      rcases h.openCommand shed with already | busy
      · rw [already]
        have ends : afterDone x (doneRecord x.entry true t) = Machine.endFiring x.entry x.due (doneRecord x.entry true t) := by
          unfold afterDone
          split
          · next pulse => rw [pulse] at opening; cases opening
          · rfl
        show Shedding done s (afterDone x (doneRecord x.entry true t)).1
          ∧ ∀ task ∈ (afterDone x (doneRecord x.entry true t)).2, ShedTask done task
        rw [ends]
        exact (h.told (handTo_keeps ..) (State.handTo_sched ..) fun d => State.handTo_chan ..).endFiring chan shed x.due
      · rw [busy]
        simp only [issueAnswered, first, Bool.false_and, Bool.false_eq_true, if_false]
        exact missed _

theorem fireHead (h : Shedding done s t) (low : s.supply.low = true) :
    Shedding done s (Machine.fireHead t).1 ∧ ∀ task ∈ (Machine.fireHead t).2, ShedTask done task := by
  unfold Machine.fireHead
  split
  · exact ⟨h, nofun⟩
  · next x rest head =>
    split
    · next due =>
      have left : Shedding done s { t with sched := { t.sched with pending := rest } } :=
        h.dropped (setSched_keeps _ _ rfl) (head ▸ List.subset_cons_self x rest) (List.Subset.refl _) fun _ => rfl
      obtain ⟨issued, tasks⟩ := left.issue low (h.reached x (head ▸ List.mem_cons_self) due)
      refine ⟨issued, fun task mem => ?_⟩
      rcases List.mem_append.mp mem with first | loop
      · exact tasks task first
      · exact List.mem_singleton.mp loop ▸ trivial
    · exact ⟨h, nofun⟩

theorem updateOccupancy (h : Shedding done s t) {c : Chan} (shed : done c) :
    Shedding done s (Machine.updateOccupancy c t) := by
  have sched := (updateOccupancy_stands c t).sched
  refine h.moved (updateOccupancy_keeps c t) (fun _ own => .inl (sched ▸ own)) (fun _ own => sched ▸ own) fun d => ?_
  rw [updateOccupancy_chan]
  split
  · next own => exact own ▸ .inr ⟨shed, rfl, rfl, rfl, fun _ => id⟩
  · exact .inl rfl

theorem run (h : Shedding done s t) (low : s.supply.low = true) (inLoop : Bool) {task : Task} (shed : ShedTask done task) :
    Shedding done s (task.run inLoop t).1 ∧ ∀ next ∈ (task.run inLoop t).2, ShedTask done next := by
  cases task with
  | fire => exact h.fireHead low
  | fireOn => exact h.fireHead low
  | examine c => exact h.examinePendingOpen shed inLoop
  | drain c => exact h.drainTest shed
  | changed c =>
    refine ⟨h.updateOccupancy shed, fun task mem => ?_⟩
    rcases List.mem_cons.mp mem with rfl | drain
    · exact shed
    · exact List.mem_singleton.mp drain ▸ shed

theorem runTasks (low : s.supply.low = true) (n : Nat) {tasks : List Task} (h : Shedding done s t)
    (shed : ∀ task ∈ tasks, ShedTask done task) : Shedding done s (Machine.runTasks n tasks t) := by
  induction n generalizing tasks t with
  | zero => exact h
  | succ n ih =>
    cases tasks with
    | nil => exact h
    | cons task rest =>
      obtain ⟨ran, next⟩ := h.run low (rest.contains .fireOn) (shed task List.mem_cons_self)
      rw [runTasks_cons]
      refine ih ran fun task mem => ?_
      rcases List.mem_append.mp mem with first | later
      · exact next task first
      · exact shed task (List.mem_cons_of_mem _ later)

/-- R79: a shed channel that is to be opened again. -/
theorem overrideWork_shed (h : Shedding done s t) {c : Chan} (shed : done c) : Machine.overrideWork c t = t := by
  obtain ⟨state, -⟩ := h.opened c shed
  unfold Machine.overrideWork overrideActs
  rcases state with state | state <;> rw [state] <;> rfl

/-- R79: a channel that is opened by override. -/
theorem overrideOpen (h : Shedding done s t) {c : Chan}
    (command : Commanded c (openedChannel t.now t.ltb.pos (t.chan c)) t u) : Shedding (fun d => done d ∨ d = c) s u := by
  have sched := command.stands.sched
  have ltb := command.stands.keeps.ltb
  refine ⟨h.keeps.trans command.stands.keeps, fun x own due => ?_, fun x own d owes => ?_, fun d shed => ?_,
    fun d notShed => ?_⟩
  · rw [sched] at own
    rw [Machine.reached, ltb] at due
    obtain ⟨first, d, names, shed⟩ := h.reached x own due
    exact ⟨first, d, names, .inl shed⟩
  · rw [sched] at own
    refine h.deferred x own d ?_
    by_cases isC : d = c
    · subst isC
      rw [command.own] at owes
      exact owes
    · rwa [command.other isC] at owes
  · by_cases isC : d = c
    · subst isC
      rw [command.own]
      refine ⟨?_, rfl, congrArg Ltb.pos h.keeps.ltb⟩
      unfold openedChannel
      dsimp only
      split
      · exact .inr rfl
      · exact .inl rfl
    · rw [command.other isC]
      exact h.opened d (shed.resolve_right isC)
  · obtain ⟨notDone, isNotC⟩ := not_or.mp notShed
    rw [command.other isNotC]
    exact h.other d notDone

/-- R79, R86: one more channel is shed. -/
theorem overrideWork (h : Shedding done s t) (low : s.supply.low = true) {c : Chan} (ok : ChannelOk (s.chan c))
    (on : (s.chan c).drive = true) : Shedding (fun d => done d ∨ d = c) s (Machine.overrideWork c t) := by
  by_cases shed : done c
  · have same : (fun d => done d ∨ d = c) = done := funext fun d => propext ⟨fun e => e.elim id fun e => e ▸ shed, .inl⟩
    rw [h.overrideWork_shed shed, same]
    exact h
  · have own := h.other c shed
    have command := overrideOpen_commands (s := t) (c := c) (own ▸ ok)
    rw [if_pos (own ▸ on)] at command
    rw [Machine.overrideWork, overrideActs_iff (own ▸ ok), if_pos (own ▸ on)]
    exact (h.overrideOpen command).runTasks low _ fun task mem => List.mem_singleton.mp mem ▸ .inr rfl

end Shedding

/-! ## The groups of shed channels that owe no open -/

/-- R91: no channel enters a group, and a group that its last occupant leaves is vacated; sessions and store stand. -/
structure Emptied (s t : State) : Prop where
  sched : t.sched = s.sched
  sessions : t.sessions = s.sessions
  ltb : t.ltb = s.ltb
  leaves : ∀ g c, isOccupant t g c = true → isOccupant s g c = true
  group : ∀ g, t.group g =
    if (∃ c, isOccupant s g c = true) ∧ ∀ c, isOccupant t g c = false then
      { s.group g with vacated := some s.ltb.pos }
    else s.group g

theorem Emptied.refl (s : State) : Emptied s s where
  sched := rfl
  sessions := rfl
  ltb := rfl
  leaves _ _ := id
  group g := (if_neg fun ⟨⟨c, on⟩, off⟩ => by rw [off c] at on; cases on).symm

theorem Emptied.trans {s t u : State} (h : Emptied s t) (k : Emptied t u) : Emptied s u where
  sched := k.sched.trans h.sched
  sessions := k.sessions.trans h.sessions
  ltb := k.ltb.trans h.ltb
  leaves g c on := h.leaves g c (k.leaves g c on)
  group g := by
    have gone : (∀ c, isOccupant t g c = false) → ∀ c, isOccupant u g c = false := fun none c =>
      Bool.eq_false_iff.mpr fun on => by
        have was := k.leaves g c on
        rw [none c] at was
        cases was
    rw [k.group, h.group, h.ltb]
    by_cases before : ∃ c, isOccupant s g c = true
    · by_cases between : ∀ c, isOccupant t g c = false
      · rw [if_pos (And.intro before between), if_pos (And.intro before (gone between)), if_neg fun e => ?_]
        obtain ⟨c, on⟩ := e.1
        rw [between c] at on
        cases on
      · have some : ∃ c, isOccupant t g c = true := by simpa using between
        simp only [before, between, some, true_and, if_false]
    · have none : ¬∃ c, isOccupant t g c = true := fun ⟨c, on⟩ => before ⟨c, h.leaves g c on⟩
      rw [if_neg fun e => none e.1, if_neg fun e => before e.1, if_neg fun e => before e.1]

/-- R90, R91: a command that takes its channel from its group, if it does anything. -/
theorem Commanded.emptied {c : Chan} {ch : Channel} {s t : State} (h : Commanded c ch s t) (cfg : ch.cfg = (s.chan c).cfg)
    (occupant : ch.cfg.group.isSome = true → ch.occupant = true → (s.chan c).occupant = true) : Emptied s t := by
  have same : ∀ g d, d ≠ c → isOccupant t g d = isOccupant s g d := fun g d other => by
    rw [isOccupant, isOccupant, h.other other]
  have own : ∀ g, isOccupant t g c = (decide ((s.chan c).cfg.group = some g) && ch.occupant) := fun g => by
    rw [isOccupant, h.own, cfg]
  have leaves : ∀ g d, isOccupant t g d = true → isOccupant s g d = true := fun g d on => by
    by_cases isC : d = c
    · subst isC
      rw [own, Bool.and_eq_true, decide_eq_true_eq] at on
      obtain ⟨grouped, on⟩ := on
      rw [isOccupant, occupant (by rw [cfg, grouped]; rfl) on, grouped]
      simp
    · rwa [← same g d isC]
  refine ⟨h.stands.sched, h.sessions, h.stands.keeps.ltb, leaves, fun g => ?_⟩
  rw [h.groups g]
  refine if_congr ⟨fun ⟨grouped, was, isNot, alone⟩ => ⟨⟨c, by simp [isOccupant, grouped, was]⟩, fun d => ?_⟩,
    fun ⟨⟨d, on⟩, off⟩ => ?_⟩ rfl rfl
  · by_cases isC : d = c
    · rw [isC, isOccupant, isNot, Bool.and_false]
    · rw [same g d isC]
      exact Bool.eq_false_iff.mpr fun on => isC (alone d on)
  · have alone : ∀ d, isOccupant s g d = true → d = c := fun d on => by
      by_contra other
      rw [← same g d other, off d] at on
      cases on
    obtain rfl := alone d on
    rw [isOccupant, Bool.and_eq_true, decide_eq_true_eq] at on
    have gone := off d
    rw [own, decide_eq_true on.1, Bool.true_and] at gone
    exact ⟨on.1, on.2, by rw [h.own]; exact gone, alone⟩

theorem updateOccupancy_settled {c : Chan} {s : State} (settled : occupancyOf (s.chan c) = s.chan c) :
    updateOccupancy c s = s := by
  unfold updateOccupancy
  dsimp only
  split
  · rfl
  · next g grouped =>
    have occupied : occupies (s.chan c) = (s.chan c).occupant := by
      have occupant := congrArg Channel.occupant settled
      simpa only [occupancyOf, grouped, Option.isSome_some, if_true] using occupant
    rw [occupied, Bool.and_not_self, Bool.false_and, if_neg Bool.false_ne_true]
    exact State.setChan_self s c

/-- R79, R81: an override open of a channel that owes no open and is not RELEASING. -/
theorem overrideWork_unowed {c : Chan} {s : State} (ok : ChannelOk (s.chan c)) (on : (s.chan c).drive = true)
    (none : (s.chan c).pendingOpen = none) (notReleasing : isReleasing (s.chan c).claim = false) :
    overrideWork c s = overrideOpen c s := by
  have command := overrideOpen_commands ok
  rw [if_pos on] at command
  have own := command.own
  rw [overrideWork, overrideActs_iff ok, if_pos on, work_changed (by rw [own]; exact none) (by rw [own]; exact notReleasing)]
  refine updateOccupancy_settled ?_
  rw [own, ← occupancyOf_enterOpening]
  unfold occupancyOf occupies
  cases (enterOpening s.now (driveOff s.ltb.pos (s.chan c))).cfg.group <;> rfl

/-- R86: the shed channels in turn. -/
theorem Shedding.foldl {s : State} (ok : ∀ c, ChannelOk (s.chan c)) (low : s.supply.low = true) (l : List Chan)
    (on : ∀ c ∈ l, (s.chan c).drive = true) {done : Chan → Prop} {t : State} (h : Shedding done s t) :
    Shedding (fun d => done d ∨ d ∈ l) s (l.foldl (fun s c => Machine.overrideWork c s) t)
      ∧ ((∀ c ∈ l, (s.chan c).pendingOpen = none ∧ isReleasing (s.chan c).claim = false) → Emptied s t →
        Emptied s (l.foldl (fun s c => Machine.overrideWork c s) t)) := by
  induction l generalizing done t with
  | nil => exact ⟨by simpa using h, fun _ => id⟩
  | cons c l ih =>
    have next := h.overrideWork low (ok c) (on c List.mem_cons_self)
    obtain ⟨shedding, emptied⟩ := ih (fun d mem => on d (List.mem_cons_of_mem _ mem)) next
    refine ⟨by simpa only [List.mem_cons, or_assoc, List.foldl_cons] using shedding, fun quiet was => ?_⟩
    refine emptied (fun d mem => quiet d (List.mem_cons_of_mem _ mem)) ?_
    by_cases shed : done c
    · rw [h.overrideWork_shed shed]
      exact was
    · have own := h.other c shed
      obtain ⟨none, notReleasing⟩ := quiet c List.mem_cons_self
      have okT : ChannelOk (t.chan c) := own ▸ ok c
      have onT : (t.chan c).drive = true := own ▸ on c List.mem_cons_self
      have command := overrideOpen_commands okT
      rw [if_pos onT] at command
      rw [overrideWork_unowed okT onT (own ▸ none) (own ▸ notReleasing)]
      exact was.trans (command.emptied rfl fun grouped _ => okT.occupant_of_drive onT grouped)

/-! ## An entry to low (R86) -/

/-- R86: the channel is of the shed set. -/
def isShed (s : State) (c : Chan) : Bool :=
  s.supply.shed && decide ((s.chan c).cfg.safe = .openIt) && (s.chan c).drive

theorem shedSet_eq (s : State) : shedSet s = allChans.filter (isShed s) := by
  unfold shedSet isShed
  cases s.supply.shed <;> simp

/-- R86: the flag is set, and the notice of every port. -/
def lowered (s : State) : State :=
  { s with supply := { s.supply with low := true } }.setNotice fun n => { n with supplyLow := true }

theorem supplyEntry_lowers {s : State} (high : s.supply.low = false) :
    supplyEntry s =
      supplyRecord true (shedSet (lowered s)) ((shedSet (lowered s)).foldl (fun s c => overrideWork c s) (lowered s)) := by
  rw [supplyEntry, if_neg (by rw [high]; decide)]
  rfl

/-- R85, R86, R128: `v` is `s` with the pin's level, the flag and the notices of an entry to low. -/
structure Lowered (s v : State) : Prop where
  frame : v = { s with pins := v.pins, supply := v.supply, sessions := v.sessions }
  low : v.supply.low = true
  shed : v.supply.shed = s.supply.shed
  session : ∀ q, v.session q = { s.session q with notices := { (s.session q).notices with supplyLow := true } }

theorem lowered_shown (s : State) : Lowered s (lowered (showSupply false 400 s)) where
  frame := rfl
  low := rfl
  shed := rfl
  session _ := State.setNotice_session ..

/-- R37: no two channels owe held opens of one tag. -/
theorem heldTag_inj {s : State} (tags : TagsOk s) {c d : Chan} {tag : Tag} (ofC : heldTag (s.chan c).pendingOpen = some tag)
    (ofD : heldTag (s.chan d).pendingOpen = some tag) : d = c := by
  by_contra other
  have cleared : (heldTags s).Perm (tag :: heldTags (clearPendingOpen c s)) :=
    heldTags_perm ofC (by rw [clearPendingOpen, State.setChan_chan_same]; rfl) fun e ne => by
      rw [clearPendingOpen, State.setChan_chan_ne _ _ (Ne.symm ne)]
  have left : tag ∈ heldTags (clearPendingOpen c s) :=
    mem_heldTags (c := d) (by rw [clearPendingOpen, State.setChan_chan_ne _ _ (Ne.symm other)]; exact ofD)
  exact (List.nodup_cons.mp (cleared.nodup_iff.mp (List.nodup_append.mp tags.live).2.1)).1 left

/-- With every entry ahead, nothing has been shed yet. -/
theorem Shedding.start {s : State} (tags : TagsOk s) (ahead : Ahead s.ltb.pos s.sched.pending) :
    Shedding (fun _ => False) s s where
  keeps := .refl s
  reached x own due := absurd (of_decide_eq_true due) (not_le.mpr (ahead x own))
  deferred x own c owes := by
    obtain ⟨d, names, held⟩ := tags.deferred x own
    exact heldTag_inj tags owes held ▸ names
  opened _ := False.elim
  other _ _ := rfl

theorem supplyRecord_session (low : Bool) (shed : List Chan) (s : State) (q : Port) :
    (supplyRecord low shed s).session q = received s.ltb.pos (.supply low shed) (s.session q) := by
  rw [supplyRecord, State.handToAttached, State.handToEach_session, Bool.and_true]
  rfl

theorem received_notices (pos : Pos) (body : EventBody) (r : Session) : (received pos body r).notices = r.notices := by
  unfold received
  split
  · exact (placeIn_keeps pos body r).2.2.2.2.1
  · rfl

/-- R86: an entry to low of a state in which no entry is due. -/
theorem supplyEntry_sheds {s : State} (switching : SwitchingOk s) (tags : TagsOk s)
    (ahead : Ahead s.ltb.pos s.sched.pending) (high : s.supply.low = false) :
    ∃ v u, Lowered s v ∧ supplyEntry (showSupply false 400 s) = supplyRecord true (allChans.filter (isShed s)) u
      ∧ Shedding (fun c => isShed s c = true) v u
      ∧ ((∀ c, isShed s c = true → (s.chan c).pendingOpen = none ∧ isReleasing (s.chan c).claim = false) →
        Emptied v u) := by
  have lowers := supplyEntry_lowers (s := showSupply false 400 s) high
  have is := lowered_shown s
  rw [shedSet_eq] at lowers
  generalize lowered (showSupply false 400 s) = v at lowers is
  have chan : ∀ c, v.chan c = s.chan c := fun c => by rw [is.frame]; rfl
  have same : isShed v = isShed s := funext fun c => by rw [isShed, isShed, is.shed, chan]
  have mem : ∀ c, c ∈ allChans.filter (isShed s) ↔ isShed s c = true := fun c => by
    rw [List.mem_filter, and_iff_right (mem_allChans c)]
  have start : Shedding (fun _ => False) v v := by
    rw [is.frame]
    exact .start ⟨tags.live, tags.entries, tags.deferred, tags.nonzero⟩ ahead
  rw [same] at lowers
  obtain ⟨shedding, emptied⟩ := start.foldl (fun c => chan c ▸ switching.1 c) is.low (allChans.filter (isShed s))
    fun c shed => by
      rw [chan]
      exact (Bool.and_eq_true_iff.mp ((mem c).mp shed)).2
  simp only [false_or, mem, chan] at shedding emptied
  exact ⟨v, _, is, lowers, shedding, fun quiet => emptied quiet (.refl _)⟩

/-- R91: what an entry to low makes of the groups. -/
theorem Emptied.group_lowered {s v u : State} (is : Lowered s v) (h : Emptied v u) (g : GroupId) :
    u.group g =
      if (∃ c, isOccupant s g c = true) ∧ ∀ c, isOccupant u g c = false then
        { s.group g with vacated := some s.ltb.pos }
      else s.group g := by
  rw [h.group, is.frame]
  rfl

/-! ## O52 -/

/-- Settles O52: an entry to low that finds the flag clear opens the shed channels in turn; every other part is a record and
a flag. -/
theorem supplyLowAndRestored : Obligations.SupplyLowAndRestored := by
  unfold Obligations.SupplyLowAndRestored
  intro s running switching tags ahead only
  have entry : exec .supplyEntryToLow s = .next (supplyEntry (showSupply false 400 s)) := by
    show execSupplyEntryToLow s = _
    rw [execSupplyEntryToLow, State.whileRunning_running running]
    rfl
  have leaving : exec .supplyLeavingLow s = .next (supplyLeaving (showSupply true 400 s)) := by
    show execSupplyLeavingLow s = _
    rw [execSupplyLeavingLow, State.whileRunning_running running]
    rfl
  refine ⟨fun high => ⟨_, entry, ?_⟩, fun low => ⟨_, leaving, ?_⟩, fun low => ⟨_, entry, ?_⟩, fun high => ⟨_, leaving, ?_⟩⟩
  · obtain ⟨v, u, is, entered, shedding, emptied⟩ := supplyEntry_sheds switching tags ahead high
    have keeps := shedding.keeps
    have pos : v.ltb = s.ltb := by rw [is.frame]
    have session : ∀ q, (supplyRecord true (allChans.filter (isShed s)) u).session q =
        received s.ltb.pos (.supply true (allChans.filter (isShed s))) (u.session q) := fun q => by
      rw [supplyRecord_session, keeps.ltb, pos]
    have record : supplyRecord true (allChans.filter (isShed s)) u =
        { u with sessions := (supplyRecord true (allChans.filter (isShed s)) u).sessions } := rfl
    rw [entered]
    generalize supplyRecord true (allChans.filter (isShed s)) u = t at session record
    have chan : ∀ c, t.chan c = u.chan c := fun c => by rw [record]; rfl
    dsimp only
    refine ⟨?_, ?_, fun q => ?_, ?_, ?_, fun c shed => ?_, fun c shed => ?_, fun quiet => ?_⟩
    · rw [record]; exact (congrArg Supply.low keeps.supply).trans is.low
    · rw [record]; exact (congrArg Supply.shed keeps.supply).trans is.shed
    · rw [session, received_notices, (keeps.sessions q).keeps.2.2.2.2.1, is.session]
    · rw [record]; exact keeps.ltb.trans pos
    · rw [record]; exact keeps.sel.trans (by rw [is.frame])
    · rw [chan, ← pos]; exact (shedding.opened c shed).2
    · rw [chan, shedding.other c (Bool.eq_false_iff.mp shed), is.frame]; rfl
    · have emptied := emptied quiet
      refine ⟨?_, fun g => ?_, fun q => ?_⟩
      · have frame := keeps.frame
        rw [emptied.sched, is.frame] at frame
        rw [record, frame]
      · rw [record]
        exact emptied.group_lowered is g
      · rw [session, State.session, emptied.sessions]
        exact congrArg _ (is.session q)
  · have leaves : supplyLeaving (showSupply true 400 s) = supplyRecord false []
        { showSupply true 400 s with supply := { (showSupply true 400 s).supply with low := false } } := if_pos low
    rw [leaves]
    exact ⟨rfl, rfl, rfl, supplyRecord_session false [] _⟩
  · have stays : supplyEntry (showSupply false 400 s) = showSupply false 400 s := if_pos low
    rw [stays]
    rfl
  · have stays : supplyLeaving (showSupply true 400 s) = showSupply true 400 s := if_neg (Bool.eq_false_iff.mp high)
    rw [stays]
    rfl

end Sys2Proof.Machine
end

section
/-! O54: the completion of a drain (R106, R108, R109). -/

namespace Sys2Proof.Machine

/-! ## The completion of a drain -/

/-- R63: nothing is removed, and nothing counted, of a channel that no entry names. -/
theorem removeChannelEntries_of_unnamed {c : Chan} {s : State} (unnamed : s.namesChannel c = false) :
    removeChannelEntries c s = s := by
  have none : countEntries (Entry.names c) s.sched = 0 := by simpa [namesChannel_eq] using unnamed
  unfold removeChannelEntries State.removeWhere
  dsimp only
  rw [none, removeEntries_none none]
  exact State.setChan_self s c

/-- R106: the drain test ends the claim of a RELEASING channel in FAULT, or with nothing left to drain. -/
theorem drainEnds_releasing {c : Chan} {p : Port} {s : State} (releasing : (s.chan c).claim = .releasing p) :
    drainEnds c s = true ↔
      inFault (s.chan c).state = true ∨ s.namesChannel c = false ∧ (s.chan c).pendingOpen = none
        ∧ ((s.chan c).state = .opened ∨ (s.chan c).cfg.safe = .hold) := by
  simp [drainEnds, releasing, isReleasing, and_assoc]

/-- R106: a claim that is not RELEASING has no drain to end. -/
theorem drainEnds_notReleasing {c : Chan} {s : State} (other : ∀ p, (s.chan c).claim ≠ .releasing p) :
    drainEnds c s = false := by
  have notReleasing : isReleasing (s.chan c).claim = false := by
    cases claim : (s.chan c).claim with
    | releasing p => exact absurd claim (other p)
    | free => rfl
    | held p => rfl
  unfold drainEnds
  dsimp only
  rw [notReleasing, Bool.false_and]

/-- R106, R108, R109: either way in which a drain ends, the entries left on the channel go and the claim ends. -/
theorem drainTest_of_drainEnds {c : Chan} {p : Port} {s : State} (releasing : (s.chan c).claim = .releasing p)
    (ends : drainEnds c s = true) : drainTest c s = (completeAtFault c s, []) := by
  by_cases fault : inFault (s.chan c).state = true
  · exact drainTest_fault releasing fault
  · obtain ⟨unnamed, noOpen, final⟩ := ((drainEnds_releasing releasing).mp ends).resolve_left fault
    rw [drainTest_ends releasing (Bool.eq_false_iff.mpr fault) unnamed noOpen final, completeAtFault,
      removeChannelEntries_of_unnamed unnamed]

theorem drainCompletion_ends {c : Chan} {p : Port} {s : State} (releasing : (s.chan c).claim = .releasing p)
    (ends : drainEnds c s = true) : drainCompletion c s = completeAtFault c s := by
  have run : RunsTo 1 [.drain c] s (completeAtFault c s) :=
    drain_runsTo (drainTest_of_drainEnds releasing ends) (.idle nofun)
  rw [drainCompletion, if_pos ends, run.work (by decide)]

/-- R108, R109: the channel, the store and the owner's session at the end of a RELEASING claim. -/
theorem completeAtFault_releasing {c : Chan} {p : Port} {s : State} (releasing : (s.chan c).claim = .releasing p) :
    let n := (s.chan c).tally + countEntries (Entry.names c) s.sched
    completeAtFault c s =
      ((s.removeWhere (Entry.names c)).setChan c { s.chan c with claim := .free, tally := 0 }).setSession p
        (received s.ltb.pos (.claimEnded c .graceful n) (s.session p)) := by
  have own : (removeChannelEntries c s).chan c =
      { s.chan c with tally := (s.chan c).tally + countEntries (Entry.names c) s.sched } := State.setChan_chan_same ..
  unfold completeAtFault
  rw [endClaim_releasing (by rw [own]; exact releasing), handTo_eq, own]
  unfold removeChannelEntries
  rw [State.setChan_setChan]
  rfl

/-- Settles O54: the completion is the drain test's, which in FAULT and out of it removes what names the channel and ends its
claim. -/
theorem drainCompletes : Obligations.DrainCompletes := by
  unfold Obligations.DrainCompletes
  intro c s running ch ended
  have exec : exec (.drainComplete c) s = .next (drainCompletion c s) := by
    show Host.Outcome.next _ = _
    rw [State.whileRunning_running running]
  have ends : ∀ p, ch.claim = .releasing p → drainEnds c s = true → ended (countEntries (Entry.names c) s.sched) p :=
    fun p releasing ends => by
      refine ⟨_, exec, ?_⟩
      rw [drainCompletion_ends releasing ends, completeAtFault_releasing releasing]
      exact ⟨fun d other => State.setChan_chan_ne _ _ (Ne.symm other), rfl, State.setChan_chan_same .., rfl, rfl⟩
  refine ⟨fun p releasing fault => ends p releasing ((drainEnds_releasing releasing).mpr (.inl fault)),
    fun p releasing unnamed noOpen _ final => ?_, fun still => ?_⟩
  · have none : countEntries (Entry.names c) s.sched = 0 := by simpa [namesChannel_eq] using unnamed
    rw [← none]
    exact ends p releasing ((drainEnds_releasing releasing).mpr (.inr ⟨unnamed, noOpen, final⟩))
  · have waits : ¬ drainEnds c s = true := by
      by_cases other : ∀ p, ch.claim ≠ .releasing p
      · exact Bool.eq_false_iff.mp (drainEnds_notReleasing other)
      · obtain ⟨unfaulted, busy⟩ := still.resolve_left other
        obtain ⟨p, releasing⟩ := by simpa using other
        rw [drainEnds_releasing releasing]
        rintro (fault | ⟨unnamed, noOpen, final⟩)
        · exact absurd (unfaulted.symm.trans fault) (by decide)
        · rcases busy with named | owes | ⟨shut, safe⟩
          · exact absurd (unnamed.symm.trans named) (by decide)
          · exact owes noOpen
          · exact final.elim shut fun hold => absurd (safe.symm.trans hold) (by decide)
    rw [exec, drainCompletion, if_neg waits]

end Sys2Proof.Machine
end

section
/-! O25: CLAIM takes its set whole or not at all (R101). And the channel set of a request, as a list and as its bits. -/

namespace Sys2Proof.Machine

/-! ## Channel sets (11.2) -/

theorem putBit_getLsbD {n : Nat} (x : BitVec n) {i j : Nat} (small : j < n) :
    (putBit x i true).getLsbD j = (x.getLsbD j || decide (i = j)) := by
  have mask : (BitVec.ofNat n (2 ^ i)).getLsbD j = decide (i = j) := by
    rw [BitVec.getLsbD_ofNat, Nat.testBit_two_pow, decide_eq_true small, Bool.true_and]
  rw [putBit, if_pos rfl, BitVec.getLsbD_or, mask]

theorem foldl_putBit_getLsbD (l : List Chan) (x : BitVec 16) {j : Nat} (small : j < 16) :
    (l.foldl (fun acc c => putBit acc c.val true) x).getLsbD j = (x.getLsbD j || l.any fun c => decide (c.val = j)) := by
  induction l generalizing x with
  | nil => simp
  | cons c l ih => rw [List.foldl_cons, ih, putBit_getLsbD x small, List.any_cons, Bool.or_assoc]

theorem mem_chansOf {x : BitVec 16} {c : Chan} : c ∈ chansOf x ↔ x.getLsbD c.val = true := by
  rw [chansOf, List.mem_filter, and_iff_right (mem_allChans c)]

theorem chansOf_nodup (x : BitVec 16) : (chansOf x).Nodup := List.Nodup.filter _ (by decide)

/-- A set that names no channel above 11 is the set of its channels. -/
theorem setOf_chansOf {x : BitVec 16} (small : x.toNat < 4096) : setOf (chansOf x) = x := by
  refine BitVec.eq_of_getLsbD_eq fun j bound => ?_
  rw [setOf, foldl_putBit_getLsbD _ _ bound, show (0 : BitVec 16).getLsbD j = false from BitVec.getLsbD_zero,
    Bool.false_or, Bool.eq_iff_iff, List.any_eq_true]
  constructor
  · rintro ⟨c, mem, is⟩
    rw [← of_decide_eq_true is]
    exact mem_chansOf.mp mem
  · intro named
    have isChan : j < 12 := by
      by_contra above
      have low : x.toNat < 2 ^ j := small.trans_le (Nat.pow_le_pow_right (by decide : 0 < 2) (Nat.not_lt.mp above))
      rw [BitVec.getLsbD, Nat.testBit_lt_two_pow low] at named
      cases named
    exact ⟨⟨j, isChan⟩, mem_chansOf.mpr named, decide_eq_true rfl⟩

/-! ## CLAIM (R101) -/

/-- R101: what a CLAIM makes of a channel that it names. -/
def claimedChannel (p : Port) (ch : Channel) : Channel :=
  if ch.claim = .free then { ch with claim := .held p, tally := 0 } else ch

theorem claimChan_eq (p : Port) (s : State) (c : Chan) : claimChan p s c = s.setChan c (claimedChannel p (s.chan c)) := by
  unfold claimChan claimedChannel
  split
  · rfl
  · exact (State.setChan_self s c).symm

theorem claimChans_chan (p : Port) {set : List Chan} (nodup : set.Nodup) (s : State) (c : Chan) :
    (claimChans p set s).chan c = if c ∈ set then claimedChannel p (s.chan c) else s.chan c := by
  unfold claimChans
  rw [funext₂ (claimChan_eq p)]
  exact foldl_records State.chan State.setChan State.setChan_chan (fun _ _ => claimedChannel p) (fun _ _ _ => rfl) set nodup s c

theorem claimChans_frame (p : Port) (set : List Chan) (s : State) :
    claimChans p set s = { s with chans := (claimChans p set s).chans } :=
  foldl_rel (fun a b => b = { a with chans := b.chans }) (fun _ => rfl)
    (fun _ _ c h k => k.trans (congrArg (fun u : State => { u with chans := c.chans }) h)) _
    (fun u c => by rw [claimChan_eq]; rfl) set s

/-- R101: the checks in their order. Behind the first, a RELEASING channel of the set is the port's own. -/
theorem claimRefusal_eq (p : Port) (chans : BitVec 16) (s : State) :
    claimRefusal p (chansOf chans) s =
      if ∃ c q, chans.getLsbD c.val = true ∧ ownerOf (s.chan c).claim = some q ∧ q ≠ p then some .heldByOther
      else if ∃ c, chans.getLsbD c.val = true ∧ (s.chan c).claim = .releasing p then some .releasing
      else none := by
  have other : ∀ c, ((ownerOf (s.chan c).claim).isSome && !s.holds p c) = true ↔
      ∃ q, ownerOf (s.chan c).claim = some q ∧ q ≠ p := fun c => by
    unfold State.holds
    cases ownerOf (s.chan c).claim <;> simp
  unfold claimRefusal
  simp only [List.any_eq_true, mem_chansOf, other, exists_and_left]
  split
  · rfl
  · next own =>
    have releasing : ∀ c, chans.getLsbD c.val = true →
        (isReleasing (s.chan c).claim = true ↔ (s.chan c).claim = .releasing p) := fun c named => by
      cases claim : (s.chan c).claim with
      | free => simp [isReleasing]
      | held q => simp [isReleasing]
      | releasing q =>
        have isP : q = p := by_contra fun differs => own ⟨c, named, q, by rw [claim]; rfl, differs⟩
        simp [isReleasing, isP]
    simp only [and_congr_right_iff.mpr (releasing _)]

theorem act_claim_bad {p : Port} {chans : BitVec 16} {s : State} (bad : chans = 0 ∨ 4096 ≤ chans.toNat) :
    act p (.claim chans) s = refuse .badParameter s := by
  have unread : chanSetOf chans = none := if_neg fun good => bad.elim good.1 good.2.not_ge
  show serveClaim p chans s = _
  unfold serveClaim
  rw [unread]

theorem chanSetOf_good {chans : BitVec 16} (good : ¬ (chans = 0 ∨ 4096 ≤ chans.toNat)) :
    chanSetOf chans = some (chansOf chans) :=
  if_pos ((not_or.mp good).imp_right Nat.lt_of_not_le)

theorem act_claim_refused {p : Port} {chans : BitVec 16} {status : Status} {s : State}
    (good : ¬ (chans = 0 ∨ 4096 ≤ chans.toNat)) (refusal : claimRefusal p (chansOf chans) s = some status) :
    act p (.claim chans) s = refuse status s := by
  show serveClaim p chans s = _
  unfold serveClaim
  rw [chanSetOf_good good]
  dsimp only
  rw [refusal]

theorem act_claim_accepted {p : Port} {chans : BitVec 16} {s : State} (good : ¬ (chans = 0 ∨ 4096 ≤ chans.toNat))
    (passes : claimRefusal p (chansOf chans) s = none) :
    act p (.claim chans) s =
      accept (claimPayload p (freeChans (chansOf chans) s) (claimChans p (chansOf chans) s))
        (claimChans p (chansOf chans) s) := by
  show serveClaim p chans s = _
  unfold serveClaim
  rw [chanSetOf_good good]
  dsimp only
  rw [passes]

/-- Settles O25: the requester's keepalive restart touches no claim, so the checks and the claims are those of `s`. -/
theorem claimAllOrNothing : Obligations.ClaimAllOrNothing := by
  unfold Obligations.ClaimAllOrNothing
  intro p seq chans s can
  have frame := restartKeepalive_frame p s
  have only := restartKeepalive_only p s
  have chan : ∀ c, (restartKeepalive p s).chan c = s.chan c := fun c => by rw [frame]; rfl
  obtain ⟨t, sent⟩ : ∃ t, sendRequest p seq (.claim chans) s = t := ⟨_, rfl⟩
  refine ⟨t, congrArg Host.Outcome.next sent, ?_⟩
  have refused : ∀ {status}, act p (.claim chans) (restartKeepalive p s) = refuse status (restartKeepalive p s) →
      OnlySession p (restarted s.now (s.session p)) s t.sessions
        ∧ t = { s with fronts := t.fronts, sessions := t.sessions } ∧ Answered p seq status [] s t.fronts :=
    fun served => and_left_comm.mp (request_refused can sent served)
  dsimp only
  by_cases bad : chans = 0 ∨ 4096 ≤ chans.toNat
  · rw [if_pos bad]
    exact refused (act_claim_bad bad)
  have checks := claimRefusal_eq p chans (restartKeepalive p s)
  simp only [chan] at checks
  rw [if_neg bad]
  split_ifs at checks ⊢ with others releasing
  · exact refused (act_claim_refused bad checks)
  · exact refused (act_claim_refused bad checks)
  · have serves := act_claim_accepted bad checks
    have claims := claimChans_chan p (chansOf_nodup chans) (restartKeepalive p s)
    have whole := claimChans_frame p (chansOf chans) (restartKeepalive p s)
    generalize claimChans p (chansOf chans) (restartKeepalive p s) = v at *
    obtain ⟨same, answered⟩ := request_accepted can sent serves (by rw [whole, frame]) (by rw [whole, frame])
    have isNow : ∀ c, t.chan c = if chans.getLsbD c.val = true ∧ (s.chan c).claim = .free then
        { s.chan c with claim := .held p, tally := 0 } else s.chan c := fun c => by
      rw [same, ite_and, ← chan c]
      exact (claims c).trans (if_congr mem_chansOf rfl rfl)
    have newly : freeChans (chansOf chans) (restartKeepalive p s) =
        allChans.filter fun c => decide (chans.getLsbD c.val = true ∧ (s.chan c).claim = .free) := by
      simp only [freeChans, chansOf, List.filter_filter, chan, Bool.decide_and, Bool.decide_eq_true, Bool.and_comm]
    rw [newly, claimPayload] at answered
    refine ⟨?_, ?_, isNow, ?_⟩
    · rw [same, whole]; exact only
    · rw [same, whole, frame]
    · rw [same] at answered ⊢
      exact answered

end Sys2Proof.Machine
end

section
/-! The forced release of channels (R110, R115), shared by RELEASE FORCED (O26) and a session end (O19). -/

namespace Sys2Proof.Machine

/-! ## One channel -/

/-- R110 steps 2 to 4: the channel freed, and opened by override if its safe state is OPEN and its drive on. -/
def freedByForce (now : Nat) (pos : Pos) (ch : Channel) : Channel :=
  let free : Channel := { ch with pendingOpen := none, claim := .free }
  if ch.cfg.safe = .openIt ∧ ch.drive = true then openedChannel now pos free else free

/-- R110, R115: the channel behind its forced release: freed, with the tally at 0. -/
def forcedChannel (now : Nat) (pos : Pos) (ch : Channel) : Channel := { freedByForce now pos ch with tally := 0 }

theorem freedByForce_tally (now : Nat) (pos : Pos) (ch : Channel) : (freedByForce now pos ch).tally = ch.tally := by
  unfold freedByForce
  dsimp only
  split <;> rfl

/-- R63: the entries that are counted into the tally do not show in the freed channel. -/
theorem forcedChannel_tallied (now : Nat) (pos : Pos) (ch : Channel) (n : Nat) :
    forcedChannel now pos { ch with tally := n } = forcedChannel now pos ch := by
  unfold forcedChannel freedByForce
  dsimp only
  split <;> rfl

/-- R110: what every forced release leaves. -/
theorem forcedChannel_free (now : Nat) (pos : Pos) (ch : Channel) :
    (forcedChannel now pos ch).claim = .free ∧ (forcedChannel now pos ch).pendingOpen = none
      ∧ (forcedChannel now pos ch).tally = 0 ∧ (forcedChannel now pos ch).cfg = ch.cfg := by
  unfold forcedChannel freedByForce
  dsimp only
  split <;> exact ⟨rfl, rfl, rfl, rfl⟩

/-- R111: safe state HOLD leaves the channel's state and its drive. -/
theorem forcedChannel_hold {ch : Channel} (safe : ch.cfg.safe = .hold) (now : Nat) (pos : Pos) :
    (forcedChannel now pos ch).state = ch.state ∧ (forcedChannel now pos ch).drive = ch.drive := by
  unfold forcedChannel freedByForce
  rw [if_neg fun opens => by rw [safe] at opens; cases opens.1]
  exact ⟨rfl, rfl⟩

/-- R79, R110: safe state OPEN leaves no drive on: the channel is OPEN, or OPENING towards it, or in FAULT as before. -/
theorem forcedChannel_openIt {ch : Channel} (ok : ChannelOk ch) (safe : ch.cfg.safe = .openIt) (now : Nat) (pos : Pos) :
    (forcedChannel now pos ch).drive = false
      ∧ ((forcedChannel now pos ch).state = .opened
        ∨ (forcedChannel now pos ch).state = .opening ∧ ch.cfg.present = true
        ∨ inFault ch.state = true ∧ (forcedChannel now pos ch).state = ch.state) := by
  unfold forcedChannel freedByForce
  by_cases on : ch.drive = true
  · rw [if_pos ⟨safe, on⟩]
    refine ⟨rfl, ?_⟩
    unfold openedChannel
    dsimp only
    split
    · next moving => exact .inr (.inl ⟨rfl, (Bool.and_eq_true_iff.mp moving).1⟩)
    · exact .inl rfl
  · rw [if_neg fun opens => on opens.2]
    have off : ch.drive = false := Bool.eq_false_iff.mpr on
    have undriven : drivenState ch.state = false := ok.drive.symm.trans off
    have moves := ok.present
    refine ⟨off, ?_⟩
    dsimp only
    cases state : ch.state with
    | opened => exact .inl rfl
    | opening => exact .inr (.inl ⟨rfl, moves (by rw [state]; rfl)⟩)
    | fault cause => exact .inr (.inr ⟨rfl, rfl⟩)
    | closing => rw [state] at undriven; cases undriven
    | closed => rw [state] at undriven; cases undriven

/-- R79, R81: an override open with its work, on a channel that owes no open and is not RELEASING. -/
theorem overrideWork_commands {c : Chan} {s : State} (ok : ChannelOk (s.chan c)) (none : (s.chan c).pendingOpen = none)
    (notReleasing : isReleasing (s.chan c).claim = false) :
    Commanded c (if (s.chan c).drive = true then openedChannel s.now s.ltb.pos (s.chan c) else s.chan c) s
      (overrideWork c s) := by
  have same : overrideWork c s = overrideOpen c s := by
    by_cases on : (s.chan c).drive = true
    · exact overrideWork_unowed ok on none notReleasing
    · rw [overrideWork, overrideOpen, overrideActs_iff ok, if_neg on, if_neg on]
  rw [same]
  exact overrideOpen_commands ok

/-- R110 steps 2 to 4: what they change besides groups. -/
theorem freeByForce_frees {c : Chan} {s : State} (ok : ChannelOk (s.chan c)) :
    (∀ d, (freeByForce c s).chan d = if c = d then freedByForce s.now s.ltb.pos (s.chan c) else s.chan d)
      ∧ (freeByForce c s).sched = s.sched ∧ (freeByForce c s).sessions = s.sessions := by
  unfold freeByForce freedByForce
  dsimp only
  cases safe : (s.chan c).cfg.safe with
  | hold =>
    refine ⟨fun d => ?_, rfl, rfl⟩
    simp only [reduceCtorEq, false_and, if_false]
    exact State.setChan_chan ..
  | openIt =>
    have commands := overrideWork_commands (c := c) (s := s.setChan c { s.chan c with pendingOpen := none, claim := .free })
      (by rw [State.setChan_chan_same]; exact ok.unowed .free _) (by rw [State.setChan_chan_same])
      (by rw [State.setChan_chan_same]; rfl)
    rw [State.setChan_chan_same] at commands
    refine ⟨fun d => ?_, commands.stands.sched, commands.sessions⟩
    rw [commands.chan, State.setChan_chan]
    simp only [true_and]
    split <;> rfl

/-! ## The channels of a list -/

/-- Of the channels, those of the list are freed by force and no other is touched. -/
structure Frees (l : List Chan) (s t : State) : Prop where
  keeps : WorkKeeps s t
  chan : ∀ d, t.chan d = if d ∈ l then forcedChannel s.now s.ltb.pos (s.chan d) else s.chan d

theorem Frees.nil (s : State) : Frees [] s s := ⟨.refl s, fun _ => by simp⟩

theorem Frees.one {c : Chan} {s t : State} (keeps : WorkKeeps s t)
    (chan : ∀ d, t.chan d = if c = d then forcedChannel s.now s.ltb.pos (s.chan c) else s.chan d) : Frees [c] s t where
  keeps := keeps
  chan d := by
    rw [chan]
    by_cases isC : c = d
    · simp [isC]
    · simp [isC, Ne.symm isC]

theorem Frees.cons {c : Chan} {l : List Chan} {s u t : State} (first : Frees [c] s u) (fresh : c ∉ l) (rest : Frees l u t) :
    Frees (c :: l) s t where
  keeps := first.keeps.trans rest.keeps
  chan d := by
    rw [rest.chan, first.chan, first.keeps.now, first.keeps.ltb]
    by_cases isC : d = c
    · subst isC
      simp [fresh]
    · simp [isC]

theorem Frees.other {c d : Chan} {s u : State} (first : Frees [c] s u) (ne : d ≠ c) : u.chan d = s.chan d := by
  rw [first.chan, if_neg (by simpa using ne)]

theorem Frees.of_mem {l : List Chan} {s t : State} (h : Frees l s t) {c : Chan} (mem : c ∈ l) :
    t.chan c = forcedChannel s.now s.ltb.pos (s.chan c) := by rw [h.chan, if_pos mem]

theorem Frees.of_not_mem {l : List Chan} {s t : State} (h : Frees l s t) {c : Chan} (fresh : c ∉ l) :
    t.chan c = s.chan c := by rw [h.chan, if_neg fresh]

/-! ## The store without the entries of several channels -/

theorem allEntries_removeEntries (f : Entry → Bool) (d : Schedule) :
    allEntries (removeEntries f d) = (allEntries d).filter fun e => !f e := by
  simp [allEntries, removeEntries, List.filter_map, Function.comp_def]

theorem removeEntries_removeEntries (f g : Entry → Bool) (d : Schedule) :
    removeEntries f (removeEntries g d) = removeEntries (fun e => g e || f e) d := by
  simp [removeEntries, List.filter_filter, Bool.not_or, Bool.and_comm]

/-- An entry names one channel at most, so the count of another's entries stands. -/
theorem countEntries_removeEntries {c d : Chan} (ne : d ≠ c) (x : Schedule) :
    countEntries (Entry.names d) (removeEntries (Entry.names c) x) = countEntries (Entry.names d) x := by
  rw [countEntries, allEntries_removeEntries, List.countP_filter]
  refine List.countP_congr fun e _ => ?_
  have apart : e.names d = true → e.names c = false := fun names => by
    have isD : chanOf e.action = some d := of_decide_eq_true names
    simp [Entry.names, isD, ne]
  simpa using apart

/-! ## RELEASE FORCED (R110) -/

/-- R110: the forced release of a channel of the port: the channel, the store, and the record for its former owner. -/
theorem forcedRelease_frees {p : Port} {c : Chan} {s : State} (ok : ChannelOk (s.chan c)) (held : s.holds p c = true) :
    Frees [c] s (forcedRelease c s) ∧ (forcedRelease c s).sched = removeEntries (Entry.names c) s.sched
      ∧ OnlySession p
          (received s.ltb.pos (.claimEnded c .forced ((s.chan c).tally + countEntries (Entry.names c) s.sched)) (s.session p))
          s (forcedRelease c s).sessions := by
  have keeps := forcedRelease_keeps c s
  have owner : ownerOf (s.chan c).claim = some p := of_decide_eq_true held
  have removed : ∀ d, (removeChannelEntries c s).chan d = if c = d then
      { s.chan c with tally := (s.chan c).tally + countEntries (Entry.names c) s.sched } else s.chan d :=
    fun d => State.setChan_chan ..
  have own := (removed c).trans (if_pos rfl)
  obtain ⟨chan, sched, sessions⟩ :=
    freeByForce_frees (c := c) (s := removeChannelEntries c s) (by rw [own]; exact ok.claimed _ _)
  have kept := (removeChannelEntries_keeps c s).trans (freeByForce_keeps c (removeChannelEntries c s))
  rw [own] at chan
  simp only [forcedRelease, owner, State.handToOwner] at keeps ⊢
  generalize freeByForce c (removeChannelEntries c s) = v at *
  have tally : (v.chan c).tally = (s.chan c).tally + countEntries (Entry.names c) s.sched := by
    rw [chan, if_pos rfl, freedByForce_tally]
  refine ⟨.one keeps fun d => ?_, ?_, ?_⟩
  · rw [State.setChan_chan, State.handTo_chan, State.handTo_chan, chan, chan, if_pos rfl]
    split
    · exact forcedChannel_tallied ..
    · next other => rw [removed, if_neg other]
  · rw [State.setChan_sched, State.handTo_sched, sched]
    rfl
  · have told : OnlySession p (s.session p) s v.sessions := by
      rw [sessions]
      exact sessions_self s p
    rw [tally, kept.ltb]
    exact told.handTo _ _

/-- R104, R110: the forced release of the port's channels of a list, one behind the other. -/
theorem releaseChans_forced {p : Port} (l : List Chan) (nodup : l.Nodup) {s : State} (ok : ∀ c ∈ l, ChannelOk (s.chan c))
    (held : ∀ c ∈ l, s.holds p c = true) (attached : (s.session p).attached = true) :
    let ended := fun (r : Session) (c : Chan) =>
      placeIn s.ltb.pos (.claimEnded c .forced ((s.chan c).tally + countEntries (Entry.names c) s.sched)) r
    Frees l s (releaseChans .forced l s)
      ∧ (releaseChans .forced l s).sched = removeEntries (fun e => l.any fun c => e.names c) s.sched
      ∧ OnlySession p (l.foldl ended (s.session p)) s (releaseChans .forced l s).sessions := by
  induction l generalizing s with
  | nil => exact ⟨.nil s, (removeEntries_none (by simp [countEntries])).symm, sessions_self s p⟩
  | cons c l ih =>
    obtain ⟨fresh, nodup⟩ := List.nodup_cons.mp nodup
    obtain ⟨first, stored, told⟩ := forcedRelease_frees (ok c List.mem_cons_self) (held c List.mem_cons_self)
    rw [received, if_pos attached] at told
    rw [show releaseChans .forced (c :: l) s = releaseChans .forced l (forcedRelease c s) from rfl]
    generalize forcedRelease c s = u at *
    have other : ∀ d ∈ l, u.chan d = s.chan d := fun d mem => first.other (ne_of_mem_of_not_mem mem fresh)
    obtain ⟨rest, emptied, records⟩ := ih nodup (fun d mem => other d mem ▸ ok d (List.mem_cons_of_mem _ mem))
      (fun d mem => (holds_congr (by rw [other d mem])).trans (held d (List.mem_cons_of_mem _ mem)))
      (by rw [told.own, (placeIn_keeps ..).1]; exact attached)
    refine ⟨first.cons fresh rest, ?_, told.trans ?_⟩
    · rw [emptied, stored, removeEntries_removeEntries]
      rfl
    · rw [told.own, first.keeps.ltb] at records
      rw [List.foldl_cons]
      refine Eq.trans records (congrArg (fun r => u.sessions.set p.val r p.isLt) (List.foldl_ext _ _ _ fun r d mem => ?_))
      rw [other d mem, stored, countEntries_removeEntries (ne_of_mem_of_not_mem mem fresh)]

/-- R104: the payload where every channel of the set became FREE. -/
theorem releasePayload_allFree {chans : BitVec 16} {s : State} (small : chans.toNat < 4096)
    (free : ∀ c ∈ chansOf chans, (s.chan c).claim = .free) :
    releasePayload (chansOf chans) s = bytes16 chans ++ [0, 0] := by
  have freed : freeChans (chansOf chans) s = chansOf chans :=
    List.filter_eq_self.mpr fun c mem => decide_eq_true (free c mem)
  have left : (chansOf chans).filter (fun c => isReleasing (s.chan c).claim) = [] :=
    List.filter_eq_nil_iff.mpr fun c mem => by rw [free c mem]; exact Bool.false_ne_true
  rw [releasePayload, freed, left, setOf_chansOf small]
  rfl

theorem act_release_forced {p : Port} {chans : BitVec 16} {s : State} (nonzero : chans ≠ 0) (small : chans.toNat < 4096)
    (held : ∀ c ∈ chansOf chans, s.holds p c = true) :
    act p (.release chans 1) s =
      accept (releasePayload (chansOf chans) (releaseChans .forced (chansOf chans) s))
        (releaseChans .forced (chansOf chans) s) := by
  show serveRelease p chans 1 s = _
  unfold serveRelease
  rw [chanSetOf_good (not_or.mpr ⟨nonzero, Nat.not_le.mpr small⟩),
    show releaseModeOfByte 1 = some .forced from rfl]
  dsimp only
  rw [if_pos (List.all_eq_true.mpr held)]

/-- Settles O26: the channels of the set are freed one behind the other, and none of them meets another's entries. -/
theorem forcedReleaseFrees : Obligations.ForcedReleaseFrees := by
  unfold Obligations.ForcedReleaseFrees
  intro p seq chans s can switching nonzero small held
  have frame := restartKeepalive_frame p s
  have only := restartKeepalive_only p s
  have chan : ∀ c, (restartKeepalive p s).chan c = s.chan c := fun c => by rw [frame]; rfl
  have held : ∀ c ∈ chansOf chans, (restartKeepalive p s).holds p c = true := fun c mem =>
    (holds_congr (by rw [chan])).trans (held c mem)
  have attached : ((restartKeepalive p s).session p).attached = true := by
    rw [only.own, restarted, if_pos can.2]
    exact can.2
  obtain ⟨frees, sched, records⟩ :=
    releaseChans_forced (chansOf chans) (chansOf_nodup chans) (fun c _ => chan c ▸ switching.1 c) held attached
  have serves := act_release_forced nonzero small held
  have framed := frees.keeps.frame
  generalize releaseChans .forced (chansOf chans) (restartKeepalive p s) = v at *
  obtain ⟨t, sent⟩ : ∃ t, sendRequest p seq (.release chans 1) s = t := ⟨_, rfl⟩
  obtain ⟨same, answered⟩ := request_accepted can sent serves (by rw [framed, frame]) (by rw [framed, frame])
  refine ⟨t, congrArg Host.Outcome.next sent, ?_⟩
  have told := only.trans records
  rw [only.own] at told
  rw [frame] at frees sched framed told
  have freed : ∀ c ∈ chansOf chans, t.chan c = forcedChannel s.now s.ltb.pos (s.chan c) := fun c mem => by
    rw [same]
    exact frees.of_mem mem
  dsimp only
  refine ⟨?_, ?_, fun c fresh => ?_, fun c mem => ?_, ?_, ?_⟩
  · rw [same, framed]
  · rw [same, sched]
  · rw [same]; exact frees.of_not_mem fresh
  · obtain ⟨claim, noOpen, tally, cfg⟩ := forcedChannel_free s.now s.ltb.pos (s.chan c)
    rw [freed c mem]
    exact ⟨claim, noOpen, tally, cfg, fun safe => forcedChannel_openIt (switching.1 c) safe _ _,
      fun safe => forcedChannel_hold safe _ _⟩
  · rw [same]; exact told
  · rw [releasePayload_allFree small fun c mem => by rw [frees.of_mem mem]; exact (forcedChannel_free ..).1] at answered
    exact answered

end Sys2Proof.Machine
end

section
/-! O19: a session end (R115, R122, R124, R125, R126). -/

namespace Sys2Proof.Machine

/-! ## The claims of the port (R115) -/

/-- R115: the release of a channel of the port at its session end: no entry, no record. -/
theorem endHold_frees {p : Port} {c : Chan} {s : State} (ok : ChannelOk (s.chan c)) (held : s.holds p c = true) :
    Frees [c] s (endHold p s c) ∧ (endHold p s c).sched = s.sched ∧ (endHold p s c).sessions = s.sessions := by
  obtain ⟨chan, sched, sessions⟩ := freeByForce_frees ok
  have keeps := freeByForce_keeps c s
  unfold endHold
  rw [if_pos held]
  dsimp only
  refine ⟨.one (keeps.trans (setChan_keeps _ c _ (by rfl) (by rfl) (by rfl))) fun d => ?_, sched, sessions⟩
  rw [State.setChan_chan, chan, chan, if_pos rfl]
  split <;> rfl

/-- R115: of the channels of a list, those of the port are released. -/
theorem foldl_endHold_frees (p : Port) (l : List Chan) (nodup : l.Nodup) {s : State} (ok : ∀ c ∈ l, ChannelOk (s.chan c)) :
    Frees (l.filter (s.holds p)) s (l.foldl (endHold p) s) ∧ (l.foldl (endHold p) s).sched = s.sched
      ∧ (l.foldl (endHold p) s).sessions = s.sessions := by
  induction l generalizing s with
  | nil => exact ⟨.nil s, rfl, rfl⟩
  | cons c l ih =>
    obtain ⟨fresh, nodup⟩ := List.nodup_cons.mp nodup
    rw [List.foldl_cons]
    by_cases held : s.holds p c = true
    · obtain ⟨first, sched, sessions⟩ := endHold_frees (ok c List.mem_cons_self) held
      generalize endHold p s c = u at *
      have other : ∀ d ∈ l, u.chan d = s.chan d := fun d mem => first.other (ne_of_mem_of_not_mem mem fresh)
      obtain ⟨rest, restSched, restSessions⟩ := ih nodup fun d mem => other d mem ▸ ok d (List.mem_cons_of_mem _ mem)
      have same : l.filter (u.holds p) = l.filter (s.holds p) :=
        List.filter_congr fun d mem => holds_congr (by rw [other d mem])
      rw [same] at rest
      rw [List.filter_cons_of_pos held]
      exact ⟨first.cons (fun mem => fresh (List.mem_of_mem_filter mem)) rest, restSched.trans sched,
        restSessions.trans sessions⟩
    · rw [List.filter_cons_of_neg held, show endHold p s c = s from if_neg held]
      exact ih nodup fun d mem => ok d (List.mem_cons_of_mem _ mem)

/-! ## The arms of the port (R151) -/

theorem disarmPort_frame (p : Port) (s : State) : disarmPort p s = { s with arms := (disarmPort p s).arms } :=
  foldl_rel (fun a b => b = { a with arms := b.arms }) (fun _ => rfl)
    (fun _ _ c h k => k.trans (congrArg (fun u : State => { u with arms := c.arms }) h)) _ (fun _ _ => rfl) allInputs s

theorem disarmPort_arm_ne {p q : Port} (other : q ≠ p) (s : State) (i : CapInput) : (disarmPort p s).arm q i = s.arm q i :=
  foldl_rel (fun a b => b.arm q i = a.arm q i) (fun _ => rfl) (fun _ _ _ h k => k.trans h) _
    (fun u j => by rw [State.setArm_arm, if_neg fun same => other same.1.symm]) allInputs s

/-! ## The session end (R126) -/

/-- R126: a session end, of a part that no request of the port reaches. -/
theorem sessionEnd_ends {s : State} (ok : ∀ c, ChannelOk (s.chan c)) (p : Port) (cause : EndCause) :
    EndedFor p s (sessionEnd p cause s) ∧ OnlySession p (endOf cause (s.session p)) s (sessionEnd p cause s).sessions
      ∧ (sessionEnd p cause s).fronts = s.fronts := by
  obtain ⟨frees, sched, sessions⟩ := foldl_endHold_frees p allChans (by decide)
    (s := s.removeWhere fun e => decide (e.owner = p)) fun c _ => ok c
  have framed := frees.keeps.frame
  have arms := frees.keeps.arms
  unfold sessionEnd releaseForSessionEnd
  dsimp only
  generalize allChans.foldl (endHold p) (s.removeWhere fun e => decide (e.owner = p)) = v at *
  have disarmed := disarmPort_frame p v
  have idle := disarmPort_arm p v
  have others : ∀ q, q ≠ p → ∀ i, (disarmPort p v).arm q i = v.arm q i := fun q other => disarmPort_arm_ne other v
  generalize disarmPort p v = w at *
  have chan : ∀ c, w.chan c = v.chan c := fun c => by rw [disarmed]; rfl
  have stored : w.sched = removeEntries (fun e => decide (e.owner = p)) s.sched := by rw [disarmed]; exact sched
  have told : w.sessions = s.sessions := by rw [disarmed]; exact sessions
  refine ⟨⟨?_, stored, fun c free => ?_, fun c held => ?_, idle, fun q other i => ?_⟩, ?_, ?_⟩
  · rw [disarmed, framed]; rfl
  · refine (chan c).trans (frees.of_not_mem fun mem => ?_)
    exact Bool.false_ne_true (free.symm.trans (List.mem_filter.mp mem).2)
  · have freed := (chan c).trans (frees.of_mem (List.mem_filter.mpr ⟨mem_allChans c, held⟩))
    obtain ⟨claim, noOpen, tally, cfg⟩ := forcedChannel_free s.now s.ltb.pos (s.chan c)
    rw [State.setSession_chan, freed]
    exact ⟨claim, noOpen, tally, cfg, fun safe => (forcedChannel_openIt (ok c) safe _ _).1,
      fun safe => (forcedChannel_hold safe _ _).symm⟩
  · exact (others q other i).trans (congrArg (fun a => (a.get q).get i) arms)
  · have session : w.session p = s.session p := congrArg (·.get p) told
    rw [session, State.setSession, told]
    rfl
  · rw [disarmed, framed]; rfl

/-! ## From the requester's restart, to the answer -/

/-- R126: a session end leaves of the session records what the request's restart left. -/
theorem EndedFor.of_sessions {p : Port} {s u t : State} (frame : u = { s with sessions := u.sessions })
    (h : EndedFor p u t) : EndedFor p s t := by
  generalize u.sessions = sessions at frame
  subst frame
  exact h

theorem EndedFor.answered {p : Port} {s t : State} (h : EndedFor p s t) (fronts : Vector FrontEnd 3) :
    EndedFor p s { t with fronts := fronts } := by
  obtain ⟨frame, sched, others, own, arms, otherArms⟩ := h
  exact ⟨congrArg (fun t : State => { t with fronts := fronts }) frame, sched, others, own, arms, otherArms⟩

theorem endOf_restarted (cause : EndCause) (now : Nat) (r : Session) : endOf cause (restarted now r) = endOf cause r := by
  unfold restarted endOf
  split <;> rfl

/-- R122, R126: the session end that a request of the port leads to. -/
theorem sessionEnd_requested {s : State} (ok : ∀ c, ChannelOk (s.chan c)) (p : Port) (cause : EndCause) :
    EndedFor p s (sessionEnd p cause (restartKeepalive p s))
      ∧ OnlySession p (endOf cause (s.session p)) s (sessionEnd p cause (restartKeepalive p s)).sessions
      ∧ (sessionEnd p cause (restartKeepalive p s)).fronts = s.fronts := by
  have frame := restartKeepalive_frame p s
  have only := restartKeepalive_only p s
  obtain ⟨ended, told, fronts⟩ := sessionEnd_ends (s := restartKeepalive p s) (by rw [frame]; exact ok) p cause
  rw [only.own, endOf_restarted] at told
  exact ⟨ended.of_sessions frame, only.trans told, fronts.trans (by rw [frame])⟩

theorem act_detach {p : Port} {s : State} (none : ∀ c, s.holds p c = false) :
    act p .detach s = accept [] (sessionEnd p .detached s) := by
  show serveDetach p s = _
  rw [serveDetach, if_neg (by simp [none])]

/-- R125: RESET PORT of an ATTACHED port, and what its response reads. -/
theorem act_resetPort {p : Port} {s : State} (attached : (s.session p).attached = true) :
    act p .resetPort s =
      accept
        [sessionCode ((sessionEnd p .portReset s).session p).attached,
          endCauseCode ((sessionEnd p .portReset s).session p).lastEnd]
        (clearFrameErrors p (sessionEnd p .portReset s)) := by
  show serveResetPort p s = _
  rw [serveResetPort, if_pos attached]
  generalize sessionEnd p .portReset s = v
  rfl

/-- R171: the answer to a request whose effects leave the front ends and the count of `w`. -/
theorem setPending_answered {p : Port} {seq : Byte} {r : Reply} {v w : State} (fronts : v.fronts = w.fronts)
    (now : v.now = w.now) : Answered p seq r.status r.payload w (setPending p (responseOf seq r) v).fronts := by
  have front : v.front p = w.front p := congrArg (·.get p) fronts
  show v.fronts.set p.val _ p.isLt = _
  rw [fronts, front, now]
  rfl

/-- Settles O19: all three are the session end of R126; that of a request finds the keepalive restarted, which it undoes. -/
theorem sessionEnds : Obligations.SessionEnds := by
  unfold Obligations.SessionEnds
  intro p seq s switching attached running
  refine ⟨fun takes noClaims => ?_, fun takes => ?_, fun timed => ?_⟩
  · have can : CanAct p s := ⟨⟨running, takes⟩, attached⟩
    obtain ⟨ended, told, fronts⟩ := sessionEnd_requested switching.1 p .detached
    have serves := act_detach (p := p) (s := restartKeepalive p s) fun c => by
      rw [restartKeepalive_frame]; exact noClaims c
    obtain ⟨t, sent⟩ : ∃ t, sendRequest p seq .detach s = t := ⟨_, rfl⟩
    obtain ⟨same, answered⟩ := request_accepted can sent serves fronts (by rw [ended.1])
    refine ⟨t, congrArg Host.Outcome.next sent, ?_, ?_, answered⟩
    · rw [same]; exact ended.answered _
    · rw [same]; exact told
  · have can : CanAct p s := ⟨⟨running, takes⟩, attached⟩
    obtain ⟨ended, told, fronts⟩ := sessionEnd_requested switching.1 p .portReset
    have still : ((restartKeepalive p s).session p).attached = true := by
      rw [(restartKeepalive_only p s).own, restarted, if_pos attached]
      exact attached
    have serves := act_resetPort still
    rw [told.own] at serves
    have sent := exec_request (seq := seq) (r := .resetPort) can
    rw [serves] at sent
    generalize sessionEnd p .portReset (restartKeepalive p s) = v at *
    have now : v.now = s.now := by rw [ended.1]
    have cleared : (clearFrameErrors p v).fronts = (s.setFront p { s.front p with frameErrors := 0 }).fronts := by
      unfold clearFrameErrors State.setFront State.front
      rw [fronts]
    exact ⟨_, congrArg Host.Outcome.next sent, ended.answered _, told, setPending_answered cleared now⟩
  · obtain ⟨ended, told, fronts⟩ := sessionEnd_ends switching.1 p .expired
    refine ⟨sessionEnd p .expired s, ?_, ended, told, fronts⟩
    obtain ⟨deadline, runs⟩ := Option.isSome_iff_exists.mp timed
    show Host.Outcome.next _ = _
    rw [State.whileRunning_running running, keepaliveExpiry, runs]

end Sys2Proof.Machine
end

section
/-! O3: the session records stay in order. Every part of a step but the session requests and a session end only places
records and sets notices; those few write one record, which is in order again. -/

namespace Sys2Proof.Machine

/-! ## Consecutive numbers (R130) -/

theorem Consecutive.append {next : BitVec 16} {l : List EventRecord} (h : Consecutive next l) (pos : Pos)
    (body : EventBody) : Consecutive (next + 1) (l ++ [{ seq := next, pos := pos, body := body }]) := by
  induction l with
  | nil => rfl
  | cons r l ih =>
    cases l with
    | nil => exact ⟨h, rfl⟩
    | cons r' l =>
      obtain ⟨first, rest⟩ := h
      exact ⟨first, ih rest⟩

theorem Consecutive.of_cons {next : BitVec 16} {r : EventRecord} {l : List EventRecord} (h : Consecutive next (r :: l)) :
    Consecutive next l := by
  cases l with
  | nil => trivial
  | cons r' l => exact h.2

theorem Consecutive.of_append {next : BitVec 16} (older : List EventRecord) {newer : List EventRecord}
    (h : Consecutive next (older ++ newer)) : Consecutive next newer := by
  induction older with
  | nil => exact h
  | cons r l ih => exact ih h.of_cons

/-! ## The keepalive window and the queue after an ACK EVENTS -/

theorem windowEnd_isSome (now : Nat) (keepalive : Byte) :
    (windowEnd now keepalive).isSome = true ↔ keepalive ≠ 0 := by
  unfold windowEnd
  split <;> simp_all

/-- R135: what stays is what is behind the first record that carries the number. -/
theorem afterAck_append {n : BitVec 16} {older newer : List EventRecord} {r : EventRecord}
    (fresh : ∀ x ∈ older, x.seq ≠ n) (carries : r.seq = n) : afterAck n (older ++ r :: newer) = some newer := by
  induction older with
  | nil => exact if_pos carries
  | cons x l ih =>
    obtain ⟨other, fresh⟩ := List.forall_mem_cons.mp fresh
    exact (if_neg other).trans (ih fresh)

/-- R135: no record carries the number. -/
theorem afterAck_of_fresh {n : BitVec 16} {l : List EventRecord} (fresh : ∀ x ∈ l, x.seq ≠ n) : afterAck n l = none := by
  induction l with
  | nil => rfl
  | cons x l ih =>
    obtain ⟨other, fresh⟩ := List.forall_mem_cons.mp fresh
    exact (if_neg other).trans (ih fresh)

/-- R135: at least the record that carries the number leaves the queue. -/
theorem afterAck_removes {n : BitVec 16} {l rest : List EventRecord} (h : afterAck n l = some rest) :
    ∃ older r, l = older ++ r :: rest := by
  induction l with
  | nil => cases h
  | cons x l ih =>
    unfold afterAck at h
    split at h
    · cases h
      exact ⟨[], x, rfl⟩
    · obtain ⟨older, r, e⟩ := ih h
      exact ⟨x :: older, r, congrArg (x :: ·) e⟩

/-- R135, R136, R138: the session record after an ACK EVENTS that makes room in its queue. -/
theorem ackSession_eq (pos : Pos) {rest : List EventRecord} (room : rest.length < 16) (r : Session) :
    ackSession pos rest r =
      let queue := if r.lost = 0 then rest else rest ++ [{ seq := r.nextSeq, pos := pos, body := .loss r.lost }]
      { r with
        queue := queue
        nextSeq := if r.lost = 0 then r.nextSeq else r.nextSeq + 1
        lost := 0
        attn := !queue.isEmpty } := by
  unfold ackSession appendLoss placeIn
  by_cases none : r.lost = 0
  · simp [setAttn, none]
  · simp [setAttn, none, room, Nat.pos_of_ne_zero none]

/-! ## One session record -/

namespace SessionOk

variable {r : Session} (h : SessionOk r)
include h

/-- R128, R129: no clause speaks of the notices. -/
theorem withNotices (n : Notices) : SessionOk (r.withNotices n) :=
  ⟨h.depth, h.numbers, h.lostFull, h.lostMax, h.attnQueue, h.detached, h.timer⟩

/-- R130: records are lost at a full queue alone. -/
theorem lost_eq_zero (short : r.queue.length < 16) : r.lost = 0 :=
  Nat.eq_zero_of_not_pos fun lost => Nat.ne_of_lt short (h.lostFull lost)

/-- R132: a record placed in the queue of an ATTACHED port, or lost at a full one. -/
theorem placeIn (attached : r.attached = true) (pos : Pos) (body : EventBody) : SessionOk (placeIn pos body r) := by
  have on : ¬ r.attached = false := by simp [attached]
  unfold Machine.placeIn
  split
  · next short =>
    exact {
      depth := by simpa using short
      numbers := h.numbers.append pos body
      lostFull := fun lost => absurd (h.lost_eq_zero short) (Nat.ne_of_gt lost)
      lostMax := h.lostMax
      attnQueue := by simp
      detached := fun off => absurd off on
      timer := h.timer }
  · next full =>
    exact {
      depth := h.depth
      numbers := h.numbers
      lostFull := fun _ => Nat.le_antisymm h.depth (Nat.le_of_not_lt full)
      lostMax := Nat.min_le_right _ _
      attnQueue := h.attnQueue
      detached := fun off => absurd off on
      timer := h.timer }

theorem placed {r' : Session} (placed : Placed r r') : SessionOk r' := by
  induction placed with
  | refl => exact h
  | place _ pos body attached ih => exact ih.placeIn attached pos body

/-- R119, R121, R122: a keepalive setting of an ATTACHED port, with its window. -/
theorem timed (attached : r.attached = true) (now : Nat) (keepalive : Byte) (subs : Subs) :
    SessionOk { r with keepalive := keepalive, subs := subs, expireAt := windowEnd now keepalive } where
  depth := h.depth
  numbers := h.numbers
  lostFull := h.lostFull
  lostMax := h.lostMax
  attnQueue := h.attnQueue
  detached := fun off => by simp [attached] at off
  timer := windowEnd_isSome now keepalive

/-- R120: a session that opens numbers its records from 0; a DETACHED port's queue is empty. -/
theorem opened (detached : r.attached = false) (now : Nat) (keepalive : Byte) (subs : Subs) :
    SessionOk
      { r with
        attached := true, keepalive := keepalive, subs := subs, expireAt := windowEnd now keepalive, nextSeq := 0
        lost := 0 } where
  depth := h.depth
  numbers := by rw [(h.detached detached).1]; trivial
  lostFull := fun lost => absurd lost (Nat.lt_irrefl 0)
  lostMax := Nat.zero_le 255
  attnQueue := h.attnQueue
  detached := nofun
  timer := windowEnd_isSome now keepalive

/-- R130: a record in the queue leaves room for another when it goes. -/
theorem room {older newer : List EventRecord} {x : EventRecord} (queue : r.queue = older ++ x :: newer) :
    newer.length < 16 := by
  have depth := h.depth
  rw [queue, List.length_append, List.length_cons] at depth
  omega

/-- R135, R136: an ACK EVENTS. -/
theorem acked {n : BitVec 16} {rest : List EventRecord} (acks : afterAck n r.queue = some rest) (pos : Pos) :
    SessionOk (ackSession pos rest r) := by
  obtain ⟨older, x, queue⟩ := afterAck_removes acks
  have room := h.room queue
  have whole : Consecutive r.nextSeq (older ++ x :: rest) := queue ▸ h.numbers
  have numbers : Consecutive r.nextSeq rest := whole.of_append.of_cons
  have on : ¬ r.attached = false := fun off => by simp [(h.detached off).1] at queue
  rw [ackSession_eq pos room]
  exact {
    depth := by
      dsimp only
      split
      · exact room.le
      · simpa using room
    numbers := by
      dsimp only
      split
      · exact numbers
      · exact numbers.append pos _
    lostFull := fun lost => absurd lost (Nat.lt_irrefl 0)
    lostMax := Nat.zero_le 255
    attnQueue := rfl
    detached := fun off => absurd off on
    timer := h.timer }

end SessionOk

/-- R126: a session that has ended, whatever it was. -/
theorem endedSession_ok (cause : EndCause) (r : Session) : SessionOk (endedSession cause r) := by
  constructor <;> simp [endedSession, Consecutive]

theorem SessionsOk.setSession {s : State} (h : SessionsOk s) (p : Port) {r : Session} (ok : SessionOk r) :
    SessionsOk (s.setSession p r) := fun q => by
  rw [State.setSession_session]
  split
  · exact ok
  · exact h q

/-! ## Parts that only tell -/

/-- Of the session records, nothing has changed but the records placed and the notices. -/
def SessionsTold (s t : State) : Prop := ∀ p, ∃ n, Placed ((s.session p).withNotices n) (t.session p)

theorem SessionsOk.told {s t : State} (h : SessionsOk s) (told : SessionsTold s t) : SessionsOk t := fun p => by
  obtain ⟨n, placed⟩ := told p
  exact ((h p).withNotices n).placed placed

namespace SessionsTold

theorem of_sessions {s t : State} (same : t.sessions = s.sessions) : SessionsTold s t := fun p => by
  have session : t.session p = s.session p := congrArg (·.get p) same
  exact ⟨(s.session p).notices, session ▸ .refl _⟩

theorem refl (s : State) : SessionsTold s s := .of_sessions rfl

theorem of_timebase {s t : State} (h : TimebaseKeeps s t) : SessionsTold s t := h.sessions

theorem of_work {s t : State} (h : WorkKeeps s t) : SessionsTold s t := fun p => (h.sessions p).told

theorem trans {a b c : State} (h : SessionsTold a b) (k : SessionsTold b c) : SessionsTold a c := fun p => by
  obtain ⟨n, first⟩ := h p
  obtain ⟨m, second⟩ := k p
  exact ⟨m, (first.withNotices m).trans second⟩

theorem foldl {α : Type} {f : State → α → State} (turn : ∀ s x, SessionsTold s (f s x)) (l : List α) (s : State) :
    SessionsTold s (l.foldl f s) :=
  foldl_rel SessionsTold refl (fun _ _ _ => trans) f turn l s

/-- A channel is rewritten, with the work that follows. -/
theorem setChan_work (c : Chan) (x : Channel) (tasks : List Task) (s : State) :
    SessionsTold s (work tasks (s.setChan c x)) :=
  (of_sessions (State.setChan_sessions s c x)).trans (.of_work (work_keeps tasks _))

end SessionsTold

theorem offerPosition_told (s : State) : SessionsTold s (offerPosition s) := by
  obtain ⟨k, keeps⟩ := offerPosition_keeps s
  exact SessionsTold.trans (b := { s with draws := k }) (.of_sessions rfl) (.of_work keeps)

theorem setMonitor_test_told (r : RefId) (m : Monitor) (s : State) : SessionsTold s (testStanding (s.setMonitor r m)) :=
  (SessionsTold.of_sessions (State.setMonitor_sessions s r m)).trans (.of_timebase (testStanding_keeps _))

theorem silenceLimitExpiry_told (r : RefId) (s : State) : SessionsTold s (silenceLimitExpiry r s) := by
  unfold silenceLimitExpiry
  split
  · exact setMonitor_test_told r _ s
  · exact .refl s

theorem reportEdge_told (i : CapInput) (d : EdgeDir) (s : State) (p : Port) : SessionsTold s (reportEdge i d s p) := by
  unfold reportEdge
  split
  · exact .refl s
  · split
    · exact (SessionsTold.of_work (handTo_keeps p _ _ s)).trans (.of_sessions rfl)
    · exact .refl s

theorem distributeEdge_told (i : CapInput) (d : EdgeDir) (s : State) : SessionsTold s (distributeEdge i d s) := by
  have offered : ∀ pos u, SessionsTold u (offerTrigger i d pos u) := fun pos u => by
    obtain ⟨-, sched, eq, -⟩ := foldl_triggerEntry pos (u.sched.waiting.filter (triggerMatches i d))
      { u with sched := { u.sched with waiting := u.sched.waiting.filter fun e => !triggerMatches i d e } }
    exact .of_sessions (congrArg State.sessions eq :)
  exact (SessionsTold.foldl (reportEdge_told i d) allPorts s).trans (offered _ _)

theorem feedbackChange_told (c : Chan) (closed : Bool) (s : State) : SessionsTold s (feedbackChange c closed s) := by
  have confirmed : ∀ state u, SessionsTold u (confirm c state u) := fun _ _ => .setChan_work c _ _ _
  have faulted : ∀ u, SessionsTold u (enterFault c .uncommanded u) := fun u => .of_work (enterFault_keeps c _ u)
  unfold feedbackChange
  split
  · exact .refl s
  · refine SessionsTold.trans (b := s.setChan c { s.chan c with feedback := closed }) (.of_sessions rfl) ?_
    unfold feedbackActs
    dsimp only
    split
    · split
      · exact confirmed _ _
      · exact .refl _
    · split
      · exact .refl _
      · exact confirmed _ _
    · split
      · exact faulted _
      · exact .refl _
    · split
      · exact faulted _
      · exact .refl _
    · exact .of_work (updateOccupancy_keeps c _)

theorem verifyExpiry_told (c : Chan) (s : State) : SessionsTold s (verifyExpiry c s) := by
  unfold verifyExpiry
  split
  · exact .of_work (enterFault_keeps c _ s)
  · exact .of_work (enterFault_keeps c _ s)
  · exact .refl s

theorem drainCompletion_told (c : Chan) (s : State) : SessionsTold s (drainCompletion c s) := by
  unfold drainCompletion
  split
  · exact .of_work (work_keeps _ s)
  · exact .refl s

theorem supplyRecord_told (low : Bool) (shed : List Chan) (s : State) : SessionsTold s (supplyRecord low shed s) := by
  unfold supplyRecord State.handToAttached
  exact .of_timebase (handToEach_keeps _ _ _ s)

theorem supplyEntry_told (s : State) : SessionsTold s (supplyEntry s) := by
  have shedding := SessionsTold.foldl (f := fun s c => overrideWork c s) fun s c => .of_work (overrideWork_keeps c s)
  unfold supplyEntry
  dsimp only
  split
  · exact .refl s
  · exact SessionsTold.trans (b := { s with supply := { s.supply with low := true } }) (.of_sessions rfl)
      ((SessionsTold.of_timebase (setNotice_keeps _ _)).trans ((shedding _ _).trans (supplyRecord_told _ _ _)))

theorem supplyLeaving_told (s : State) : SessionsTold s (supplyLeaving s) := by
  unfold supplyLeaving
  split
  · exact SessionsTold.trans (b := { s with supply := { s.supply with low := false } }) (.of_sessions rfl)
      (supplyRecord_told _ _ _)
  · exact .refl s

/-! ## Session end (R126) -/

theorem sessionEnd_inOrder (p : Port) (cause : EndCause) {s : State} (h : SessionsOk s) :
    SessionsOk (sessionEnd p cause s) := by
  have released := (removeWhere_keeps (fun e => decide (e.owner = p)) s).trans (releaseForSessionEnd_keeps p _)
  have disarmed : ∀ u, SessionsTold u (disarmPort p u) := fun u => by
    rw [disarmPort_frame]
    exact .of_sessions rfl
  exact (h.told ((SessionsTold.of_work released).trans (disarmed _))).setSession p (endedSession_ok cause _)

theorem keepaliveExpiry_inOrder (p : Port) {s : State} (h : SessionsOk s) : SessionsOk (keepaliveExpiry p s) := by
  unfold keepaliveExpiry
  split
  · exact sessionEnd_inOrder p _ h
  · exact h

/-! ## Requests -/

theorem moveGroup_sessions (c : Chan) (new : Option GroupId) (s : State) :
    (moveGroup c new s).sessions = s.sessions := by
  unfold moveGroup
  dsimp only
  split
  · rfl
  · split
    · split <;> rfl
    · rfl

theorem changeFeedbackMode_told (c : Chan) (was : Bool) (s : State) : SessionsTold s (changeFeedbackMode c was s) := by
  unfold changeFeedbackMode
  dsimp only
  split
  · split
    · exact .of_work (enterFault_keeps c _ s)
    · exact .refl s
  · split
    · exact .refl s
    · exact .of_work (enterFault_keeps c _ s)
  · exact .setChan_work c _ _ s
  · exact .setChan_work c _ _ s
  · exact .refl s

theorem configure_told (c : Chan) (cfg : ChanConfig) (s : State) : SessionsTold s (configure c cfg s) :=
  (SessionsTold.of_sessions (by rw [State.setChan_sessions, moveGroup_sessions])).trans (changeFeedbackMode_told c _ _)

theorem setDevice_told (d : DeviceSettings) (s : State) : SessionsTold s (setDevice d s) :=
  SessionsTold.trans (b := settingsWritten d s) (.of_sessions rfl) (.of_timebase (setSelector_keeps _ _ _ _))

theorem admitEntry_sessions (p : Port) (q : ScheduleParams) (s : State) :
    (admitEntry p q s).state.sessions = s.sessions := by
  unfold admitEntry
  dsimp only
  split <;> rfl

theorem cancelEntries_told (p : Port) (f : CancelForm) (s : State) : SessionsTold s (cancelEntries p f s).state := by
  obtain ⟨k, drawn⟩ := State.inFreeOrder_state (drainedBy p f s) s
  have left : SessionsTold s ((s.inFreeOrder (drainedBy p f s)).2.removeWhere (cancelled p f)) :=
    .of_sessions (congrArg State.sessions drawn :)
  exact left.trans (.of_work (work_keeps _ _))

/-- A request that writes its own port's session record. -/
def writesSession : Request → Bool
  | .attach _ _ => true
  | .detach => true
  | .resetPort => true
  | .clearNotices _ => true
  | .ackEvents _ => true
  | _ => false

/-- Every other request only tells. -/
theorem act_told {r : Request} (other : writesSession r = false) (p : Port) (s : State) :
    SessionsTold s (act p r s).state := by
  cases r with
  | attach | detach | resetPort | clearNotices | ackEvents => cases other
  | nop | readStatus | readDevice => exact .refl s
  | setDevice a =>
    unfold act serveSetDevice
    dsimp only
    split
    · exact .refl s
    · split
      · exact .refl s
      · exact setDevice_told _ s
  | claim chans =>
    unfold act serveClaim
    dsimp only
    split
    · exact .refl s
    · split
      · exact .refl s
      · exact .of_work (claimChans_keeps p _ s)
  | release chans mode =>
    unfold act serveRelease
    dsimp only
    split
    · split
      · exact .of_work (releaseChans_keeps _ _ s)
      · exact .refl s
    · exact .refl s
  | setChannel a =>
    unfold act serveSetChannel
    dsimp only
    split
    · split
      · exact .refl s
      · exact configure_told _ _ s
    · exact .refl s
  | readChannel c =>
    unfold act serveReadChannel
    dsimp only
    split <;> exact .refl s
  | clearFault c =>
    unfold act serveClearFault
    dsimp only
    split
    · exact .refl s
    · split
      · exact .refl s
      · exact .setChan_work _ _ _ s
  | schedule a =>
    unfold act serveSchedule
    dsimp only
    split
    · exact .refl s
    · split
      · exact .refl s
      · exact .of_sessions (admitEntry_sessions p _ s)
  | cancel form tag channel =>
    unfold act serveCancel
    dsimp only
    split
    · exact .refl s
    · split
      · exact .refl s
      · exact cancelEntries_told p _ s
  | readSchedule start =>
    unfold act serveReadSchedule
    dsimp only
    split <;> exact .refl s
  | armCapture input edge count =>
    unfold act serveArmCapture
    dsimp only
    split
    · exact .of_sessions rfl
    · exact .refl s
  | disarmCapture input =>
    unfold act serveDisarmCapture
    dsimp only
    split
    · exact .of_sessions rfl
    · exact .refl s
  | takeEvents count =>
    unfold act serveTakeEvents
    dsimp only
    split <;> exact .refl s

theorem serveAttach_inOrder (p : Port) (keepalive subs : Byte) {s : State} (h : SessionsOk s) :
    SessionsOk (serveAttach p keepalive subs s).state := by
  unfold serveAttach
  split
  · exact h
  · next set _ =>
    cases attached : (s.session p).attached with
    | true => exact h.setSession p ((h p).timed attached s.now keepalive set)
    | false => exact h.setSession p ((h p).opened attached s.now keepalive set)

theorem serveDetach_inOrder (p : Port) {s : State} (h : SessionsOk s) : SessionsOk (serveDetach p s).state := by
  unfold serveDetach
  split
  · exact h
  · exact sessionEnd_inOrder p _ h

theorem serveResetPort_inOrder (p : Port) {s : State} (h : SessionsOk s) : SessionsOk (serveResetPort p s).state := by
  have ended : SessionsOk (if (s.session p).attached then sessionEnd p .portReset s else s) := by
    split
    · exact sessionEnd_inOrder p _ h
    · exact h
  exact ended

theorem serveClearNotices_inOrder (p : Port) (notices : Byte) {s : State} (h : SessionsOk s) :
    SessionsOk (serveClearNotices p notices s).state := by
  unfold serveClearNotices
  split
  · exact h
  · next named _ => exact h.setSession p ((h p).withNotices (clearNotices named (s.session p).notices))

theorem serveAckEvents_inOrder (p : Port) (number : BitVec 16) {s : State} (h : SessionsOk s) :
    SessionsOk (serveAckEvents p number s).state := by
  unfold serveAckEvents
  dsimp only
  split
  · exact h
  · next acks => exact h.setSession p ((h p).acked acks s.ltb.pos)

theorem act_inOrder (p : Port) (r : Request) {s : State} (h : SessionsOk s) : SessionsOk (act p r s).state := by
  cases r with
  | attach keepalive subs => exact serveAttach_inOrder p keepalive subs h
  | detach => exact serveDetach_inOrder p h
  | resetPort => exact serveResetPort_inOrder p h
  | clearNotices notices => exact serveClearNotices_inOrder p notices h
  | ackEvents number => exact serveAckEvents_inOrder p number h
  | _ => exact h.told (act_told rfl p s)

theorem restartKeepalive_inOrder (p : Port) {s : State} (h : SessionsOk s) : SessionsOk (restartKeepalive p s) := by
  unfold restartKeepalive
  dsimp only
  split
  · next attached => exact h.setSession p ((h p).timed attached s.now _ _)
  · exact h

theorem replyTo_inOrder (p : Port) (b : Received) {s : State} (h : SessionsOk s) : SessionsOk (replyTo p b s).state := by
  have restarted := restartKeepalive_inOrder p h
  cases b with
  | checkError => exact h
  | badRequest => exact restarted
  | good r =>
    unfold replyTo serve
    dsimp only
    split
    · exact act_inOrder p r restarted
    · exact restarted

/-! ## O3 -/

/-- Every part of a step keeps the session records in order. -/
theorem sessionsOk_keptByParts : KeptByParts SessionsOk where
  draws _ _ h := h
  clock _ _ _ h := h
  inputs _ _ _ _ _ _ h := h
  ports _ _ _ _ _ _ _ _ _ h := h
  feedbackRun _ _ _ h := h
  supplyRun _ _ h := h
  accumulator _ h := h
  work s h := h.told (.of_timebase (timebaseWork_keeps s))
  offer s h := h.told (offerPosition_told s)
  edge t s h := h.told (.of_timebase (timebaseEdge_keeps t s))
  monitor r s h := h.told (setMonitor_test_told r _ s)
  silence r s h := h.told (silenceLimitExpiry_told r s)
  capture i d s h := h.told (distributeEdge_told i d s)
  feedback c closed s h := h.told (feedbackChange_told c closed s)
  verify c s h := h.told (verifyExpiry_told c s)
  supplyLow s h := h.told (supplyEntry_told s)
  supplyHigh s h := h.told (supplyLeaving_told s)
  keepalive p _ h := keepaliveExpiry_inOrder p h
  examine c s h := h.told (.of_work (work_keeps [.examine c] s))
  drain c s h := h.told (drainCompletion_told c s)
  reply p b _ h := replyTo_inOrder p b h
  blocks _ _ _ _ _ _ _ p := by
    show SessionOk ((Vector.replicate 3 Session.reset).get p)
    rw [replicate_get]
    exact Session.reset_ok

/-- Settles O3: each part of a step keeps every session record in order, so the step does. -/
theorem sessionsStayInOrder : Obligations.SessionsStayInOrder := by
  unfold Obligations.SessionsStayInOrder
  intro s t h stepped
  exact sessionsOk_keptByParts.step h stepped

end Sys2Proof.Machine
end

section
/-! O18, O20, O21, O22: the requests on a port's own session. Each restarts the keepalive timer of an ATTACHED port, and
then refuses or writes that port's session record. -/

namespace Sys2Proof.Machine

/-! ## A request of a port in either session state -/

theorem restarted_of_attached {now : Nat} {r : Session} (attached : r.attached = true) :
    restarted now r = { r with expireAt := windowEnd now r.keepalive } := if_pos attached

theorem restarted_keeps (now : Nat) (r : Session) :
    (restarted now r).queue = r.queue ∧ (restarted now r).notices = r.notices := by
  unfold restarted
  split <;> exact ⟨rfl, rfl⟩

/-- R122: the timer of a DETACHED port stays stopped. -/
theorem restartKeepalive_detached {p : Port} {s : State} (detached : (s.session p).attached = false) :
    restartKeepalive p s = s := if_neg (by simp [detached])

/-- R155: past the session check. -/
theorem serve_allowed {p : Port} {r : Request} {s : State}
    (allowed : (s.session p).attached = true ∨ allowedDetached r = true) : serve p r s = act p r s :=
  if_pos (Bool.or_eq_true_iff.mpr allowed)

theorem serve_detached {p : Port} {r : Request} {s : State} (detached : (s.session p).attached = false)
    (needs : allowedDetached r = false) : serve p r s = refuse .notAttached s :=
  if_neg (by simp [detached, needs])

/-- R152, R157, R171: the answer of a request that is taken at once, of which the effects leave the front ends of `w`. -/
theorem request_taken {p : Port} {seq : Byte} {r : Request} {reply : Reply} {s t : State} (w : State) (can : CanTake p s)
    (sent : sendRequest p seq r s = t) (served : serve p r (restartKeepalive p s) = reply)
    (fronts : reply.state.fronts = w.fronts) (now : reply.state.now = w.now) :
    t = { reply.state with fronts := t.fronts } ∧ Answered p seq reply.status reply.payload w t.fronts := by
  obtain ⟨running, takes⟩ := can
  have idle : ∀ r n, (s.front p).buffer ≠ .pending r n := fun r n e => by
    rw [e] at takes
    cases takes
  have replied : replyTo p (.good r) s = reply := served
  rw [← sent, sendRequest, State.whileRunning_running running, submit_taken idle (by simp), replied]
  exact ⟨rfl, setPending_answered fronts now⟩

/-- R122: a DETACHED port's request finds no timer to restart. -/
theorem request_detached {p : Port} {seq : Byte} {r : Request} {reply : Reply} {s t : State} (w : State)
    (can : CanTake p s) (detached : (s.session p).attached = false) (sent : sendRequest p seq r s = t)
    (served : serve p r s = reply) (fronts : reply.state.fronts = w.fronts) (now : reply.state.now = w.now) :
    t = { reply.state with fronts := t.fronts } ∧ Answered p seq reply.status reply.payload w t.fronts :=
  request_taken w can sent (by rw [restartKeepalive_detached detached]; exact served) fronts now

/-- R122, R157: the answer of a request of which the effects, with the restart before them, are on one session record. -/
theorem request_rewrites {p : Port} {seq : Byte} {r : Request} {status : Status} {payload : List Byte} {x : Session}
    {s t v : State} (can : CanTake p s) (sent : sendRequest p seq r s = t)
    (served : serve p r (restartKeepalive p s) = { status := status, payload := payload, state := v })
    (frame : v = { s with sessions := v.sessions }) (only : OnlySession p x s v.sessions) :
    t = { s with fronts := t.fronts, sessions := t.sessions }
      ∧ OnlySession p x s t.sessions ∧ Answered p seq status payload s t.fronts := by
  obtain ⟨same, answered⟩ := request_taken s can sent served (by rw [frame]) (by rw [frame])
  rw [frame] at same
  exact ⟨by rw [same], by rw [same]; exact only, answered⟩

/-- R157: a refusal in either session state. -/
theorem request_turned_down {p : Port} {seq : Byte} {r : Request} {status : Status} {s t : State} (can : CanTake p s)
    (sent : sendRequest p seq r s = t)
    (served : serve p r (restartKeepalive p s) = refuse status (restartKeepalive p s)) :
    t = { s with fronts := t.fronts, sessions := t.sessions }
      ∧ OnlySession p (restarted s.now (s.session p)) s t.sessions ∧ Answered p seq status [] s t.fronts :=
  request_rewrites can sent served (restartKeepalive_frame p s) (restartKeepalive_only p s)

/-- A request that writes its port's session record behind the restart. -/
theorem request_writes {p : Port} {seq : Byte} {r : Request} {payload : List Byte} {x : Session} {s t : State}
    (can : CanTake p s) (sent : sendRequest p seq r s = t)
    (served : serve p r (restartKeepalive p s) = accept payload ((restartKeepalive p s).setSession p x)) :
    t = { s with fronts := t.fronts, sessions := t.sessions }
      ∧ OnlySession p x s t.sessions ∧ Answered p seq .ok payload s t.fronts := by
  refine request_rewrites can sent served ?_ ((restartKeepalive_only p s).trans rfl)
  rw [restartKeepalive_frame]
  rfl

/-! ## O18 -/

/-- R119: a good subscription set. -/
theorem subsOf_good {subs : Byte} (small : subs.toNat < 4) :
    subsOf subs = some { timebase := subs.getLsbD 0, fault := subs.getLsbD 1 } := if_pos small

/-- R121. -/
theorem serveAttach_renews {p : Port} {keepalive subs : Byte} {set : Subs} {s : State} (good : subsOf subs = some set)
    (attached : (s.session p).attached = true) :
    serveAttach p keepalive subs s =
      accept
        ([1, endCauseCode (s.session p).lastEnd, noticesByte (s.session p).notices] ++ bytes16 (s.session p).nextSeq)
        (s.setSession p
          { s.session p with keepalive := keepalive, subs := set, expireAt := windowEnd s.now keepalive }) := by
  unfold serveAttach renewSession
  rw [good]
  simp only [attached, if_true, State.setSession_session_same, attachPayload]
  rfl

/-- R120: the response shows the next sequence of the session that opens. -/
theorem serveAttach_opens {p : Port} {keepalive subs : Byte} {set : Subs} {s : State} (good : subsOf subs = some set)
    (detached : (s.session p).attached = false) :
    serveAttach p keepalive subs s =
      accept [0, endCauseCode (s.session p).lastEnd, noticesByte (s.session p).notices, 0, 0]
        (openSession p keepalive set s) := by
  unfold serveAttach openSession clearFrameErrors
  rw [good]
  simp only [detached, Bool.false_eq_true, if_false, State.setFront_session, State.setSession_session_same,
    attachPayload]
  rfl

/-- Settles O18: a renewal overwrites the restarted window; a session that opens finds no window to restart. -/
theorem attachOpensOrRenews : Obligations.AttachOpensOrRenews := by
  unfold Obligations.AttachOpensOrRenews
  intro p seq keepalive subs s can small
  obtain ⟨t, sent⟩ : ∃ t, sendRequest p seq (.attach keepalive subs) s = t := ⟨_, rfl⟩
  refine ⟨t, congrArg Host.Outcome.next sent, ?_⟩
  dsimp only
  have serves : ∀ u, serve p (.attach keepalive subs) u = serveAttach p keepalive subs u := fun _ =>
    serve_allowed (.inr rfl)
  by_cases attached : (s.session p).attached = true
  · have own := (restartKeepalive_only p s).own
    rw [restarted_of_attached attached] at own
    have now : (restartKeepalive p s).now = s.now := by rw [restartKeepalive_frame]
    have served := (serves _).trans (serveAttach_renews (subsOf_good small) (by rw [own]; exact attached))
    rw [own, now] at served
    rw [if_pos attached]
    exact request_writes can sent served
  · have detached := Bool.eq_false_iff.mpr attached
    obtain ⟨same, answered⟩ := request_detached (s.setFront p { s.front p with frameErrors := 0 }) can detached sent
      ((serves s).trans (serveAttach_opens (subsOf_good small) detached)) rfl rfl
    rw [if_neg attached]
    refine ⟨?_, ?_, answered⟩
    · rw [same]; rfl
    · rw [same]; rfl

/-! ## O20 -/

/-- R122: a stopped keepalive timer does not expire. -/
theorem keepaliveExpiry_stopped {p : Port} {s : State} (stopped : (s.session p).expireAt = none) :
    keepaliveExpiry p s = s := by
  unfold keepaliveExpiry
  rw [stopped]

/-- R124. -/
theorem serveDetach_holder {p : Port} {c : Chan} {s : State} (held : s.holds p c = true) :
    serveDetach p s = refuse .claimsHeld s := if_pos (List.any_eq_true.mpr ⟨c, mem_allChans c, held⟩)

/-- R125: RESET PORT of a DETACHED port. -/
theorem serveResetPort_detached {p : Port} {s : State} (detached : (s.session p).attached = false) :
    serveResetPort p s = accept [0, endCauseCode (s.session p).lastEnd] (clearFrameErrors p s) := by
  unfold serveResetPort clearFrameErrors
  simp only [detached, Bool.false_eq_true, if_false, State.setFront_session]
  rfl

/-- Settles O20: a claim stops DETACH, a DETACHED port has no session to end, and a stopped timer brings no end. -/
theorem sessionStays : Obligations.SessionStays := by
  unfold Obligations.SessionStays
  intro p seq s
  refine ⟨fun can c held => ?_, fun can detached => ?_, fun stopped => ?_⟩
  · obtain ⟨t, sent⟩ : ∃ t, sendRequest p seq .detach s = t := ⟨_, rfl⟩
    refine ⟨t, congrArg Host.Outcome.next sent, request_refused can sent (serveDetach_holder (c := c) ?_)⟩
    rw [restartKeepalive_frame]
    exact held
  · obtain ⟨t, sent⟩ : ∃ t, sendRequest p seq .resetPort s = t := ⟨_, rfl⟩
    obtain ⟨same, answered⟩ := request_detached (s.setFront p { s.front p with frameErrors := 0 }) can detached sent
      ((serve_allowed (.inr rfl)).trans (serveResetPort_detached detached)) rfl rfl
    exact ⟨t, congrArg Host.Outcome.next sent, same, answered⟩
  · show Host.Outcome.next (s.whileRunning (keepaliveExpiry p)) = _
    unfold State.whileRunning
    split
    · rw [keepaliveExpiry_stopped stopped]
    · rfl

/-! ## O21 -/

/-- R129: the parameter check and the notices that are left. -/
theorem serveClearNotices_eq (p : Port) (notices : Byte) (s : State) :
    let m := (s.session p).notices
    let left : Notices :=
      { supplyLow := m.supplyLow && !notices.getLsbD 0
        leftLock := m.leftLock && !notices.getLsbD 1
        refSwitched := m.refSwitched && !notices.getLsbD 2
        reset := m.reset && !notices.getLsbD 3 }
    serveClearNotices p notices s =
      if 16 ≤ notices.toNat then refuse .badParameter s
      else accept [noticesByte left] (s.setSession p { s.session p with notices := left }) := by
  unfold serveClearNotices noticesOf
  by_cases bad : 16 ≤ notices.toNat
  · simp only [Nat.not_lt.mpr bad, bad, if_true, if_false]
  · simp only [Nat.lt_of_not_le bad, bad, if_true, if_false, clearNotices]

/-- Settles O21: the restart of the keepalive timer leaves the notices, which the request then writes. -/
theorem clearNoticesRemoves : Obligations.ClearNoticesRemoves := by
  unfold Obligations.ClearNoticesRemoves
  intro p seq notices s can
  obtain ⟨t, sent⟩ : ∃ t, sendRequest p seq (.clearNotices notices) s = t := ⟨_, rfl⟩
  refine ⟨t, congrArg Host.Outcome.next sent, ?_⟩
  have served := (serve_allowed (p := p) (r := .clearNotices notices) (s := restartKeepalive p s) (.inr rfl)).trans
    (serveClearNotices_eq p notices _)
  obtain ⟨-, kept⟩ := restarted_keeps s.now (s.session p)
  rw [(restartKeepalive_only p s).own, kept] at served
  dsimp only
  split_ifs at served ⊢ with bad
  · exact request_turned_down can sent served
  · exact request_writes can sent served

/-! ## O22 -/

/-- R135, R136: an ACK EVENTS of a number that a record carries. -/
theorem serveAckEvents_removes {p : Port} {number : BitVec 16} {older newer : List EventRecord} {r : EventRecord}
    {s : State} (ok : SessionOk (s.session p)) (queue : (s.session p).queue = older ++ r :: newer)
    (carries : r.seq = number) (fresh : ∀ x ∈ older, x.seq ≠ number) :
    let old := s.session p
    let left := if old.lost = 0 then newer
      else newer ++ [{ seq := old.nextSeq, pos := s.ltb.pos, body := .loss old.lost }]
    serveAckEvents p number s =
      accept [byteOf (older.length + 1), byteOf left.length]
        (s.setSession p
          { old with
            queue := left, nextSeq := if old.lost = 0 then old.nextSeq else old.nextSeq + 1, lost := 0
            attn := !left.isEmpty }) := by
  have acks : afterAck number (s.session p).queue = some newer := by rw [queue, afterAck_append fresh carries]
  have removed : (s.session p).queue.length - newer.length = older.length + 1 := by
    rw [queue, List.length_append, List.length_cons]
    omega
  unfold serveAckEvents
  simp only [acks, removed, ackSession_eq s.ltb.pos (ok.room queue)]

/-- R135: an ACK EVENTS of a number that no record carries. -/
theorem serveAckEvents_refuses {p : Port} {number : BitVec 16} {s : State}
    (fresh : ∀ r ∈ (s.session p).queue, r.seq ≠ number) : serveAckEvents p number s = refuse .badSequence s := by
  unfold serveAckEvents
  simp only [afterAck_of_fresh fresh]

/-- Settles O22: the restart of the keepalive timer leaves the queue, and a queue from which a record goes has room for
the LOSS record. -/
theorem ackEventsRemoves : Obligations.AckEventsRemoves := by
  unfold Obligations.AckEventsRemoves
  intro p seq number s can ok
  obtain ⟨t, sent⟩ : ∃ t, sendRequest p seq (.ackEvents number) s = t := ⟨_, rfl⟩
  have own := (restartKeepalive_only p s).own
  obtain ⟨kept, -⟩ := restarted_keeps s.now (s.session p)
  have acts : (s.session p).attached = true →
      serve p (.ackEvents number) (restartKeepalive p s) = serveAckEvents p number (restartKeepalive p s) :=
    fun attached => serve_allowed (.inl (by rw [own, restarted_attached]; exact attached))
  refine ⟨fun detached => ?_, fun older r newer queue attached carries fresh => ?_, fun attached fresh => ?_⟩
  · obtain ⟨same, answered⟩ := request_detached s can detached sent (serve_detached detached rfl) rfl rfl
    exact ⟨t, congrArg Host.Outcome.next sent, same, answered⟩
  · have pos : (restartKeepalive p s).ltb.pos = s.ltb.pos := by rw [restartKeepalive_frame]
    have restartedOk : SessionOk (restarted s.now (s.session p)) := by
      rw [restarted_of_attached attached]
      exact ok.timed attached _ _ _
    have served := (acts attached).trans
      (serveAckEvents_removes (by rw [own]; exact restartedOk) (by rw [own, kept]; exact queue) carries fresh)
    rw [own, pos] at served
    exact ⟨t, congrArg Host.Outcome.next sent, request_writes can sent served⟩
  · have served := (acts attached).trans (serveAckEvents_refuses (by rw [own, kept]; exact fresh))
    exact ⟨t, congrArg Host.Outcome.next sent, request_turned_down can sent served⟩

end Sys2Proof.Machine
end

section
/-! O34: ARM CAPTURE and DISARM CAPTURE. Each is refused by what its bytes fail to name, or writes the one arm record that
they name. -/

namespace Sys2Proof.Machine

/-! ## The bytes (R145) -/

theorem inputOfByte_of_lt {b : Byte} (low : b.toNat < 4) : inputOfByte b = some ⟨b.toNat, low⟩ := dif_pos low

theorem inputOfByte_of_le {b : Byte} (high : 4 ≤ b.toNat) : inputOfByte b = none := dif_neg (Nat.not_lt.mpr high)

theorem edgeSelOfByte_eq (b : Byte) :
    edgeSelOfByte b = if b = 1 then some .rise else if b = 2 then some .fall else if b = 3 then some .both else none := by
  by_cases rise : b = 1
  · rw [rise]; rfl
  by_cases fall : b = 2
  · rw [fall]; rfl
  by_cases both : b = 3
  · rw [both]; rfl
  rw [if_neg rise, if_neg fall, if_neg both, ← Option.isNone_iff_eq_none, edgeSelOfByte_isNone, decide_eq_true_iff]
  bv_omega

/-! ## The two requests at the Capture Unit -/

theorem serveArmCapture_writes {p : Port} {input edge count : Byte} {i : CapInput} {x : EdgeSel}
    (isInput : inputOfByte input = some i) (isSel : edgeSelOfByte edge = some x) (s : State) :
    serveArmCapture p input edge count s = accept (armPayload (s.arm p i)) (s.setArm p i (.armed x count.toNat)) := by
  rw [serveArmCapture, isInput, isSel]

theorem serveArmCapture_refuses {p : Port} {input edge count : Byte}
    (bad : inputOfByte input = none ∨ edgeSelOfByte edge = none) (s : State) :
    serveArmCapture p input edge count s = refuse .badParameter s := by
  unfold serveArmCapture
  split
  · next isInput isSel => simp [isInput, isSel] at bad
  · rfl

theorem serveDisarmCapture_writes {p : Port} {input : Byte} {i : CapInput} (isInput : inputOfByte input = some i)
    (s : State) : serveDisarmCapture p input s = accept (armPayload (s.arm p i)) (s.setArm p i .idle) := by
  rw [serveDisarmCapture, isInput]

theorem serveDisarmCapture_refuses {p : Port} {input : Byte} (bad : inputOfByte input = none) (s : State) :
    serveDisarmCapture p input s = refuse .badParameter s := by
  rw [serveDisarmCapture, bad]

/-! ## From the requester's restart, to the answer -/

/-- R145, R146, R157: a request that writes one arm record behind the restart and shows it as it stood. -/
theorem request_writes_arm {p : Port} {seq : Byte} {r : Request} {i : CapInput} {a : Arm} {s t : State}
    (can : CanTake p s) (sent : sendRequest p seq r s = t)
    (served : serve p r (restartKeepalive p s) =
      accept (armPayload ((restartKeepalive p s).arm p i)) ((restartKeepalive p s).setArm p i a)) :
    t = { s with fronts := t.fronts, sessions := t.sessions, arms := t.arms }
      ∧ OnlySession p (restarted s.now (s.session p)) s t.sessions
      ∧ (∀ q (j : CapInput), t.arm q j = if q = p ∧ j.val = i.val then a else s.arm q j)
      ∧ ∀ j : CapInput, j.val = i.val → Answered p seq .ok (armPayload (s.arm p j)) s t.fronts := by
  have frame := restartKeepalive_frame p s
  have only := restartKeepalive_only p s
  have arm : ∀ q j, (restartKeepalive p s).arm q j = s.arm q j := fun q j => by rw [frame]; rfl
  obtain ⟨same, answered⟩ := request_taken s can sent served (by rw [frame]; rfl) (by rw [frame]; rfl)
  refine ⟨?_, ?_, fun q j => ?_, fun j is => ?_⟩
  · rw [same, frame]; rfl
  · rw [same]; exact only
  · have written : t.arm q j = ((restartKeepalive p s).setArm p i a).arm q j := by rw [same]; rfl
    simp only [written, State.setArm_arm, arm, Fin.ext_iff, eq_comm]
  · rw [Fin.ext is, ← arm p i]; exact answered

/-- Settles O34: the session check comes first, then the bytes, whose input and selection say what is written where. -/
theorem armAndDisarm : Obligations.ArmAndDisarm := by
  unfold Obligations.ArmAndDisarm
  intro p seq input edge count s can refused written arm disarm
  have same : ((restartKeepalive p s).session p).attached = (s.session p).attached := by
    rw [(restartKeepalive_only p s).own, restarted_attached]
  have refuses : ∀ {r status}, serve p r (restartKeepalive p s) = refuse status (restartKeepalive p s) →
      refused (.next (sendRequest p seq r s)) status := fun served => ⟨_, rfl, request_turned_down can rfl served⟩
  by_cases detached : (s.session p).attached = false
  · rw [if_pos detached]
    exact ⟨refuses (serve_detached (same.trans detached) rfl), refuses (serve_detached (same.trans detached) rfl)⟩
  have acts : ∀ r, serve p r (restartKeepalive p s) = act p r (restartKeepalive p s) := fun r =>
    serve_allowed (.inl (same.trans (by simpa using detached)))
  rw [if_neg detached]
  by_cases high : 4 ≤ input.toNat
  · have unnamed := inputOfByte_of_le high
    rw [if_pos high]
    exact ⟨refuses ((acts _).trans (serveArmCapture_refuses (.inl unnamed) _)),
      refuses ((acts _).trans (serveDisarmCapture_refuses unnamed _))⟩
  have low : input.toNat < 4 := Nat.lt_of_not_le high
  have named := inputOfByte_of_lt low
  have writes : ∀ {r a}, serve p r (restartKeepalive p s) =
        accept (armPayload ((restartKeepalive p s).arm p ⟨input.toNat, low⟩))
          ((restartKeepalive p s).setArm p ⟨input.toNat, low⟩ a) →
      written (.next (sendRequest p seq r s)) a := fun served => ⟨_, rfl, request_writes_arm can rfl served⟩
  have arms : ∀ {x}, edgeSelOfByte edge = some x → written arm (.armed x count.toNat) := fun isSel =>
    writes ((acts _).trans (serveArmCapture_writes named isSel _))
  rw [if_neg high]
  refine ⟨writes ((acts _).trans (serveDisarmCapture_writes named _)), ?_⟩
  have isSel := edgeSelOfByte_eq edge
  split_ifs at isSel ⊢
  · exact arms isSel
  · exact arms isSel
  · exact arms isSel
  · exact refuses ((acts _).trans (serveArmCapture_refuses (.inr isSel) _))

end Sys2Proof.Machine
end

section
/-! O1 and O55: the step that runs the front command, and the pins of a part in reset. -/

namespace Sys2Proof.Machine

/-- Settles O1. -/
theorem stepRunsFrontCommand : Obligations.StepRunsFrontCommand := by
  unfold Obligations.StepRunsFrontCommand
  exact fun _ _ => step_of_pending rfl

/-! ## The pins of a part in reset (R188) -/

section inReset

variable {hold : Bool} {s : State} (reset : s.power = .inReset hold)
include reset

theorem drvPin_inReset (c : Chan) : drvPin s c = false := by rw [drvPin, reset]
theorem attnPin_inReset (p : Port) : attnPin s p = if p = 2 then some false else none := by rw [attnPin, reset]
theorem rdyPin_inReset : rdyPin s = none := by rw [rdyPin, reset]
theorem txdPin_inReset : txdPin s = true := by rw [txdPin, reset]
theorem sdoPin_inReset : sdoPin s = none := by rw [sdoPin, reset]
theorem sdaReleased_inReset : sdaReleased s = true := by rw [sdaReleased, reset]
theorem sclReleased_inReset : sclReleased s = true := by rw [sclReleased, reset]

end inReset

/-- R188: what is quiet from the start of a device reset on. -/
theorem beginReset_quiet (source : ResetSource) (hold : Bool) (s : State) :
    let t := beginReset source hold s
    (∀ c, drvPin t c = false) ∧ t.sending = none ∧ txdPin t = true ∧ sdaReleased t = true ∧ sclReleased t = true
      ∧ sdoPin t = none ∧ attnPin t 0 = none ∧ attnPin t 1 = none ∧ attnPin t 2 = some false ∧ rdyPin t = none
      ∧ t.hp1Bus = .waiting ∧ t.hp2Bus = .waiting := by
  intro t
  have reset : t.power = .inReset hold := rfl
  exact ⟨drvPin_inReset reset, rfl, txdPin_inReset reset, sdaReleased_inReset reset, sclReleased_inReset reset,
    sdoPin_inReset reset, attnPin_inReset reset 0, attnPin_inReset reset 1, attnPin_inReset reset 2, rdyPin_inReset reset,
    rfl, rfl⟩

/-- R188: a low of RESET_N on a running part. -/
theorem resetPinLow_running {s : State} (running : s.power = .running) :
    resetPinLow s = beginReset .pin false { s with pins := { s.pins with resetN := false } } := by
  simp only [resetPinLow, running]

/-- R162: a low of RESET_N in a reset that is under way. -/
theorem resetPinLow_inReset {s : State} (reset : s.power ≠ .running) :
    resetPinLow s = { s with pins := { s.pins with resetN := false } } := by
  cases power : s.power with
  | running => exact absurd power reset
  | inReset hold => simp only [resetPinLow, power]

/-- Settles O55: either source begins a reset, and a reset under way goes on. -/
theorem deviceResetBegins : Obligations.DeviceResetBegins := by
  unfold Obligations.DeviceResetBegins
  intro s
  refine ⟨⟨_, rfl, rfl, rfl, beginReset_quiet _ _ s⟩, fun running => ?_, fun reset => ⟨_, rfl, ?_⟩⟩
  · exact ⟨_, congrArg Host.Outcome.next (resetPinLow_running running), rfl, rfl, beginReset_quiet _ _ _⟩
  · rw [resetPinLow_inReset reset]

end Sys2Proof.Machine
end

section
/-! Request frames (10.2, 11.3 to 11.7): O11, and what the checks make of a frame's bytes. -/

namespace Sys2Proof.Machine

/-! ## Fields of more than one byte -/

theorem extract_joined {a b : Nat} (x : BitVec (a + b)) : x.extractLsb' b a ++ x.extractLsb' 0 b = x := by
  rw [BitVec.extractLsb'_append_extractLsb'_eq_extractLsb' (Nat.zero_add b).symm, BitVec.extractLsb'_eq_self]

theorem bytes16_joined (x : BitVec 16) : x.extractLsb' 8 8 ++ x.extractLsb' 0 8 = x := extract_joined (a := 8) (b := 8) x

theorem bytes32_joined (x : BitVec 32) :
    x.extractLsb' 24 8 ++ x.extractLsb' 16 8 ++ x.extractLsb' 8 8 ++ x.extractLsb' 0 8 = x := by
  have upper : x.extractLsb' 24 8 ++ x.extractLsb' 16 8 = x.extractLsb' 16 16 :=
    BitVec.extractLsb'_append_extractLsb'_eq_extractLsb' rfl
  have above : x.extractLsb' 16 16 ++ x.extractLsb' 8 8 = x.extractLsb' 8 24 :=
    BitVec.extractLsb'_append_extractLsb'_eq_extractLsb' rfl
  rw [upper, above]
  exact extract_joined (a := 24) (b := 8) x

/-! ## The code and length check (R154) -/

/-- The code and length check gives back the request of a code with its payload. -/
theorem parseRequest_payload (r : Request) : parseRequest (requestCode r) (requestPayload r) = some r := by
  cases r with
  | setDevice | claim | release | setChannel | schedule | cancel | ackEvents =>
    show some _ = some _
    simp only [bytes16_joined, bytes32_joined]
  | _ => rfl

/-- Nothing is read from a payload of another length than `k`. -/
def ReadsLength {α : Type} : Nat → (List Byte → Option α) → Prop
  | 0, f => ∀ b l, f (b :: l) = none
  | k + 1, f => f [] = none ∧ ∀ b, ReadsLength k fun l => f (b :: l)

theorem ReadsLength.none {α : Type} {k : Nat} {f : List Byte → Option α} (h : ReadsLength k f) {l : List Byte}
    (other : l.length ≠ k) : f l = none := by
  induction k generalizing f l with
  | zero =>
    cases l with
    | nil => exact absurd rfl other
    | cons b l => exact h b l
  | succ k ih =>
    obtain ⟨empty, rest⟩ := h
    cases l with
    | nil => exact empty
    | cons b l => exact ih (rest b) fun e => other (congrArg (· + 1) e)

/-- Table 9-1, 11.3 to 11.7: the codes with their payload lengths. -/
def payloadLengths : List (Nat × Nat) :=
  [(0x00, 0), (0x01, 2), (0x02, 0), (0x03, 0), (0x04, 0), (0x05, 1), (0x06, 15), (0x07, 0), (0x10, 2), (0x11, 3),
    (0x12, 13), (0x13, 1), (0x14, 1), (0x20, 20), (0x21, 4), (0x22, 1), (0x30, 3), (0x31, 1), (0x40, 1), (0x41, 2)]

theorem parseRequest_readsLength : ∀ x ∈ payloadLengths, ReadsLength x.2 (parseRequest (BitVec.ofNat 8 x.1)) := by
  intro x listed
  simp only [payloadLengths, List.mem_cons, List.not_mem_nil, or_false] at listed
  rcases listed with rfl | rfl | rfl | rfl | rfl | rfl | rfl | rfl | rfl | rfl | rfl | rfl | rfl | rfl | rfl | rfl | rfl
    | rfl | rfl | rfl
  all_goals
    repeat refine ⟨rfl, fun _ => ?_⟩
    exact fun _ _ => rfl

/-- A code of no request. -/
theorem parseRequest_unknown {code : Byte} (unknown : code.toNat ∉ payloadLengths.map (·.1)) (payload : List Byte) :
    parseRequest code payload = none := by
  simp only [payloadLengths, List.map_cons, List.map_nil, List.mem_cons, List.not_mem_nil, or_false, not_or] at unknown
  delta parseRequest parseRequest.match_1
  simp only [dif_neg, unknown, not_false_eq_true]

/-- R154: a code of no request, or a payload of another length than its code has. -/
theorem parseRequest_unlisted {code : Byte} {payload : List Byte}
    (unlisted : (code.toNat, payload.length) ∉ payloadLengths) : parseRequest code payload = none := by
  by_cases known : code.toNat ∈ payloadLengths.map (·.1)
  · obtain ⟨⟨number, length⟩, listed, same⟩ := List.mem_map.mp known
    have reads := parseRequest_readsLength _ listed
    have code_eq : BitVec.ofNat 8 number = code := by
      rw [show number = code.toNat from same, BitVec.ofNat_toNat, BitVec.setWidth_eq]
    rw [code_eq] at reads
    exact reads.none fun e => unlisted (by rw [e, ← show number = code.toNat from same]; exact listed)
  · exact parseRequest_unknown known payload

/-! ## The frame check (R153, R174) -/

/-- R154: what the code and length check makes of a frame with a matching CRC. -/
def receivedOf (code : Byte) (payload : List Byte) : Received :=
  match parseRequest code payload with
  | some r => .good r
  | none => .badRequest

/-- A whole frame that ends with the CRC of its covered bytes. -/
theorem checkFrame_covered (seq code : Byte) {payload : List Byte} (fits : payload.length ≤ 32) :
    let covered := BitVec.ofNat 8 (payload.length + 2) :: seq :: code :: payload
    checkFrame (covered ++ [crc covered]) = some { seq := seq, body := receivedOf code payload } := by
  intro covered
  have len : (BitVec.ofNat 8 (payload.length + 2)).toNat = payload.length + 2 := by
    rw [BitVec.toNat_ofNat]
    omega
  have whole : lenInRange (BitVec.ofNat 8 (payload.length + 2)) = true
      ∧ (covered ++ [crc covered]).length = (BitVec.ofNat 8 (payload.length + 2)).toNat + 2 := by
    refine ⟨decide_eq_true (by rw [len]; omega), ?_⟩
    rw [len, List.length_append]
    simp only [covered, List.length_cons, List.length_nil]
  refine (if_pos whole).trans ?_
  have last : (covered ++ [crc covered]).getLast?.getD 0 = crc covered := by simp
  have covers : (covered ++ [crc covered]).dropLast = covered := List.dropLast_concat
  refine congrArg (fun b => some (Frame.mk seq b)) ?_
  rw [last, covers, if_neg (not_not.mpr rfl)]
  show receivedOf code (payload ++ [crc covered]).dropLast = _
  rw [List.dropLast_concat]

/-- Settles O11: the frame is whole, its CRC matches, and its code and payload are those of the request. -/
theorem requestFrameRoundTrip : Obligations.RequestFrameRoundTrip := by
  unfold Obligations.RequestFrameRoundTrip
  intro seq r
  have fits : (requestPayload r).length ≤ 32 := by
    have := Laws.requestPayload_fits r
    omega
  refine (checkFrame_covered seq (requestCode r) fits).trans ?_
  rw [receivedOf, parseRequest_payload]

/-- 10.2: the bytes of a whole frame begin with their LEN. -/
theorem checkFrame_whole {bytes : List Byte} {f : Frame} (h : checkFrame bytes = some f) :
    ∃ len rest, bytes = len :: rest ∧ lenInRange len = true ∧ bytes.length = len.toNat + 2 := by
  unfold checkFrame at h
  split at h
  · next len seq code rest =>
    split at h
    · next whole => exact ⟨len, _, rfl, whole⟩
    · cases h
  · cases h

/-- 10.2: LEN is out of range, or the bytes are not LEN + 2. -/
theorem checkFrame_partial {bytes : List Byte}
    (h : ∀ len rest, bytes = len :: rest → lenInRange len = false ∨ bytes.length ≠ len.toNat + 2) :
    checkFrame bytes = none := by
  by_contra some
  obtain ⟨f, framed⟩ := Option.ne_none_iff_exists'.mp some
  obtain ⟨len, rest, begins, inRange, length⟩ := checkFrame_whole framed
  rcases h len rest begins with out | other
  · rw [inRange] at out
    cases out
  · exact other length

end Sys2Proof.Machine
end

section
/-! Whole frames on the three ports (10.2, R171, R174 to R184), and O15: a CRC mismatch. -/

namespace Sys2Proof.Machine

/-! ## A frame's bytes on HP0 (R177) -/

theorem rxError_good (b : Byte) : rxError (rxGood b) = false := by simp [rxError, rxGood]

theorem receiveInFrame_short {len : Byte} {tail : List Byte} {s : State} (inRange : lenInRange len = true)
    (short : (len :: tail).length < len.toNat + 2) :
    receiveInFrame (len :: tail) s = { s with receiver := .receiving (len :: tail) s.now } := by
  unfold receiveInFrame
  simp only [inRange, Bool.not_true, Bool.false_eq_true, if_false, if_pos short]

theorem receiveInFrame_whole {bytes : List Byte} {f : Frame} (framed : checkFrame bytes = some f) (s : State) :
    receiveInFrame bytes s = submit 0 f { s with receiver := .idle } := by
  obtain ⟨len, rest, begins, inRange, length⟩ := checkFrame_whole framed
  subst begins
  unfold receiveInFrame
  simp only [inRange, Bool.not_true, Bool.false_eq_true, if_false, if_neg (Nat.not_lt.mpr length.ge), framed]

/-- R177: the bytes that are still to come of a whole frame, all received without error. -/
theorem receiveBytes_rest {bytes : List Byte} {f : Frame} (framed : checkFrame bytes = some f) (rest : List Byte)
    (more : rest ≠ []) {got : List Byte} {k : Nat} {s : State} (whole : got ++ rest = bytes)
    (receiving : s.receiver = .receiving got k) (high : s.pins.rxd = true) :
    receiveBytes (rest.map rxGood) s = submit 0 f { s with receiver := .idle } := by
  obtain ⟨len, tail, begins, inRange, length⟩ := checkFrame_whole framed
  induction rest generalizing got k s with
  | nil => exact absurd rfl more
  | cons b rest ih =>
    have left : setRxd true s = s := by rw [setRxd, ← high]
    have byte : receiveByte s (rxGood b) = receiveInFrame (got ++ [b]) s := by
      show takeByte (rxGood b) (setRxd true s) = _
      rw [left, takeByte, receiving]
      dsimp only
      rw [rxError_good]
      rfl
    obtain ⟨tail', first⟩ : ∃ tail', got ++ [b] = len :: tail' := by
      rw [begins] at whole
      cases got with
      | nil => exact ⟨[], by rw [(List.cons.inj whole).1]; rfl⟩
      | cons g got => exact ⟨got ++ [b], by rw [← (List.cons.inj whole).1]; rfl⟩
    have joined : (got ++ [b]) ++ rest = bytes := by rw [List.append_assoc]; exact whole
    rw [List.map_cons, receiveBytes, List.foldl_cons, byte]
    by_cases last : rest = []
    · subst last
      rw [List.append_nil] at joined
      rw [joined, receiveInFrame_whole framed]
      rfl
    · have short : (got ++ [b]).length < len.toNat + 2 := by
        rw [← length, ← joined, List.length_append (bs := rest)]
        exact Nat.lt_add_of_pos_right (List.length_pos_of_ne_nil last)
      rw [first] at short joined ⊢
      rw [receiveInFrame_short inRange short]
      exact ih last joined rfl high

/-- R177: a start of frame and a whole frame, at an IDLE receiver. -/
theorem receiveBytes_frame {bytes : List Byte} {f : Frame} (framed : checkFrame bytes = some f) {s : State}
    (idle : s.receiver = .idle) :
    receiveBytes (rxGood startOfFrame :: bytes.map rxGood) s = submit 0 f { s with pins := { s.pins with rxd := true } } := by
  obtain ⟨len, rest, begins, -⟩ := checkFrame_whole framed
  have start : receiveByte s (rxGood startOfFrame) = { setRxd true s with receiver := .receiving [] s.now } := by
    show takeByte (rxGood startOfFrame) (setRxd true s) = _
    unfold takeByte
    rw [show (setRxd true s).receiver = .idle from idle]
    exact if_pos ⟨rfl, rxError_good _⟩
  rw [receiveBytes, List.foldl_cons, start]
  refine (receiveBytes_rest framed bytes (by rw [begins]; exact List.cons_ne_nil _ _) rfl rfl rfl).trans ?_
  rw [← idle]
  rfl

/-! ## A whole frame as a command -/

/-- R177, log 28: the counts of the frame pass, then it is received. -/
theorem exec_hp0RequestFrame {bytes : List Byte} {f : Frame} (framed : checkFrame bytes = some f) {n : Nat} {s : State}
    (running : s.power = .running) (still : (wireCounts n s).power = .running)
    (idle : (wireCounts n s).receiver = .idle) :
    exec (.hp0RequestFrame ⟨bytes, n⟩) s =
      .next (submit 0 f { wireCounts n s with pins := { (wireCounts n s).pins with rxd := true } }) := by
  refine congrArg Host.Outcome.next ?_
  rw [State.whileRunning_running running, ← receiveBytes_frame framed idle]
  simp only [bytesOnWire, still]

/-- R181: a write of a whole frame to the target's address. -/
theorem exec_hp1Write_frame {bytes : List Byte} {f : Frame} (framed : checkFrame bytes = some f) {s : State}
    (running : s.power = .running) :
    exec (.hp1WriteTransaction (hp1Address s.straps) bytes) s =
      .next (submit 1 f { s with hp1Bus := .waiting, hp1Out := [], hp1Acks := bytes.length + 1 }) := by
  obtain ⟨len, rest, begins, inRange, length⟩ := checkFrame_whole framed
  have acks : 1 + min bytes.length (len.toNat + 2) = bytes.length + 1 := by omega
  subst begins
  refine congrArg Host.Outcome.next ?_
  rw [State.whileRunning_running running, hp1Addressed, if_pos rfl]
  unfold hp1Write
  simp only [inRange, Bool.not_true, Bool.false_eq_true, if_false, framed, acks]
  rfl

/-- R184: a request transaction of a whole frame. -/
theorem exec_hp2Request_frame {bytes : List Byte} {f : Frame} (framed : checkFrame bytes = some f) {s : State}
    (running : s.power = .running) :
    exec (.hp2RequestTransaction bytes) s =
      .next (submit 2 f { s with hp2Bus := .waiting, hp2Out := List.replicate (bytes.length + 1) 0 }) := by
  refine congrArg Host.Outcome.next ?_
  rw [State.whileRunning_running running, hp2Request, framed]
  rfl

/-! ## Frames that are no request -/

theorem not_pending_of_takes {b : Buffer} (takes : takesRequest b = true) (r : Response) (n : Nat) : b ≠ .pending r n := by
  rintro rfl
  cases takes

/-- R174, R175: a mismatch that is taken at once. -/
theorem submit_mismatch (p : Port) (seq : Byte) {s : State} (takes : takesRequest (s.front p).buffer = true) :
    ∃ F, submit p { seq := seq, body := .checkError } s = { s with fronts := F }
      ∧ Answered p seq .checkError [] (frameError p s) F := by
  have buffer : ((frameError p s).front p).buffer = (s.front p).buffer := by
    rw [frameError, State.setFront_front_same]
  have taken : submit p { seq := seq, body := .checkError } s =
      takeRequest p { seq := seq, body := .checkError } (frameError p s) := by
    show (match ((frameError p s).front p).buffer with | .pending _ _ => _ | _ => _) = _
    rw [buffer]
    cases b : (s.front p).buffer with
    | pending r n => exact absurd b (not_pending_of_takes takes r n)
    | empty | ready => rfl
  exact ⟨_, taken, setPending_answered (r := refuse .checkError (frameError p s)) rfl rfl⟩

/-- Settles O15: on each port the frame is taken as it stands, and its answer is that of R174. -/
theorem crcMismatchAnswered : Obligations.CrcMismatchAnswered := by
  unfold Obligations.CrcMismatchAnswered
  intro bytes seq s framed
  refine ⟨?_, fun can => ?_, fun can => ?_⟩
  · intro n u running can idle
    obtain ⟨F, gives, answered⟩ := submit_mismatch 0 seq (s := { u with pins := { u.pins with rxd := true } }) can.2
    exact ⟨_, (exec_hp0RequestFrame framed running can.1 idle).trans (congrArg _ gives), rfl, answered⟩
  · obtain ⟨F, gives, answered⟩ := submit_mismatch 1 seq
      (s := { s with hp1Bus := .waiting, hp1Out := [], hp1Acks := bytes.length + 1 }) can.2
    exact ⟨_, (exec_hp1Write_frame framed can.1).trans (congrArg _ gives), rfl, answered⟩
  · obtain ⟨F, gives, answered⟩ := submit_mismatch 2 seq
      (s := { s with hp2Bus := .waiting, hp2Out := List.replicate (bytes.length + 1) 0 }) can.2
    exact ⟨_, (exec_hp2Request_frame framed can.1).trans (congrArg _ gives), rfl, answered⟩

end Sys2Proof.Machine
end

section
/-! O59 and O60: the transactions of HP1 and HP2 (R170, R180 to R187). -/

namespace Sys2Proof.Machine

/-! ## A read of the buffer (R182, R185) -/

theorem responseFrame_length (r : Response) : (responseFrame r).length = r.payload.length + 4 := by
  simp [responseFrame]

theorem responseFrame_noResponse : responseFrame noResponse = [0x02, 0x00, 0x15, 0x48] := by decide +kernel

/-- The front end of a port after a read: EMPTY when the response has been clocked out whole. -/
def State.afterRead (p : Port) (whole : Prop) [Decidable whole] (s : State) : State :=
  if whole then emptyBuffer p s else s

theorem afterRead_fronts (p : Port) (whole : Prop) [Decidable whole] (s : State) :
    ∃ F, s.afterRead p whole = { s with fronts := F }
      ∧ ∀ q, ({ s with fronts := F } : State).front q =
          if q = p ∧ whole then { s.front q with buffer := .empty } else s.front q := by
  refine ⟨(s.afterRead p whole).fronts, ?_⟩
  unfold State.afterRead
  by_cases all : whole
  · rw [if_pos all]
    refine ⟨rfl, fun q => ?_⟩
    show (emptyBuffer p s).front q = _
    rw [emptyBuffer, State.setFront_front]
    by_cases own : p = q
    · subst own
      rw [if_pos rfl, if_pos ⟨rfl, all⟩]
    · rw [if_neg own, if_neg fun h => own h.1.symm]
  · rw [if_neg all]
    exact ⟨rfl, fun q => (if_neg fun h => all h.2).symm⟩

theorem readBuffer_ready {p : Port} {r : Response} {s : State} (ready : (s.front p).buffer = .ready r) (n : Nat) :
    readBuffer p n s =
      ((responseFrame r ++ List.replicate n 0xFF).take n, s.afterRead p (r.payload.length + 4 ≤ n)) := by
  unfold readBuffer State.afterRead
  rw [ready, ← responseFrame_length]
  rfl

theorem readBuffer_other {p : Port} {s : State} (other : ∀ r, (s.front p).buffer ≠ .ready r) (n : Nat) :
    readBuffer p n s = ((([0x02, 0x00, 0x15, 0x48] : List Byte) ++ List.replicate n 0xFF).take n, s) := by
  rw [← responseFrame_noResponse]
  unfold readBuffer
  cases buffer : (s.front p).buffer with
  | ready r => exact absurd buffer (other r)
  | empty | pending r k => rfl

/-- R182, R185: the bytes clocked out of no response, read as numbers or as bytes. -/
theorem noResponse_clocked (n : Nat) :
    (([0x02, 0x00, 0x15, 0x48] ++ List.replicate n 0xFF).take n : List Byte)
      = (([0x02, 0x00, 0x15, 0x48] : List Byte) ++ List.replicate n 0xFF).take n := by
  simp only [List.bind_eq_flatMap, List.pure_def, ← List.map_eq_flatMap, List.map_append, List.map_replicate]
  rfl

/-! ## HP2 -/

theorem rdyPin_ready {r : Response} {s : State} (running : s.power = .running) (ready : (s.front 2).buffer = .ready r) :
    rdyPin s = some true := by
  rw [rdyPin, running, ready]

theorem rdyPin_other {s : State} (running : s.power = .running) (other : ∀ r, (s.front 2).buffer ≠ .ready r) :
    rdyPin s = some false := by
  unfold rdyPin
  rw [running]
  cases buffer : (s.front 2).buffer with
  | ready r => exact absurd buffer (other r)
  | empty | pending r k => rfl

theorem sdoPin_active {s : State} (running : s.power = .running) (active : s.hp2Bus = .active) :
    sdoPin s = some ((s.hp2Out.getLast?.getD 0).getLsbD 0) := by
  rw [sdoPin, running, active]

/-- Settles O60: a transaction that is no whole frame is ignored, and a read is that of the buffer. -/
theorem hp2Transactions : Obligations.Hp2Transactions := by
  unfold Obligations.Hp2Transactions
  intro first bytes n s running wire
  refine ⟨⟨?_, ?_, ?_⟩, fun part => ?_, fun noRequest noRead => ?_, ?_, fun r ready => ⟨rdyPin_ready running ready, ?_⟩,
    fun other => ⟨rdyPin_other running other, ?_⟩⟩
  · simp only [sdoPin, running]
  · exact (sdoPin_active (s := { s with hp2Bus := .active, hp2Out := [] }) running rfl).trans
      (congrArg some BitVec.getLsbD_zero)
  · refine (sdoPin_active (s := { s with hp2Bus := .active, hp2Out := bytes ++ [first] }) running rfl).trans ?_
    rw [List.getLast?_concat]
    rfl
  · refine congrArg Host.Outcome.next ?_
    rw [State.whileRunning_running running, hp2Request, checkFrame_partial part]
    rfl
  · refine congrArg Host.Outcome.next ?_
    rw [State.whileRunning_running running, hp2Transaction, if_neg noRequest, if_neg noRead]
    rfl
  · refine congrArg Host.Outcome.next ?_
    rw [State.whileRunning_running running]
    cases bytes with
    | nil => rfl
    | cons b bytes => rw [if_neg (List.cons_ne_nil b bytes)]; rfl
  · refine ⟨_, congrArg Host.Outcome.next (State.whileRunning_running running _), ?_⟩
    have read : hp2Read n (hp2Begin s) =
        hp2Wire (0 :: (responseFrame r ++ List.replicate n 0xFF).take n)
          ((hp2Begin s).afterRead 2 (r.payload.length + 4 ≤ n)) := by
      rw [hp2Read, readBuffer_ready (s := hp2Begin s) ready]
    obtain ⟨F, frame, front⟩ := afterRead_fronts 2 (r.payload.length + 4 ≤ n) (hp2Begin s)
    have front2 := front 2
    rw [read, frame]
    refine ⟨rfl, front, ?_⟩
    by_cases whole : r.payload.length + 4 ≤ n
    · rw [if_pos ⟨rfl, whole⟩] at front2
      rw [decide_eq_false (by omega)]
      exact rdyPin_other (s := hp2Wire _ { hp2Begin s with fronts := F }) running fun r' is =>
        nomatch (congrArg FrontEnd.buffer front2).symm.trans is
    · rw [if_neg fun h => whole h.2] at front2
      rw [decide_eq_true (by omega)]
      exact rdyPin_ready (s := hp2Wire _ { hp2Begin s with fronts := F }) running
        ((congrArg FrontEnd.buffer front2).trans ready)
  · refine congrArg Host.Outcome.next ?_
    rw [State.whileRunning_running running, hp2Read, readBuffer_other (s := hp2Begin s) other,
      ← noResponse_clocked]
    rfl

/-! ## What no request changes of a front end -/

/-- Every port's held request is as it was. -/
def KeepsHeld (s t : State) : Prop := ∀ q, (t.front q).held = (s.front q).held

namespace KeepsHeld

theorem refl (s : State) : KeepsHeld s s := fun _ => rfl

theorem trans {a b c : State} (h : KeepsHeld a b) (k : KeepsHeld b c) : KeepsHeld a c := fun q => (k q).trans (h q)

theorem of_fronts {s t : State} (same : t.fronts = s.fronts) : KeepsHeld s t := fun q =>
  congrArg (fun v : Vector FrontEnd 3 => (v.get q).held) same

theorem of_work {s t : State} (h : WorkKeeps s t) : KeepsHeld s t := of_fronts (congrArg State.fronts h.rest :)

theorem of_timebase {s t : State} (h : TimebaseKeeps s t) : KeepsHeld s t := of_fronts (congrArg State.fronts h.beside :)

end KeepsHeld

theorem setFront_keepsHeld {p : Port} {x : FrontEnd} {s : State} (same : x.held = (s.front p).held) :
    KeepsHeld s (s.setFront p x) := fun q => by
  rw [State.setFront_front]
  split
  · next own => rw [← own, same]
  · rfl

theorem setChan_keepsHeld (c : Chan) (x : Channel) (s : State) : KeepsHeld s (s.setChan c x) := .refl s
theorem setSession_keepsHeld (p : Port) (x : Session) (s : State) : KeepsHeld s (s.setSession p x) := .refl s
theorem setArm_keepsHeld (p : Port) (i : CapInput) (x : Arm) (s : State) : KeepsHeld s (s.setArm p i x) := .refl s

theorem clearFrameErrors_keepsHeld (p : Port) (s : State) : KeepsHeld s (clearFrameErrors p s) := setFront_keepsHeld rfl

theorem sessionEnd_keepsHeld (p : Port) (cause : EndCause) (s : State) : KeepsHeld s (sessionEnd p cause s) := by
  have disarmed : ∀ u, KeepsHeld u (disarmPort p u) := fun u =>
    foldl_rel KeepsHeld .refl (fun _ _ _ => .trans) (fun s i => s.setArm p i .idle) (fun s i => setArm_keepsHeld p i _ s)
      allInputs u
  exact (((KeepsHeld.of_work (removeWhere_keeps _ s)).trans (.of_work (releaseForSessionEnd_keeps p _))).trans
    (disarmed _)).trans (setSession_keepsHeld p _ _)

theorem moveGroup_keepsHeld (c : Chan) (new : Option GroupId) (s : State) : KeepsHeld s (moveGroup c new s) := by
  unfold moveGroup
  dsimp only
  split
  · exact .refl s
  · split
    · split <;> exact .of_fronts rfl
    · exact .of_fronts rfl

theorem changeFeedbackMode_keepsHeld (c : Chan) (was : Bool) (s : State) : KeepsHeld s (changeFeedbackMode c was s) := by
  unfold changeFeedbackMode
  dsimp only
  split
  · split
    · exact .of_work (enterFault_keeps c _ s)
    · exact .refl s
  · split
    · exact .refl s
    · exact .of_work (enterFault_keeps c _ s)
  · exact (setChan_keepsHeld c _ s).trans (.of_work (work_keeps _ _))
  · exact (setChan_keepsHeld c _ s).trans (.of_work (work_keeps _ _))
  · exact .refl s

/-- R171: a held request stays with its port whatever request is taken. -/
theorem act_keepsHeld (p : Port) (r : Request) (s : State) : KeepsHeld s (act p r s).state := by
  cases r with
  | nop | readStatus | readDevice => exact .refl s
  | attach keepalive subs =>
    unfold act serveAttach
    dsimp only
    split
    · exact .refl s
    · dsimp only [accept]
      split
      · exact setSession_keepsHeld p _ s
      · exact (setSession_keepsHeld p _ s).trans (clearFrameErrors_keepsHeld p _)
  | detach =>
    unfold act serveDetach
    dsimp only
    split
    · exact .refl s
    · exact sessionEnd_keepsHeld p _ s
  | resetPort =>
    unfold act serveResetPort
    dsimp only [accept]
    split
    · exact (sessionEnd_keepsHeld p _ s).trans (clearFrameErrors_keepsHeld p _)
    · exact clearFrameErrors_keepsHeld p s
  | clearNotices notices =>
    unfold act serveClearNotices
    dsimp only
    split
    · exact .refl s
    · exact setSession_keepsHeld p _ s
  | setDevice a =>
    unfold act serveSetDevice
    dsimp only
    split
    · exact .refl s
    · next d _ =>
      split
      · exact .refl s
      · have written : KeepsHeld s (settingsWritten d s) := .refl s
        exact written.trans (.of_timebase (setSelector_keeps d.mode d.offsetA d.offsetB _))
  | claim chans =>
    unfold act serveClaim
    dsimp only
    split
    · exact .refl s
    · split
      · exact .refl s
      · exact .of_work (claimChans_keeps p _ s)
  | release chans mode =>
    unfold act serveRelease
    dsimp only
    split
    · split
      · exact .of_work (releaseChans_keeps _ _ s)
      · exact .refl s
    · exact .refl s
  | setChannel a =>
    unfold act serveSetChannel
    dsimp only
    split
    · split
      · exact .refl s
      · exact ((moveGroup_keepsHeld _ _ s).trans (setChan_keepsHeld _ _ _)).trans (changeFeedbackMode_keepsHeld _ _ _)
    · exact .refl s
  | readChannel c =>
    unfold act serveReadChannel
    dsimp only
    split <;> exact .refl s
  | clearFault c =>
    unfold act serveClearFault
    dsimp only
    split
    · exact .refl s
    · split
      · exact .refl s
      · exact (setChan_keepsHeld _ _ s).trans (.of_work (work_keeps _ _))
  | schedule a =>
    unfold act serveSchedule
    dsimp only
    split
    · exact .refl s
    · split
      · exact .refl s
      · unfold admitEntry
        dsimp only
        split <;> exact .of_fronts rfl
  | cancel form tag channel =>
    unfold act serveCancel
    dsimp only
    split
    · exact .refl s
    · next f _ =>
      split
      · exact .refl s
      · obtain ⟨k, e⟩ := State.inFreeOrder_state (drainedBy p f s) s
        have drawn : KeepsHeld s (s.inFreeOrder (drainedBy p f s)).2 := .of_fronts (by rw [e])
        exact (drawn.trans (.of_work (removeWhere_keeps _ _))).trans (.of_work (work_keeps _ _))
  | readSchedule start =>
    unfold act serveReadSchedule
    dsimp only
    split <;> exact .refl s
  | armCapture input edge count =>
    unfold act serveArmCapture
    dsimp only
    split
    · exact setArm_keepsHeld p _ _ s
    · exact .refl s
  | disarmCapture input =>
    unfold act serveDisarmCapture
    dsimp only
    split
    · exact setArm_keepsHeld p _ _ s
    · exact .refl s
  | takeEvents count =>
    unfold act serveTakeEvents
    dsimp only
    split <;> exact .refl s
  | ackEvents number =>
    unfold act serveAckEvents
    dsimp only
    split
    · exact .refl s
    · exact setSession_keepsHeld p _ s

theorem replyTo_keepsHeld (p : Port) (b : Received) (s : State) : KeepsHeld s (replyTo p b s).state := by
  have restarts : KeepsHeld s (restartKeepalive p s) := .of_fronts (by rw [restartKeepalive_frame])
  cases b with
  | checkError => exact .refl s
  | badRequest => exact restarts
  | good r =>
    unfold replyTo serve
    dsimp only
    split
    · exact restarts.trans (act_keepsHeld p r _)
    · exact restarts

/-! ## The response of a PENDING buffer (R171, R182) -/

/-- R182: a read finds nothing more to compose once the response has been composed. -/
theorem composed_twice {p : Port} {s : State} (free : (s.front p).held = none) (other : p ≠ 0) :
    composed p (composed p s) = composed p s := by
  cases buffer : (s.front p).buffer with
  | pending r k =>
    have ready : composed p s = s.setFront p { s.front p with buffer := .ready (responseNow p r k s) } := by
      simp only [composed, buffer, free, becomeReady, if_neg other]
    rw [ready]
    refine composed_idle fun r k is => ?_
    rw [State.setFront_front_same] at is
    cases is
  | empty | ready =>
    have idle : composed p s = s := composed_idle fun r k is => nomatch buffer.symm.trans is
    rw [idle, idle]

/-- R171: the held request is taken in place of the response, and the port holds none behind it. -/
theorem composed_held {p : Port} {f : Frame} {s : State} (pending : takesRequest (s.front p).buffer = false)
    (held : (s.front p).held = some f) : Served s (composed p s) ∧ ((composed p s).front p).held = none := by
  cases buffer : (s.front p).buffer with
  | empty | ready => rw [buffer] at pending; cases pending
  | pending r k =>
    let v := s.setFront p { s.front p with held := none }
    have taken : composed p s =
        setPending p (responseOf f.seq (replyTo p f.body v)) (replyTo p f.body v).state := by
      unfold composed
      split
      · split
        · next f' is => rw [Option.some.inj (held.symm.trans is)]; rfl
        · next is => exact nomatch held.symm.trans is
      · next other => exact absurd buffer (other r k)
    rw [taken]
    have served : Served s v := setFront_served p _ s
    refine ⟨(served.trans (replyTo_served p f.body v)).trans (setFront_served p _ _), ?_⟩
    have kept := replyTo_keepsHeld p f.body v p
    rw [State.setFront_front_same] at kept
    rw [setPending, State.setFront_front_same]
    exact kept

/-! ## HP1 -/

/-- R182: a read of the target's address. -/
theorem exec_hp1Read {addr : BitVec 7} {s : State} (running : s.power = .running) (own : addr = hp1Address s.straps)
    (n : Nat) : exec (.hp1ReadTransaction addr n) s = .next (hp1Read n (hp1Begin s)) := by
  refine congrArg Host.Outcome.next ?_
  rw [State.whileRunning_running running, hp1Addressed, if_pos own]

/-- R181: a write to the target's address. -/
theorem exec_hp1Write {addr : BitVec 7} {s : State} (running : s.power = .running) (own : addr = hp1Address s.straps)
    (bytes : List Byte) : exec (.hp1WriteTransaction addr bytes) s = .next (hp1Write bytes (hp1Begin s)) := by
  refine congrArg Host.Outcome.next ?_
  rw [State.whileRunning_running running, hp1Addressed, if_pos own]

/-- R182: SCL is stretched while a transaction finds its response PENDING. -/
theorem sclReleased_pending {r : Response} {k : Nat} {s : State} (running : s.power = .running)
    (active : s.hp1Bus = .active) (pending : (s.front 1).buffer = .pending r k) : sclReleased s = false := by
  rw [sclReleased, running, active, pending]

/-- R181, R175: a write that is no whole frame. -/
theorem hp1Write_partial {len : Byte} {rest : List Byte} {s : State}
    (part : lenInRange len = false ∨ (len :: rest).length ≠ len.toNat + 2) :
    hp1Write (len :: rest) s =
      hp1Wire [] (if lenInRange len then 1 + min (len :: rest).length (len.toNat + 2) else 1) (frameError 1 s) := by
  have unframed : checkFrame (len :: rest) = none := checkFrame_partial fun l r begins => by
    rw [← (List.cons.inj begins).1]
    exact part
  unfold hp1Write
  cases inRange : lenInRange len with
  | false => simp only [inRange, Bool.not_false, if_true, Bool.false_eq_true, if_false]
  | true =>
    simp only [inRange, Bool.not_true, Bool.false_eq_true, if_false, if_true, unframed]
    rfl

theorem hp1Read_idle {s : State} (takes : takesRequest (s.front 1).buffer = true) (n : Nat) :
    hp1Read n s = hp1Wire (readBuffer 1 n s).1 1 (readBuffer 1 n s).2 := by
  have idle : composed 1 s = s := composed_idle (not_pending_of_takes takes)
  rw [hp1Read, idle, idle]

/-- R182, log 22: a read that waits for what one composition of the response leaves. -/
theorem hp1Read_composed {s : State} (free : ((composed 1 s).front 1).held = none) (n : Nat) :
    hp1Read n s = hp1Read n (composed 1 s) := by
  unfold hp1Read
  rw [composed_twice free (by decide)]

/-- Settles O59: a write is a whole frame or not, a read is that of the buffer as the composition of its response leaves
it. -/
theorem hp1Transactions : Obligations.Hp1Transactions := by
  unfold Obligations.Hp1Transactions
  intro addr bytes n s running wire
  refine ⟨fun waiting => ⟨?_, ?_⟩, fun other => ?_, fun own => ⟨?_, fun takes => ?_, fun len rest begins part => ?_,
    fun r ready => ?_, fun empty => ?_, fun r k pending free => ⟨?_, ?_⟩, fun pending seq q held => ?_⟩⟩
  · rw [sdaReleased, running, waiting]
  · rw [sclReleased, running, waiting]
  · have away : addr ≠ hp1Address s.straps := other
    have ignored : ∀ f, s.whileRunning (hp1Addressed addr f) = hp1Wire [] 0 s := fun f => by
      rw [State.whileRunning_running running, hp1Addressed, if_neg away]
    exact ⟨congrArg Host.Outcome.next (ignored _), congrArg Host.Outcome.next (ignored _)⟩
  · exact exec_hp1Write running own []
  · rw [exec_hp1Read running own, hp1Read_idle (s := hp1Begin s) takes]
    cases buffer : (s.front 1).buffer with
    | ready r =>
      rw [readBuffer_ready (s := hp1Begin s) buffer, State.afterRead, if_neg (Nat.not_succ_le_zero _)]
      rfl
    | empty =>
      rw [readBuffer_other (s := hp1Begin s) fun r is => nomatch buffer.symm.trans is]
      rfl
    | pending r k => exact absurd buffer (not_pending_of_takes takes r k)
  · rw [exec_hp1Write running own, begins, hp1Write_partial (begins ▸ part)]
    rfl
  · obtain ⟨F, frame, front⟩ := afterRead_fronts 1 (r.payload.length + 4 ≤ n) (hp1Begin s)
    refine ⟨_, exec_hp1Read running own n, ?_⟩
    rw [hp1Read_idle (s := hp1Begin s) (congrArg takesRequest ready), readBuffer_ready (s := hp1Begin s) ready, frame]
    exact ⟨rfl, front⟩
  · rw [exec_hp1Read running own, hp1Read_idle (s := hp1Begin s) (congrArg takesRequest empty),
      readBuffer_other (s := hp1Begin s) (fun r is => nomatch empty.symm.trans is), ← noResponse_clocked]
    rfl
  · exact sclReleased_pending (s := { s with hp1Bus := .active }) running rfl pending
  · let t := s.setFront 1 { s.front 1 with buffer := .ready (responseNow 1 r k s) }
    have ready : composed 1 (hp1Begin s) = hp1Begin t := by
      have becomes : composed 1 (hp1Begin s) = becomeReady 1 (responseNow 1 r k (hp1Begin s)) (hp1Begin s) := by
        unfold composed
        rw [show ((hp1Begin s).front 1).buffer = _ from pending, show ((hp1Begin s).front 1).held = _ from free]
      rw [becomes]
      rfl
    have freed : ((composed 1 (hp1Begin s)).front 1).held = none := by
      rw [ready]
      show (t.front 1).held = none
      rw [State.setFront_front_same]
      exact free
    rw [exec_hp1Read running own, exec_hp1Read (s := t) running own, hp1Read_composed freed, ready]
  · obtain ⟨served, freed⟩ := composed_held (s := hp1Begin s) pending held
    let u := composed 1 (hp1Begin s)
    have power : u.power = .running := Eq.trans (congrArg State.power served :) running
    have straps : u.straps = s.straps := (congrArg State.straps served :)
    have bus : u.hp1Bus = .active := (congrArg State.hp1Bus served :)
    have out : u.hp1Out = [] := (congrArg State.hp1Out served :)
    have acks : u.hp1Acks = 1 := (congrArg State.hp1Acks served :)
    have begun : hp1Begin u = u := by
      show { u with hp1Bus := .active, hp1Out := [], hp1Acks := 1 } = u
      rw [← bus, ← out, ← acks]
    refine ⟨u, congrArg Host.Outcome.next (State.whileRunning_running (s := hp1Begin s) running _), ?_⟩
    have again : exec (.hp1ReadTransaction addr n) u = .next (hp1Read n (hp1Begin u)) :=
      exec_hp1Read power (by rw [straps]; exact own) n
    rw [begun] at again
    exact (exec_hp1Read running own n).trans ((congrArg _ (hp1Read_composed freed n)).trans again.symm)

end Sys2Proof.Machine
end

section
/-! O16: requests that are refused (R154 to R157, R122). -/

namespace Sys2Proof.Machine

/-! ## A refusal changes nothing (R157) -/

/-- A reply that is not OK is a refusal. -/
def RefusesPlainly (s : State) (reply : Reply) : Prop := reply.status ≠ .ok → reply = refuse reply.status s

theorem refuse_plainly (status : Status) (s : State) : RefusesPlainly s (refuse status s) := fun _ => rfl

theorem accept_plainly (payload : List Byte) (s t : State) : RefusesPlainly s (accept payload t) := fun refused =>
  absurd rfl refused

theorem act_plainly (p : Port) (r : Request) (s : State) : RefusesPlainly s (act p r s) := by
  cases r with
  | nop => exact accept_plainly _ s _
  | readStatus => exact accept_plainly _ s _
  | readDevice => exact accept_plainly _ s _
  | resetPort => exact accept_plainly _ s _
  | attach keepalive subs =>
    unfold act serveAttach
    dsimp only
    split
    · exact refuse_plainly _ s
    · exact accept_plainly _ s _
  | detach =>
    unfold act serveDetach
    dsimp only
    split
    · exact refuse_plainly _ s
    · exact accept_plainly _ s _
  | clearNotices notices =>
    unfold act serveClearNotices
    dsimp only
    split
    · exact refuse_plainly _ s
    · exact accept_plainly _ s _
  | setDevice a =>
    unfold act serveSetDevice
    dsimp only
    split
    · exact refuse_plainly _ s
    · split
      · exact refuse_plainly _ s
      · exact accept_plainly _ s _
  | claim chans =>
    unfold act serveClaim
    dsimp only
    split
    · exact refuse_plainly _ s
    · split
      · exact refuse_plainly _ s
      · exact accept_plainly _ s _
  | release chans mode =>
    unfold act serveRelease
    dsimp only
    split
    · split
      · exact accept_plainly _ s _
      · exact refuse_plainly _ s
    · exact refuse_plainly _ s
  | setChannel a =>
    unfold act serveSetChannel
    dsimp only
    split
    · split
      · exact refuse_plainly _ s
      · exact accept_plainly _ s _
    · exact refuse_plainly _ s
  | readChannel channel =>
    unfold act serveReadChannel
    dsimp only
    split
    · exact accept_plainly _ s _
    · exact refuse_plainly _ s
  | clearFault channel =>
    unfold act serveClearFault
    dsimp only
    split
    · exact refuse_plainly _ s
    · split
      · exact refuse_plainly _ s
      · exact accept_plainly _ s _
  | schedule a =>
    unfold act serveSchedule
    dsimp only
    split
    · exact refuse_plainly _ s
    · split
      · exact refuse_plainly _ s
      · unfold admitEntry
        dsimp only
        split <;> exact accept_plainly _ s _
  | cancel form tag channel =>
    unfold act serveCancel
    dsimp only
    split
    · exact refuse_plainly _ s
    · split
      · exact refuse_plainly _ s
      · exact accept_plainly _ s _
  | readSchedule start =>
    unfold act serveReadSchedule
    dsimp only
    split
    · exact accept_plainly _ s _
    · exact refuse_plainly _ s
  | armCapture input edge count =>
    unfold act serveArmCapture
    dsimp only
    split
    · exact accept_plainly _ s _
    · exact refuse_plainly _ s
  | disarmCapture input =>
    unfold act serveDisarmCapture
    dsimp only
    split
    · exact accept_plainly _ s _
    · exact refuse_plainly _ s
  | takeEvents count =>
    unfold act serveTakeEvents
    dsimp only
    split
    · exact accept_plainly _ s _
    · exact refuse_plainly _ s
  | ackEvents number =>
    unfold act serveAckEvents
    dsimp only
    split
    · exact refuse_plainly _ s
    · exact accept_plainly _ s _

theorem serve_plainly (p : Port) (r : Request) (s : State) : RefusesPlainly s (serve p r s) := by
  unfold serve
  split
  · exact act_plainly p r s
  · exact refuse_plainly _ s

/-! ## The readings of the payload's fields (R156) -/

theorem chanOfByte_isNone (b : Byte) : (chanOfByte b).isNone = decide (12 ≤ b.toNat) := by
  by_cases low : b.toNat < 12
  · rw [chanOfByte_some low, decide_eq_false (Nat.not_le.mpr low)]
    rfl
  · rw [chanOfByte_none low, decide_eq_true (Nat.not_lt.mp low)]
    rfl

theorem modeOfByte_isNone : ∀ b : Byte, (modeOfByte b).isNone = decide (3 ≤ b.toNat) := by decide
theorem flagOfByte_isNone : ∀ b : Byte, (flagOfByte b).isNone = decide (2 ≤ b.toNat) := by decide
theorem groupOfByte_isNone : ∀ b : Byte, (groupOfByte b).isNone = decide (5 ≤ b.toNat) := by decide
theorem safeOfByte_isNone : ∀ b : Byte, (safeOfByte b).isNone = decide (2 ≤ b.toNat) := by decide
theorem releaseModeOfByte_isNone : ∀ b : Byte, (releaseModeOfByte b).isNone = decide (2 ≤ b.toNat) := by decide

theorem nonzeroByte_isNone (b : Byte) : (nonzeroByte b).isNone = decide (b = 0) := by
  unfold nonzeroByte
  split
  · next zero => exact (decide_eq_true zero).symm
  · next other => exact (decide_eq_false other).symm

theorem subsOf_isNone (b : Byte) : (subsOf b).isNone = decide (4 ≤ b.toNat) := by
  rw [subsOf, isNone_ite, Option.isNone_some, Bool.or_false, decide_eq_decide]
  exact Nat.not_lt

theorem noticesOf_isNone (b : Byte) : (noticesOf b).isNone = decide (16 ≤ b.toNat) := by
  rw [noticesOf, isNone_ite, Option.isNone_some, Bool.or_false, decide_eq_decide]
  exact Nat.not_lt

theorem chanSetOf_isNone (x : BitVec 16) : (chanSetOf x).isNone = decide (x = 0 ∨ 4096 ≤ x.toNat) := by
  rw [chanSetOf, isNone_ite, Option.isNone_some, Bool.or_false, decide_eq_decide, not_and_or, not_not, Nat.not_lt]

theorem setAndMode_isNone (x : BitVec 16) (mode : Byte) :
    ((chanSetOf x).isNone || (releaseModeOfByte mode).isNone) =
      decide (x = 0 ∨ 4096 ≤ x.toNat ∨ 2 ≤ mode.toNat) := by
  rw [chanSetOf_isNone, releaseModeOfByte_isNone, ← Bool.decide_or, decide_eq_decide, or_assoc]

theorem inputAndEdge_isNone (input edge : Byte) :
    ((inputOfByte input).isNone || (edgeSelOfByte edge).isNone) =
      decide (4 ≤ input.toNat ∨ edge = 0 ∨ 4 ≤ edge.toNat) := by
  rw [inputOfByte_isNone, edgeSelOfByte_isNone, ← Bool.decide_or]

/-- A field is read, then the fields behind it. -/
theorem bind_isNone {α β : Type} {o : Option α} {f : α → Option β} {b : Bool} (rest : ∀ x, (f x).isNone = b) :
    (o.bind f).isNone = (o.isNone || b) := by
  cases o with
  | none => rfl
  | some x => exact rest x

/-- R163: the settings are read from the fields in their order on the wire. -/
theorem deviceOf_isNone (a : SetDeviceArgs) : (deviceOf a).isNone = badDevice a := by
  have read : (deviceOf a).isNone =
      ((modeOfByte a.mode).isNone || ((stepOf16 a.offsetA).isNone || ((stepOf16 a.offsetB).isNone
        || ((nonzeroByte a.limit).isNone || ((flagOfByte a.shed).isNone || ((stepOf16 a.gap1).isNone
          || ((stepOf16 a.gap2).isNone || ((stepOf16 a.gap3).isNone || ((stepOf16 a.gap4).isNone || false))))))))) :=
    bind_isNone fun _ => bind_isNone fun _ => bind_isNone fun _ => bind_isNone fun _ => bind_isNone fun _ =>
      bind_isNone fun _ => bind_isNone fun _ => bind_isNone fun _ => bind_isNone fun _ => rfl
  rw [read]
  simp only [modeOfByte_isNone, stepOf16_isNone, nonzeroByte_isNone, flagOfByte_isNone, badDevice, List.any_cons,
    List.any_nil]
  ac_rfl

/-- R82: the configuration is read from the fields in their order on the wire. -/
theorem configOf_isNone (a : SetChannelArgs) :
    ((chanOfByte a.channel).isNone || (configOf a).isNone) = badConfig a := by
  have read : (configOf a).isNone =
      ((stepOf16 a.closeLead).isNone || ((stepOf16 a.openLead).isNone || ((groupOfByte a.group).isNone
        || ((safeOfByte a.safe).isNone || ((flagOfByte a.feedback).isNone || ((nonzeroByte a.verify).isNone || false)))))) :=
    bind_isNone fun _ => bind_isNone fun _ => bind_isNone fun _ => bind_isNone fun _ => bind_isNone fun _ =>
      bind_isNone fun _ => rfl
  rw [read]
  simp only [chanOfByte_isNone, stepOf16_isNone, groupOfByte_isNone, safeOfByte_isNone, flagOfByte_isNone,
    nonzeroByte_isNone, badConfig, Bool.or_false, Bool.or_assoc]

/-- R59: the form of a CANCEL is read with its fields. -/
theorem cancelOf_isNone (s : State) (form : Byte) (tag : BitVec 16) (channel : Byte) :
    (cancelOf form tag channel).isNone = badPayload s (.cancel form tag channel) := by
  unfold cancelOf badPayload
  dsimp only
  split
  · rw [isNone_ite, Option.isNone_some, Bool.or_false, decide_eq_decide, not_and_or, not_not]
  · rw [isNone_ite, Option.isNone_map, chanOfByte_isNone, ← Bool.decide_or]
  · rw [isNone_ite, Option.isNone_some, Bool.or_false, decide_eq_decide, not_and_or]
  · rfl

/-! ## The parameter check of each request (R156) -/

/-- Past the session check, the request is refused BAD_PARAMETER if `bad`, and otherwise not. -/
structure Checks (s : State) (bad : Bool) (reply : Reply) : Prop where
  refused : bad = true → reply = refuse .badParameter s
  passed : bad = false → reply.status ≠ .badParameter

theorem checks_refuse (s : State) : Checks s true (refuse .badParameter s) := ⟨fun _ => rfl, nofun⟩

theorem checks_passed {s : State} {reply : Reply} (other : reply.status ≠ .badParameter) : Checks s false reply :=
  ⟨nofun, fun _ => other⟩

theorem checks_accept (payload : List Byte) (s t : State) : Checks s false (accept payload t) := checks_passed nofun

theorem Checks.of_eq {s : State} {bad bad' : Bool} {reply : Reply} (checks : Checks s bad reply) (same : bad = bad') :
    Checks s bad' reply := same ▸ checks

theorem claimRefusal_parameter (p : Port) (set : List Chan) (s : State) :
    claimRefusal p set s ≠ some .badParameter := by
  unfold claimRefusal
  split_ifs <;> simp

theorem configRefusal_parameter (p : Port) (c : Chan) (cfg : ChanConfig) (s : State) :
    configRefusal p c cfg s ≠ some .badParameter := by
  unfold configRefusal
  dsimp only
  split_ifs <;> simp

theorem clearFaultRefusal_parameter (p : Port) (c : Chan) (s : State) :
    clearFaultRefusal p c s ≠ some .badParameter := by
  unfold clearFaultRefusal
  dsimp only
  split_ifs <;> simp

/-- A later check refuses with a status of its own. -/
theorem checks_refusal {s : State} {status : Status} {o : Option Status} (own : o ≠ some .badParameter)
    (is : o = some status) : Checks s false (refuse status s) :=
  checks_passed fun same => own (is.trans (congrArg some same))

theorem serveAttach_checks (p : Port) (keepalive subs : Byte) (s : State) :
    Checks s (subsOf subs).isNone (serveAttach p keepalive subs s) := by
  unfold serveAttach
  cases subsOf subs with
  | none => exact checks_refuse s
  | some set => exact checks_accept _ s _

theorem serveClearNotices_checks (p : Port) (notices : Byte) (s : State) :
    Checks s (noticesOf notices).isNone (serveClearNotices p notices s) := by
  unfold serveClearNotices
  cases noticesOf notices with
  | none => exact checks_refuse s
  | some set => exact checks_accept _ s _

theorem serveSetDevice_checks (p : Port) (a : SetDeviceArgs) (s : State) :
    Checks s (deviceOf a).isNone (serveSetDevice p a s) := by
  unfold serveSetDevice
  cases deviceOf a with
  | none => exact checks_refuse s
  | some d =>
    dsimp only
    split
    · exact checks_passed nofun
    · exact checks_accept _ s _

theorem serveClaim_checks (p : Port) (chans : BitVec 16) (s : State) :
    Checks s (chanSetOf chans).isNone (serveClaim p chans s) := by
  unfold serveClaim
  cases chanSetOf chans with
  | none => exact checks_refuse s
  | some set =>
    dsimp only
    split
    · next is => exact checks_refusal (claimRefusal_parameter p set s) is
    · exact checks_accept _ s _

theorem serveRelease_checks (p : Port) (chans : BitVec 16) (mode : Byte) (s : State) :
    Checks s ((chanSetOf chans).isNone || (releaseModeOfByte mode).isNone) (serveRelease p chans mode s) := by
  unfold serveRelease
  cases chanSetOf chans with
  | none => exact checks_refuse s
  | some set =>
    cases releaseModeOfByte mode with
    | none => exact checks_refuse s
    | some m =>
      dsimp only
      split
      · exact checks_accept _ s _
      · exact checks_passed nofun

theorem serveSetChannel_checks (p : Port) (a : SetChannelArgs) (s : State) :
    Checks s ((chanOfByte a.channel).isNone || (configOf a).isNone) (serveSetChannel p a s) := by
  unfold serveSetChannel
  cases chanOfByte a.channel with
  | none => exact checks_refuse s
  | some c =>
    cases configOf a with
    | none => exact checks_refuse s
    | some cfg =>
      dsimp only
      split
      · next is => exact checks_refusal (configRefusal_parameter p c cfg s) is
      · exact checks_accept _ s _

theorem serveReadChannel_checks (channel : Byte) (s : State) :
    Checks s (chanOfByte channel).isNone (serveReadChannel channel s) := by
  unfold serveReadChannel
  cases chanOfByte channel with
  | none => exact checks_refuse s
  | some c => exact checks_accept _ s _

theorem serveClearFault_checks (p : Port) (channel : Byte) (s : State) :
    Checks s (chanOfByte channel).isNone (serveClearFault p channel s) := by
  unfold serveClearFault
  cases chanOfByte channel with
  | none => exact checks_refuse s
  | some c =>
    dsimp only
    split
    · next is => exact checks_refusal (clearFaultRefusal_parameter p c s) is
    · exact checks_accept _ s _

theorem serveCancel_checks (p : Port) (form : Byte) (tag : BitVec 16) (channel : Byte) (s : State) :
    Checks s (cancelOf form tag channel).isNone (serveCancel p form tag channel s) := by
  unfold serveCancel
  cases cancelOf form tag channel with
  | none => exact checks_refuse s
  | some f =>
    dsimp only
    split
    · exact checks_passed nofun
    · exact checks_accept _ s _

theorem serveReadSchedule_checks (p : Port) (start : Byte) (s : State) :
    Checks s (decide (48 ≤ start.toNat)) (serveReadSchedule p start s) := by
  unfold serveReadSchedule
  by_cases listed : start.toNat ≤ 47
  · rw [if_pos listed, decide_eq_false (by omega)]
    exact checks_accept _ s _
  · rw [if_neg listed, decide_eq_true (by omega)]
    exact checks_refuse s

theorem serveArmCapture_checks (p : Port) (input edge count : Byte) (s : State) :
    Checks s ((inputOfByte input).isNone || (edgeSelOfByte edge).isNone) (serveArmCapture p input edge count s) := by
  unfold serveArmCapture
  cases inputOfByte input with
  | none => exact checks_refuse s
  | some i =>
    cases edgeSelOfByte edge with
    | none => exact checks_refuse s
    | some sel => exact checks_accept _ s _

theorem serveDisarmCapture_checks (p : Port) (input : Byte) (s : State) :
    Checks s (inputOfByte input).isNone (serveDisarmCapture p input s) := by
  unfold serveDisarmCapture
  cases inputOfByte input with
  | none => exact checks_refuse s
  | some i => exact checks_accept _ s _

theorem serveTakeEvents_checks (p : Port) (count : Byte) (s : State) :
    Checks s (decide (count = 0 ∨ 5 ≤ count.toNat)) (serveTakeEvents p count s) := by
  have zero : count = 0 ↔ count.toNat = 0 := ⟨fun e => by rw [e]; rfl, fun e => BitVec.eq_of_toNat_eq e⟩
  unfold serveTakeEvents
  by_cases inRange : 1 ≤ count.toNat ∧ count.toNat ≤ 4
  · rw [if_pos inRange, decide_eq_false (by rw [zero]; omega)]
    exact checks_accept _ s _
  · rw [if_neg inRange, decide_eq_true (by rw [zero]; omega)]
    exact checks_refuse s

theorem serveDetach_parameter (p : Port) (s : State) : (serveDetach p s).status ≠ .badParameter := by
  unfold serveDetach
  split <;> exact nofun

theorem serveAckEvents_parameter (p : Port) (number : BitVec 16) (s : State) :
    (serveAckEvents p number s).status ≠ .badParameter := by
  unfold serveAckEvents
  dsimp only
  split <;> exact nofun

/-- R42 has a payload of SCHEDULE read whole, or refused. -/
theorem serveSchedule_bad {p : Port} {a : ScheduleArgs} {s : State} (bad : badSchedule s a = true) :
    serveSchedule p a s = refuse .badParameter s := by
  unfold serveSchedule
  rw [(scheduleParams_none s a).mpr bad]

/-- R156: what SCHEDULE checks behind its payload (R44) is its own. -/
theorem act_checks (p : Port) {r : Request} (s : State) (other : ∀ a, r ≠ .schedule a) :
    Checks s (badPayload s r) (act p r s) := by
  cases r with
  | nop => exact checks_accept _ s _
  | attach keepalive subs => exact (serveAttach_checks p keepalive subs s).of_eq (subsOf_isNone subs)
  | detach => exact checks_passed (serveDetach_parameter p s)
  | resetPort => exact checks_accept _ s _
  | readStatus => exact checks_accept _ s _
  | clearNotices notices => exact (serveClearNotices_checks p notices s).of_eq (noticesOf_isNone notices)
  | setDevice a => exact (serveSetDevice_checks p a s).of_eq (deviceOf_isNone a)
  | readDevice => exact checks_accept _ s _
  | claim chans => exact (serveClaim_checks p chans s).of_eq (chanSetOf_isNone chans)
  | release chans mode => exact (serveRelease_checks p chans mode s).of_eq (setAndMode_isNone chans mode)
  | setChannel a => exact (serveSetChannel_checks p a s).of_eq (configOf_isNone a)
  | readChannel channel => exact (serveReadChannel_checks channel s).of_eq (chanOfByte_isNone channel)
  | clearFault channel => exact (serveClearFault_checks p channel s).of_eq (chanOfByte_isNone channel)
  | schedule a => exact absurd rfl (other a)
  | cancel form tag channel => exact (serveCancel_checks p form tag channel s).of_eq (cancelOf_isNone s form tag channel)
  | readSchedule start => exact serveReadSchedule_checks p start s
  | armCapture input edge count => exact (serveArmCapture_checks p input edge count s).of_eq (inputAndEdge_isNone input edge)
  | disarmCapture input => exact (serveDisarmCapture_checks p input s).of_eq (inputOfByte_isNone input)
  | takeEvents count => exact serveTakeEvents_checks p count s
  | ackEvents number => exact checks_passed (serveAckEvents_parameter p number s)

theorem act_bad (p : Port) {r : Request} {s : State} (bad : badPayload s r = true) :
    act p r s = refuse .badParameter s := by
  by_cases other : ∀ a, r ≠ .schedule a
  · exact (act_checks p s other).refused bad
  · obtain ⟨a, is⟩ := not_forall_not.mp other
    subst is
    exact serveSchedule_bad bad

theorem serve_good (p : Port) {r : Request} {s : State} (good : badPayload s r = false) (other : ∀ a, r ≠ .schedule a) :
    (serve p r s).status ≠ .badParameter := by
  unfold serve
  split
  · exact (act_checks p s other).passed good
  · exact nofun

/-- The check reads of the state the channels' configurations alone. -/
theorem badPayload_restartKeepalive (p : Port) (r : Request) (s : State) :
    badPayload (restartKeepalive p s) r = badPayload s r := by
  rw [restartKeepalive_frame]
  cases r <;> rfl

/-! ## A frame of no request (R154) -/

/-- R154, R122: a frame of no request restarts the keepalive timer and is answered BAD_REQUEST. -/
theorem submit_badRequest (p : Port) (seq : Byte) {s : State} (takes : takesRequest (s.front p).buffer = true) :
    ∃ F S, submit p { seq := seq, body := .badRequest } s = { s with fronts := F, sessions := S }
      ∧ OnlySession p (restarted s.now (s.session p)) s S ∧ Answered p seq .badRequest [] s F := by
  have frame := restartKeepalive_frame p s
  have fronts : (restartKeepalive p s).fronts = s.fronts := by rw [frame]
  have now : (restartKeepalive p s).now = s.now := by rw [frame]
  refine ⟨_, _, ?_, restartKeepalive_only p s,
    setPending_answered (r := refuse .badRequest (restartKeepalive p s)) fronts now⟩
  rw [submit_taken (not_pending_of_takes takes) (by simp)]
  show setPending p _ (restartKeepalive p s) = _
  rw [frame]
  rfl

/-! ## O16 -/

theorem exec_requestInstr (p : Port) (seq : Byte) (r : Request) (s : State) :
    exec (requestInstr p seq r) s = .next (sendRequest p seq r s) := by
  cases r <;> rfl

/-- Table 9-1: the codes of the requests that a DETACHED port may make. -/
theorem allowedDetached_iff (r : Request) :
    allowedDetached r = true ↔ requestCode r ∈ [(0x00 : Byte), 0x01, 0x03, 0x04, 0x05, 0x07] := by
  have same : allowedDetached r = decide (requestCode r ∈ [(0x00 : Byte), 0x01, 0x03, 0x04, 0x05, 0x07]) := by
    cases r <;> rfl
  rw [same, decide_eq_true_iff]

theorem restartKeepalive_attached (p : Port) (s : State) :
    ((restartKeepalive p s).session p).attached = (s.session p).attached := by
  rw [(restartKeepalive_only p s).own, restarted]
  split <;> rfl

/-- Settles O16: a reply that is not OK is a refusal of the state that the restart left; the session check and the
parameter check each decide it by themselves, and a frame of no request does not come to them. -/
theorem refusedRequestChangesNothing : Obligations.RefusedRequestChangesNothing := by
  unfold Obligations.RefusedRequestChangesNothing
  intro p seq r code payload s can
  obtain ⟨t, sent⟩ : ∃ t, sendRequest p seq r s = t := ⟨_, rfl⟩
  have gives : exec (requestInstr p seq r) s = .next t := (exec_requestInstr p seq r s).trans (congrArg _ sent)
  refine ⟨fun refused => ?_, fun detached needs => ?_, fun allowed bad => ?_, fun good other => ?_, ?_⟩
  · exact ⟨t, gives, request_turned_down can sent (serve_plainly p r _ refused)⟩
  · have needs : allowedDetached r = false := Bool.eq_false_iff.mpr (mt (allowedDetached_iff r).mp needs)
    exact ⟨t, gives, request_detached s can detached sent (serve_detached detached needs) rfl rfl⟩
  · rw [← allowedDetached_iff, ← restartKeepalive_attached] at allowed
    rw [← badPayload_restartKeepalive p] at bad
    exact ⟨t, gives, request_turned_down can sent ((serve_allowed allowed).trans (act_bad p bad))⟩
  · exact serve_good p ((badPayload_restartKeepalive p r s).trans good) other
  · intro fits unlisted covered frame answered
    have framed : checkFrame frame = some { seq := seq, body := .badRequest } :=
      (checkFrame_covered seq code fits).trans (by rw [receivedOf, parseRequest_unlisted unlisted])
    have length : frame.length + 1 = payload.length + 5 := by
      show (covered ++ [crc covered]).length + 1 = _
      simp only [covered, List.length_append, List.length_cons, List.length_nil]
    refine ⟨fun zero => ?_, fun one => ?_, fun two => ?_⟩
    · subst zero
      intro n u canThen idle
      obtain ⟨F, S, taken, only, answer⟩ :=
        submit_badRequest 0 seq (s := { u with pins := { u.pins with rxd := true } }) canThen.2
      exact ⟨_, (exec_hp0RequestFrame framed can.1 canThen.1 idle).trans (congrArg _ taken), rfl, only, answer⟩
    · subst one
      rw [← length]
      obtain ⟨F, S, taken, only, answer⟩ := submit_badRequest 1 seq
        (s := { s with hp1Bus := .waiting, hp1Out := [], hp1Acks := frame.length + 1 }) can.2
      exact ⟨_, (exec_hp1Write_frame framed can.1).trans (congrArg _ taken), rfl, only, answer⟩
    · subst two
      rw [← length]
      obtain ⟨F, S, taken, only, answer⟩ := submit_badRequest 2 seq
        (s := { s with hp2Bus := .waiting, hp2Out := List.replicate (frame.length + 1) 0 }) can.2
      exact ⟨_, (exec_hp2Request_frame framed can.1).trans (congrArg _ taken), rfl, only, answer⟩

end Sys2Proof.Machine
end

section
/-! O17: the requests that only read (R159, R161, R166, R84, R62, R134), and the bytes of their payloads (11.5, 11.6, 11.8,
11.9). -/

namespace Sys2Proof.Machine

/-! ## Numbers in bit fields -/

theorem toNat_append_eq {m n : Nat} (x : BitVec m) (y : BitVec n) : (x ++ y).toNat = x.toNat * 2 ^ n + y.toNat := by
  rw [BitVec.toNat_append, ← Nat.shiftLeft_add_eq_or_of_lt y.isLt, Nat.shiftLeft_eq]

theorem extractByte_eq {n : Nat} (x : BitVec n) (k : Nat) : x.extractLsb' (8 * k) 8 = byteOf (x.toNat / 256 ^ k) := by
  show BitVec.ofNat 8 (x.toNat >>> (8 * k)) = _
  rw [Nat.shiftRight_eq_div_pow, Nat.pow_mul]
  rfl

theorem bytes40_eq (x : BitVec 40) : bytes40 x = [4, 3, 2, 1, 0].map fun k => byteOf (x.toNat / 256 ^ k) := by
  show [x.extractLsb' (8 * 4) 8, x.extractLsb' (8 * 3) 8, x.extractLsb' (8 * 2) 8, x.extractLsb' (8 * 1) 8,
    x.extractLsb' (8 * 0) 8] = _
  simp only [extractByte_eq, List.map_cons, List.map_nil]

/-- A bit as a number. -/
def bitOf (b : Bool) : Nat := if b then 1 else 0

theorem flags_joined : ∀ (kind : BitVec 2) (second : Bool) (condition tol : BitVec 2) (last : Bool),
    kind ++ BitVec.ofBool second ++ condition ++ tol ++ BitVec.ofBool last =
      byteOf (kind.toNat * 64 + bitOf second * 32 + condition.toNat * 8 + tol.toNat * 2 + bitOf last) := by decide

theorem nibbles_joined (high low : BitVec 4) : high ++ low = byteOf (high.toNat * 16 + low.toNat) :=
  BitVec.eq_of_toNat_eq (by
    have small : high.toNat * 16 + low.toNat < 2 ^ (4 + 4) := by
      have := high.isLt
      have := low.isLt
      omega
    rw [toNat_append_eq, byteOf, BitVec.toNat_ofNat, Nat.mod_eq_of_lt small]
    rfl)

/-! ## READ SCHEDULE (11.8) -/

/-- The channel of an action as the number on the wire, 15 for MARK. -/
def chanNumber (a : Action) : Nat := ((chanOf a).map Fin.val).getD 15

theorem chanBits_toNat (a : Action) : (chanBits a).toNat = chanNumber a := by
  unfold chanBits chanNumber
  cases chanOf a with
  | none => rfl
  | some c => exact Nat.mod_eq_of_lt (c.isLt.trans (by decide))

/-- The trigger input and edge selection as one number, 0 without a trigger. -/
def triggerNumber (trig : Option Trigger) : Nat :=
  (trig.map fun t => t.input.val * 4 + (edgeSelCode t.edge).toNat).getD 0

theorem triggerBits_toNat (trig : Option Trigger) : (triggerBits trig).toNat = triggerNumber trig := by
  cases trig with
  | none => rfl
  | some t =>
    show (BitVec.ofNat 2 t.input.val ++ edgeSelCode t.edge).toNat = _
    rw [toNat_append_eq, BitVec.toNat_ofNat, Nat.mod_eq_of_lt t.input.isLt]
    rfl

theorem summaryWhere_eq (e : Entry) : summaryWhere e = byteOf (chanNumber e.action * 16 + triggerNumber e.trig) := by
  rw [summaryWhere, nibbles_joined, chanBits_toNat, triggerBits_toNat]

/-- 11.8: a due position in the timing field. -/
def dueNumber (x : Pos) : Nat := (cycleOf x).toNat % 2 ^ 17 * 2 ^ 23 + (stepOf x).toNat * 2 ^ 13

/-- 11.8: the number in the timing field of an entry. -/
def timingNumber (s : State) : Listed → Nat
  | .pending x => dueNumber x.due + (leadOf s x.entry.action).toNat * 2 ^ 3
  | .waiting e => triggerDelay e % 2 ^ 16 * 2 ^ 24
  | .deferred x => dueNumber x.due

theorem timingField_toNat (s : State) (x : Listed) : (timingField s x).toNat = timingNumber s x := by
  cases x with
  | pending x =>
    show ((cycleOf x.due).setWidth 17 ++ stepOf x.due ++ leadOf s x.entry.action ++ (0 : BitVec 3)).toNat =
      dueNumber x.due + (leadOf s x.entry.action).toNat * 2 ^ 3
    simp only [toNat_append_eq, BitVec.toNat_setWidth, dueNumber]
    have : (0 : BitVec 3).toNat = 0 := rfl
    omega
  | waiting e =>
    show (BitVec.ofNat 16 (triggerDelay e) ++ (0 : BitVec 24)).toNat = _
    have : (0 : BitVec 24).toNat = 0 := rfl
    rw [toNat_append_eq, BitVec.toNat_ofNat, this, Nat.add_zero, timingNumber]
  | deferred x =>
    show ((cycleOf x.due).setWidth 17 ++ stepOf x.due ++ (0 : BitVec 13)).toNat = dueNumber x.due
    simp only [toNat_append_eq, BitVec.toNat_setWidth, dueNumber]
    have : (0 : BitVec 13).toNat = 0 := rfl
    omega

/-- 11.8: the bytes of a summary as numbers. -/
theorem summaryBytes_eq (s : State) (x : Listed) :
    summaryBytes s x =
      bytes16 x.entry.tag
        ++ [x.entry.label,
            byteOf ((kindCode (kindOf x.entry.action)).toNat * 64 + bitOf (isSecond x.entry.action) * 32
              + x.conditionCode.toNat * 8 + (toleranceCode x.entry.tol).toNat * 2 + bitOf x.entry.lastRun),
            byteOf (chanNumber x.entry.action * 16 + triggerNumber x.entry.trig)]
        ++ repeatBytes x.entry.rep ++ bytes16 (BitVec.ofNat 16 (widthOf x.entry.action))
        ++ [4, 3, 2, 1, 0].map fun k => byteOf (timingNumber s x / 256 ^ k) := by
  rw [summaryBytes, bytes40_eq, timingField_toNat, summaryWhere_eq, summaryFlags, flags_joined]

/-- 11.8: what a summary shows of an entry's condition and timing. -/
def listedNumbers (s : State) (x : Listed) : Entry × Nat × Nat := (x.entry, x.conditionCode.toNat, timingNumber s x)

/-- R62: the port's entries with their numbers, in their order. -/
theorem listedOf_numbers (p : Port) (s : State) :
    (s.sched.pending.map (fun x : PendingEntry => (x.entry, 0, dueNumber x.due + (leadOf s x.entry.action).toNat * 2 ^ 3))
        ++ s.sched.waiting.map (fun e : Entry => (e, 1, triggerDelay e % 2 ^ 16 * 2 ^ 24))
        ++ s.sched.deferred.map (fun x : DeferredEntry => (x.entry, 2, dueNumber x.due))).filter (fun y => decide (y.1.owner = p)) =
      (listedOf p s.sched).map (listedNumbers s) := by
  simp only [listedOf, List.filter_append, List.filter_map, List.map_append, List.map_map]
  rfl

/-- 11.8: a slot with its summary, or without one. -/
def slotOf (s : State) (o : Option Listed) : List Byte := (o.map (summaryBytes s)).getD (List.replicate 15 0)

theorem slotOf_none (s : State) : slotOf s none = List.replicate 15 0 := rfl

theorem slotOf_some (s : State) (x : Listed) : slotOf s (some x) = summaryBytes s x := rfl

theorem slotBytes_eq (s : State) (n : Nat) (l : List Listed) :
    slotBytes s n l = (List.range n).flatMap fun k => slotOf s l[k]? := by
  induction n generalizing l with
  | zero => rfl
  | succ n ih =>
    rw [List.range_succ_eq_map, List.flatMap_cons, List.flatMap_map]
    cases l with
    | nil =>
      rw [slotBytes, ih]
      rfl
    | cons x l =>
      rw [slotBytes, ih]
      rfl

/-- 11.8: the payload as R62 numbers the entries. -/
theorem schedulePayload_eq (p : Port) (start : Nat) (s : State) :
    schedulePayload p start s =
      byteOf (listedOf p s.sched).length :: bytes24 (BitVec.ofNat 24 ((cycleOf s.ltb.pos).toNat / 256))
        ++ [0, 1, 2, 3].flatMap fun k => slotOf s (listedOf p s.sched)[start + k]? := by
  have cycle : (cycleOf s.ltb.pos).extractLsb' 8 24 = BitVec.ofNat 24 ((cycleOf s.ltb.pos).toNat / 256) := by
    show BitVec.ofNat 24 ((cycleOf s.ltb.pos).toNat >>> 8) = _
    rw [Nat.shiftRight_eq_div_pow]
  rw [schedulePayload, cycle, slotBytes_eq]
  simp only [List.getElem?_drop]
  rfl

/-! ## READ CHANNEL (11.6) -/

theorem chanOfByte_byteOf (c : Chan) : chanOfByte (byteOf c.val) = some c := by
  have val : (byteOf c.val).toNat = c.val := Nat.mod_eq_of_lt (c.isLt.trans (by decide))
  rw [chanOfByte_some (by rw [val]; exact c.isLt)]
  exact congrArg some (Fin.ext val)

theorem namesChannel_eq_exists (s : State) (c : Chan) :
    s.namesChannel c = decide (∃ e ∈ allEntries s.sched, chanOf e.action = some c) := by
  rw [Bool.eq_iff_iff, decide_eq_true_iff]
  unfold State.namesChannel Entry.names
  simp only [List.any_eq_true, decide_eq_true_iff]

/-! ## TAKE EVENTS (11.9) -/

theorem actionByte_eq (k : Kind) (second : Bool) :
    actionByte k second = byteOf ((kindCode k).toNat + if second then 128 else 0) := by
  cases k <;> cases second <;> rfl

theorem statusBits_eq (already deferred : Bool) :
    putBit (putBit (0 : Byte) 0 already) 1 deferred =
      byteOf ((if already then 1 else 0) + if deferred then 2 else 0) := by
  cases already <;> cases deferred <;> rfl

theorem flatMap_recordBytes_length (l : List EventRecord) : (l.flatMap recordBytes).length = 16 * l.length := by
  induction l with
  | nil => rfl
  | cons r l ih =>
    rw [List.flatMap_cons, List.length_append, recordBytes_length, ih, List.length_cons]
    omega

/-! ## The restart of the keepalive timer, which these payloads do not show -/

theorem statusPayload_restartKeepalive (p : Port) (s : State) :
    statusPayload p (restartKeepalive p s) = statusPayload p s := by
  have shown : ∀ u : State, u = { s with sessions := u.sessions } → u.session p = restarted s.now (s.session p) →
      statusPayload p u = statusPayload p s := by
    intro u frame own
    unfold statusPayload
    rw [own, frame, restarted]
    split <;> rfl
  exact shown _ (restartKeepalive_frame p s) (restartKeepalive_only p s).own

theorem slotOf_restartKeepalive (p : Port) (s : State) (o : Option Listed) :
    slotOf (restartKeepalive p s) o = slotOf s o := by
  have lead : ∀ a, leadOf (restartKeepalive p s) a = leadOf s a := fun a => by
    rw [restartKeepalive_frame]
    rfl
  have timing : ∀ x, timingNumber (restartKeepalive p s) x = timingNumber s x := fun x => by
    unfold timingNumber
    simp only [lead]
  cases o with
  | none => rw [slotOf_none, slotOf_none]
  | some x => rw [slotOf_some, slotOf_some, summaryBytes_eq, summaryBytes_eq, timing]

theorem schedulePayload_restartKeepalive (p : Port) (start : Nat) (s : State) :
    schedulePayload p start (restartKeepalive p s) = schedulePayload p start s := by
  have sched : (restartKeepalive p s).sched = s.sched := by rw [restartKeepalive_frame]
  have ltb : (restartKeepalive p s).ltb = s.ltb := by rw [restartKeepalive_frame]
  rw [schedulePayload_eq, schedulePayload_eq, sched, ltb]
  simp only [slotOf_restartKeepalive]

/-! ## O17 -/

/-- R157: a request that is accepted, and changes nothing past the restart. -/
theorem request_reads {p : Port} {seq : Byte} {r : Request} {payload : List Byte} {s : State} (can : CanTake p s)
    (served : serve p r (restartKeepalive p s) = accept payload (restartKeepalive p s)) :
    Gives (exec (requestInstr p seq r) s) fun t =>
      t = { s with fronts := t.fronts, sessions := t.sessions }
        ∧ OnlySession p (restarted s.now (s.session p)) s t.sessions ∧ Answered p seq .ok payload s t.fronts :=
  ⟨_, exec_requestInstr p seq r s,
    request_rewrites can rfl served (restartKeepalive_frame p s) (restartKeepalive_only p s)⟩

/-- R155: the same for a request that needs a session. -/
theorem request_reads_attached {p : Port} {seq : Byte} {r : Request} {payload : List Byte} {s : State}
    (can : CanTake p s) (attached : (s.session p).attached = true)
    (served : act p r (restartKeepalive p s) = accept payload (restartKeepalive p s)) :
    Gives (exec (requestInstr p seq r) s) fun t =>
      t = { s with fronts := t.fronts, sessions := t.sessions }
        ∧ OnlySession p (restarted s.now (s.session p)) s t.sessions ∧ Answered p seq .ok payload s t.fronts :=
  request_reads can ((serve_allowed (.inl ((restartKeepalive_attached p s).trans attached))).trans served)

/-- Settles O17: the six payloads are those of chapter 11 in the state that the restart left, which none of them shows. -/
theorem readingRequestsChangeNothing : Obligations.ReadingRequestsChangeNothing := by
  unfold Obligations.ReadingRequestsChangeNothing
  intro p seq r s can
  have frame := restartKeepalive_frame p s
  refine ⟨?_, ?_, ?_, ?_, ?_, ?_⟩
  · rintro rfl
    exact request_reads can (serve_allowed (.inr rfl))
  · rintro rfl
    refine request_reads can ((serve_allowed (.inr rfl)).trans ?_)
    exact congrArg (accept · _) ((statusPayload_restartKeepalive p s).trans rfl)
  · rintro rfl
    refine request_reads can ((serve_allowed (.inr rfl)).trans ?_)
    exact congrArg (accept · _) ((congrArg devicePayload frame).trans rfl)
  · rintro attached c rfl
    refine request_reads_attached can attached ?_
    show serveReadChannel _ _ = _
    rw [serveReadChannel, chanOfByte_byteOf]
    refine congrArg (accept · _) ((congrArg (channelPayload c) frame).trans ?_)
    rw [← namesChannel_eq_exists]
    unfold channelPayload
    dsimp only
    rw [show State.chan { s with sessions := (restartKeepalive p s).sessions } c = s.chan c from rfl]
    cases (s.chan c).pendingOpen with
    | none => rfl
    | some o => cases o <;> rfl
  · rintro attached i rfl inRange due shown summary
    refine request_reads_attached can attached ?_
    have listed : shown = (listedOf p s.sched).map (listedNumbers s) := listedOf_numbers p s
    show serveReadSchedule _ _ _ = _
    rw [serveReadSchedule, if_pos (Nat.le_of_lt_succ inRange), schedulePayload_restartKeepalive, schedulePayload_eq,
      listed, List.length_map]
    refine congrArg (fun slots => accept (_ :: _ ++ slots) _) (congrArg (List.flatMap · _) (funext fun k => ?_))
    rw [List.getElem?_map]
    cases (listedOf p s.sched)[i.toNat + k]? with
    | none => rfl
    | some x =>
      rw [slotOf_some, summaryBytes_eq]
      unfold chanNumber triggerNumber
      dsimp only [summary, Option.map_some, listedNumbers]
      cases x.entry.rep <;> cases chanOf x.entry.action <;> cases x.entry.trig <;> rfl
  · rintro attached n rfl low high chan action body record
    have same : record = recordBytes := funext fun e => by
      dsimp only [record, recordBytes, body]
      cases e.body with
      | done tag label k second c already deferred figure =>
        simp only [bodyBytes, actionByte_eq, statusBits_eq]
        cases c <;> rfl
      | missed tag label k second c reason figure =>
        simp only [bodyBytes, actionByte_eq]
        cases c <;> rfl
      | claimEnded c cause removed => cases cause <;> rfl
      | fault c cause owner => cases owner <;> rfl
      | timebase new old cause ref period => rfl
      | supply lowered shed => rfl
      | capture i d fraction lock figure => cases d <;> rfl
      | loss count => rfl
    refine ⟨request_reads_attached can attached ?_, ?_⟩
    · have queue : ((restartKeepalive p s).session p).queue = (s.session p).queue := by
        rw [(restartKeepalive_only p s).own]
        exact (restarted_keeps s.now (s.session p)).1
      show serveTakeEvents _ _ _ = _
      rw [serveTakeEvents, if_pos ⟨low, high⟩, queue, same]
    · rw [same, flatMap_recordBytes_length, List.length_take]

end Sys2Proof.Machine
end

section
/-! O23: SET DEVICE (R163 to R165), and what it makes of the selector and the timebase (R31 to R34, R26). -/

namespace Sys2Proof.Machine

/-! ## The fields of the payload (11.5) -/

theorem modeCode_of_modeOfByte : ∀ {b : Byte} {x : RefMode}, modeOfByte b = some x → modeCode x = b := by
  intro b x
  cases x <;> revert b <;> decide

theorem nonzeroByte_some {b x : Byte} (h : nonzeroByte b = some x) : x = b := by
  unfold nonzeroByte at h
  split at h
  · cases h
  · exact (Option.some.inj h).symm

/-- 11.5: the settings stand on the wire as the payload's fields. -/
theorem deviceOf_fields {a : SetDeviceArgs} {d : DeviceSettings} (h : deviceOf a = some d) :
    modeCode d.mode = a.mode ∧ d.offsetA.setWidth 16 = a.offsetA ∧ d.offsetB.setWidth 16 = a.offsetB
      ∧ d.limit = a.limit.toNat ∧ flagByte d.shed = a.shed ∧ d.gap1.setWidth 16 = a.gap1
      ∧ d.gap2.setWidth 16 = a.gap2 ∧ d.gap3.setWidth 16 = a.gap3 ∧ d.gap4.setWidth 16 = a.gap4 := by
  simp only [deviceOf, Option.bind_eq_bind, Option.bind_eq_some_iff, Option.some.injEq] at h
  obtain ⟨mode, isMode, offsetA, isA, offsetB, isB, limit, isLimit, shed, isShed, gap1, is1, gap2, is2, gap3, is3, gap4,
    is4, rfl⟩ := h
  exact ⟨modeCode_of_modeOfByte isMode, setWidth_of_stepOf16 isA, setWidth_of_stepOf16 isB,
    congrArg BitVec.toNat (nonzeroByte_some isLimit), flagByte_of_flagOfByte isShed, setWidth_of_stepOf16 is1,
    setWidth_of_stepOf16 is2, setWidth_of_stepOf16 is3, setWidth_of_stepOf16 is4⟩

/-! ## What a change of selection makes of the timebase (R32) -/

/-- R165: a write of the settings leaves the clock. -/
structure KeepsClock (l l' : Ltb) : Prop where
  limit : l'.limit = l.limit
  pos : l'.pos = l.pos
  acc : l'.acc = l.acc
  period : l'.period = l.period

theorem KeepsClock.refl (l : Ltb) : KeepsClock l l := ⟨rfl, rfl, rfl, rfl⟩

theorem KeepsClock.trans {a b c : Ltb} (h : KeepsClock a b) (k : KeepsClock b c) : KeepsClock a c :=
  ⟨k.limit.trans h.limit, k.pos.trans h.pos, k.acc.trans h.acc, k.period.trans h.period⟩

theorem changeSelection_clock (r : RefId) (s : State) : KeepsClock s.ltb (changeSelection r s).ltb := by
  unfold changeSelection
  dsimp only
  split
  · rw [enterHoldover_ltb]
    exact ⟨rfl, rfl, rfl, rfl⟩
  · exact ⟨rfl, rfl, rfl, rfl⟩
  · exact ⟨rfl, rfl, rfl, rfl⟩
  · exact ⟨rfl, rfl, rfl, rfl⟩

theorem selectionMade_clock (mode : RefMode) (s : State) : KeepsClock s.ltb (selectionMade mode s).ltb := by
  unfold selectionMade
  split
  · exact changeSelection_clock _ s
  · split <;> exact .refl s.ltb

theorem switchedLtb_clock (l : Ltb) : KeepsClock l (switchedLtb l) := by
  unfold switchedLtb
  split <;> exact ⟨rfl, rfl, rfl, rfl⟩

/-- R6: the lock states in which a reference is being acquired. -/
def acquiring (l : Ltb) : Bool := decide (l.lock = .stopped ∨ l.lock = .lost)

/-- R32: what a change of selection makes of the timebase out of LOCKED. -/
def reselectedLtb (l : Ltb) : Ltb :=
  if acquiring l then { l with accepted := false, rejected := 0, baseValid := false, acq := Acquisition.none }
  else { l with accepted := false, rejected := 0, baseValid := false, relockCount := 0 }

theorem changeSelection_sel (r : RefId) (s : State) :
    (changeSelection r s).sel = { s.sel with selected := r, working := storedOffset s.sel r } := by
  unfold changeSelection
  rw [loadOffset_select]
  dsimp only
  split
  · rw [enterHoldover_sel]
  · rfl
  · rfl
  · rfl

theorem changeSelection_unlocked (r : RefId) {s : State} (unlocked : s.ltb.lock ≠ .locked) :
    changeSelection r s =
      { s with
        ltb := reselectedLtb s.ltb
        sel := { s.sel with selected := r, working := storedOffset s.sel r } } := by
  unfold changeSelection reselectedLtb acquiring
  rw [loadOffset_select]
  cases lock : s.ltb.lock with
  | locked => exact absurd lock unlocked
  | holdover | lost | stopped => simp only [clearWindow, lock, restartAcquisition]; rfl

/-- R26: the working offset after the selection `ref` is made. -/
def workingMade (ref : RefId) (s : State) : LineStep :=
  if acquiring s.ltb || decide (ref ≠ s.sel.selected) then storedOffset s.sel ref else s.sel.working

theorem selectionMade_sel (mode : RefMode) (s : State) :
    (selectionMade mode s).sel =
      { s.sel with
        selected := selectionOf mode s.sel.selected, working := workingMade (selectionOf mode s.sel.selected) s } := by
  unfold selectionMade workingMade acquiring
  split
  · next changes => rw [changeSelection_sel, decide_eq_true changes, Bool.or_true, if_pos rfl]
  · next same =>
    rw [not_not.mp same, decide_eq_false (not_not_intro rfl), Bool.or_false]
    split
    · next acquires => rw [decide_eq_true acquires]; rfl
    · next stays => rw [decide_eq_false stays]; rfl

/-- R31, R32: the selection made, but for a change of it in LOCKED. -/
theorem selectionMade_settled {mode : RefMode} {s : State}
    (settled : s.ltb.lock = .locked → selectionOf mode s.sel.selected = s.sel.selected) :
    selectionMade mode s =
      { s with
        ltb := if selectionOf mode s.sel.selected = s.sel.selected then s.ltb else reselectedLtb s.ltb
        sel := (selectionMade mode s).sel } := by
  unfold selectionMade
  by_cases changes : selectionOf mode s.sel.selected = s.sel.selected
  · rw [if_neg (not_not_intro changes), if_pos changes]
    split <;> rfl
  · rw [if_pos changes, if_neg changes, changeSelection_unlocked _ (mt settled changes)]

/-- R31: AUTO keeps the selection. -/
theorem selectionMade_stays (s : State) : selectionMade .auto s = { s with sel := (selectionMade .auto s).sel } := by
  have settled := selectionMade_settled (mode := .auto) (s := s) fun _ => rfl
  rw [if_pos (by rfl)] at settled
  exact settled

/-! ## Entering AUTO (R33) -/

/-- R33, R28: SET DEVICE enters AUTO where the standing condition asks for a switch. -/
def entersSwitching (mode : RefMode) (s : State) : Bool :=
  decide (mode = .auto ∧ s.sel.mode ≠ .auto ∧ s.ltb.lock ≠ .locked) && !(s.monitor s.sel.selected).qualified
    && (s.monitor (otherRef s.sel.selected)).qualified

theorem auto_of_entersSwitching {mode : RefMode} {s : State} (switches : entersSwitching mode s = true) :
    mode = .auto ∧ s.ltb.lock ≠ .locked := by
  unfold entersSwitching at switches
  simp only [Bool.and_eq_true, decide_eq_true_eq] at switches
  obtain ⟨⟨⟨auto, -, unlocked⟩, -⟩, -⟩ := switches
  exact ⟨auto, unlocked⟩

/-- The selector with the settings written. -/
def selectorWritten (mode : RefMode) (oa ob : LineStep) (s : State) : State :=
  { s with sel := { s.sel with mode := mode, offsetA := oa, offsetB := ob } }

theorem setSelector_cases (mode : RefMode) (oa ob : LineStep) (s : State) :
    setSelector mode oa ob s =
      if entersSwitching mode s then autoSwitch (selectionMade mode (selectorWritten mode oa ob s))
      else selectionMade mode (selectorWritten mode oa ob s) := by
  rw [setSelector_eq]
  unfold entersSwitching
  by_cases enters : mode = .auto ∧ s.sel.mode ≠ .auto
  · obtain ⟨rfl, was⟩ := enters
    have asked : standingCondition (selectionMade .auto (selectorWritten .auto oa ob s)) =
        (decide (s.ltb.lock ≠ .locked) && !(s.monitor s.sel.selected).qualified
          && (s.monitor (otherRef s.sel.selected)).qualified) :=
      selectionMade_auto _
    rw [if_pos ⟨rfl, was⟩]
    unfold testStanding
    simp only [was, ne_eq, not_false_eq_true, true_and]
    exact if_congr (iff_of_eq (congrArg (· = true) asked)) rfl rfl
  · rw [if_neg enters, decide_eq_false fun h => enters ⟨h.1, h.2.1⟩]
    rfl

theorem setSelector_clock (mode : RefMode) (oa ob : LineStep) (s : State) :
    KeepsClock s.ltb (setSelector mode oa ob s).ltb := by
  have made : KeepsClock s.ltb (selectionMade mode (selectorWritten mode oa ob s)).ltb :=
    selectionMade_clock mode (selectorWritten mode oa ob s)
  rw [setSelector_cases]
  split
  · rw [autoSwitch_ltb]
    exact made.trans (switchedLtb_clock _)
  · exact made

/-- R31, R165: the selector's settings, whatever the lock state. -/
theorem setSelector_sel (mode : RefMode) (oa ob : LineStep) (s : State) :
    (setSelector mode oa ob s).sel =
      { mode := mode, offsetA := oa, offsetB := ob
        selected := if entersSwitching mode s then otherRef s.sel.selected else selectionOf mode s.sel.selected
        working :=
          if entersSwitching mode s then storedOffset (selectorWritten mode oa ob s).sel (otherRef s.sel.selected)
          else workingMade (selectionOf mode s.sel.selected) (selectorWritten mode oa ob s) } := by
  rw [setSelector_cases]
  split
  · next switches =>
    obtain ⟨rfl, -⟩ := auto_of_entersSwitching switches
    rw [autoSwitch_sel, selectionMade_sel]
    rfl
  · rw [selectionMade_sel]
    rfl

/-- R32, R33: the timebase, but for a change of the selection in LOCKED. -/
theorem setSelector_ltb {mode : RefMode} (oa ob : LineStep) {s : State}
    (settled : s.ltb.lock = .locked → selectionOf mode s.sel.selected = s.sel.selected) :
    (setSelector mode oa ob s).ltb =
      if entersSwitching mode s then switchedLtb s.ltb
      else if selectionOf mode s.sel.selected = s.sel.selected then s.ltb
      else reselectedLtb s.ltb := by
  rw [setSelector_cases]
  split
  · next switches =>
    obtain ⟨rfl, -⟩ := auto_of_entersSwitching switches
    rw [autoSwitch_ltb, selectionMade_stays]
    rfl
  · rw [selectionMade_settled (by exact settled)]
    rfl

/-- R33, R30: the sessions, but for a change of the selection in LOCKED. -/
theorem setSelector_session {mode : RefMode} (oa ob : LineStep) {s : State}
    (settled : s.ltb.lock = .locked → selectionOf mode s.sel.selected = s.sel.selected) (q : Port) :
    (setSelector mode oa ob s).session q =
      if entersSwitching mode s then
        noticedSwitch (told s.ltb.pos
          (.timebase s.ltb.lock s.ltb.lock .switched (otherRef s.sel.selected) s.ltb.period) (s.session q))
      else s.session q := by
  rw [setSelector_cases]
  split
  · next switches =>
    obtain ⟨rfl, -⟩ := auto_of_entersSwitching switches
    have sel : (selectionMade .auto (selectorWritten .auto oa ob s)).sel.selected = s.sel.selected := by
      rw [selectionMade_sel]
      rfl
    rw [autoSwitch_session, sel, selectionMade_stays]
    rfl
  · rw [selectionMade_settled (by exact settled)]
    rfl

/-- R29: what a switch out of LOCKED makes of the timebase. -/
theorem switchedLtb_acquiring {l : Ltb} (unlocked : l.lock ≠ .locked) :
    switchedLtb l =
      if acquiring l then { l with acq := Acquisition.none }
      else { l with accepted := false, rejected := 0, baseValid := false, relockCount := 0 } := by
  rw [switchedLtb_unlocked unlocked]
  unfold acquiring
  cases lock : l.lock with
  | locked => exact absurd lock unlocked
  | holdover | lost | stopped => rfl

/-! ## SET DEVICE -/

/-- R164: another port holds a channel. -/
theorem sharedInUse_iff (p : Port) (s : State) :
    sharedInUse p s = true ↔ ∃ c q, ownerOf (s.chan c).claim = some q ∧ q ≠ p := by
  have other : ∀ c, ((ownerOf (s.chan c).claim).isSome && !s.holds p c) = true ↔
      ∃ q, ownerOf (s.chan c).claim = some q ∧ q ≠ p := fun c => by
    unfold State.holds
    cases ownerOf (s.chan c).claim <;> simp
  unfold sharedInUse
  simp only [List.any_eq_true, mem_allChans, true_and, other]

theorem settingsWritten_frame (d : DeviceSettings) (s : State) :
    settingsWritten d s =
      { s with
        ltb := { s.ltb with limit := d.limit }, supply := { s.supply with shed := d.shed }
        groups := (settingsWritten d s).groups } := rfl

theorem setGap_group (i : GroupId) (gap : LineStep) (s : State) (j : GroupId) :
    (setGap i gap s).group j = if i = j then { s.group j with gap := gap } else s.group j := by
  rw [setGap, State.setGroup_group]
  split
  · next same => rw [same]
  · rfl

/-- R97: the break gaps written. -/
theorem settingsWritten_group (d : DeviceSettings) (s : State) (g : GroupId) :
    (settingsWritten d s).group g = { s.group g with gap := [d.gap1, d.gap2, d.gap3, d.gap4].getD g.val 0 } := by
  simp only [settingsWritten, setGap_group]
  fin_cases g <;> rfl

/-- R165: what SET DEVICE leaves unchanged. -/
theorem setDevice_frame (d : DeviceSettings) (s : State) :
    setDevice d s =
      { s with
        ltb := (setDevice d s).ltb, sel := (setDevice d s).sel, sessions := (setDevice d s).sessions
        groups := (setDevice d s).groups, supply := { s.supply with shed := d.shed } } := by
  have kept := (setSelector_keeps d.mode d.offsetA d.offsetB (settingsWritten d s)).eq
  rw [← setDevice_eq] at kept
  generalize setDevice d s = t at kept
  rw [kept]
  rfl

theorem setDevice_group (d : DeviceSettings) (s : State) (g : GroupId) :
    (setDevice d s).group g = { s.group g with gap := [d.gap1, d.gap2, d.gap3, d.gap4].getD g.val 0 } :=
  ((setSelector_keeps d.mode d.offsetA d.offsetB (settingsWritten d s)).group g).trans (settingsWritten_group d s g)

theorem setDevice_clock (d : DeviceSettings) (s : State) :
    KeepsClock { s.ltb with limit := d.limit } (setDevice d s).ltb := by
  rw [← settingsWritten_ltb]
  exact setSelector_clock d.mode d.offsetA d.offsetB (settingsWritten d s)

/-- 11.5: the response shows the settings as the payload gave them. -/
theorem devicePayload_setDevice {a : SetDeviceArgs} {d : DeviceSettings} (good : deviceOf a = some d) (s : State) :
    devicePayload (setDevice d s) =
      requestPayload (.setDevice a)
        ++ [refCode (setDevice d s).sel.selected, lockCode (setDevice d s).ltb.lock] := by
  obtain ⟨mode, offsetA, offsetB, limit, shed, gap1, gap2, gap3, gap4⟩ := deviceOf_fields good
  have written : (setDevice d s).sel.mode = d.mode ∧ (setDevice d s).sel.offsetA = d.offsetA
      ∧ (setDevice d s).sel.offsetB = d.offsetB := by
    rw [setDevice_eq, setSelector_sel]
    exact ⟨rfl, rfl, rfl⟩
  have high : (setDevice d s).supply.shed = d.shed := by rw [setDevice_frame]
  obtain ⟨isMode, isA, isB⟩ := written
  have isLimit : byteOf (setDevice d s).ltb.limit = a.limit := by
    rw [(setDevice_clock d s).limit]
    show byteOf d.limit = _
    rw [limit, byteOf, BitVec.ofNat_toNat, BitVec.setWidth_eq]
  have gap : ∀ (g : GroupId) (x : BitVec 16),
      ([d.gap1, d.gap2, d.gap3, d.gap4].getD g.val 0).setWidth 16 = x →
      bytes10 ((setDevice d s).group g).gap = bytes16 x := fun g x is => by
    rw [setDevice_group]
    exact congrArg bytes16 is
  unfold devicePayload
  rw [gap 0 a.gap1 gap1, gap 1 a.gap2 gap2, gap 2 a.gap3 gap3, gap 3 a.gap4 gap4, isMode, isA, isB, isLimit, high, mode,
    shed, bytes10, bytes10, offsetA, offsetB]
  rfl

/-! ## SET DEVICE behind the restart of the keepalive timer -/

/-- A stored offset as the settings give it. -/
def offsetSet (d : DeviceSettings) (r : RefId) : LineStep := if r = .a then d.offsetA else d.offsetB

theorem storedOffset_selectorWritten (d : DeviceSettings) (s : State) (r : RefId) :
    storedOffset (selectorWritten d.mode d.offsetA d.offsetB s).sel r = offsetSet d r := by
  cases r <;> rfl

section
variable {p : Port} {d : DeviceSettings} {s w : State}

/-- What the selector's work finds: the state of before, the limit and the restart apart. -/
theorem settingsWritten_restartKeepalive (written : settingsWritten d (restartKeepalive p s) = w) :
    w.sel = s.sel ∧ w.ltb = { s.ltb with limit := d.limit } ∧ (∀ r, w.monitor r = s.monitor r)
      ∧ ∀ q, w.session q = if q = p then restarted s.now (s.session q) else s.session q := by
  subst written
  refine ⟨?_, ?_, fun r => ?_, fun q => ?_⟩
  · rw [settingsWritten_sel, restartKeepalive_frame]
  · rw [settingsWritten_ltb, restartKeepalive_frame]
  · rw [settingsWritten_frame, restartKeepalive_frame]
    rfl
  · rw [settingsWritten_session, restartKeepalive_session]

theorem entersSwitching_congr {mode : RefMode} (sel : w.sel = s.sel) (lock : w.ltb.lock = s.ltb.lock)
    (monitor : ∀ r, w.monitor r = s.monitor r) : entersSwitching mode w = entersSwitching mode s := by
  unfold entersSwitching
  rw [sel, lock, monitor, monitor]

theorem setDevice_restartKeepalive_sel (p : Port) (d : DeviceSettings) (s : State) :
    (setDevice d (restartKeepalive p s)).sel =
      { mode := d.mode, offsetA := d.offsetA, offsetB := d.offsetB
        selected := if entersSwitching d.mode s then otherRef s.sel.selected else selectionOf d.mode s.sel.selected
        working :=
          if entersSwitching d.mode s then offsetSet d (otherRef s.sel.selected)
          else if acquiring s.ltb || decide (selectionOf d.mode s.sel.selected ≠ s.sel.selected) then
            offsetSet d (selectionOf d.mode s.sel.selected)
          else s.sel.working } := by
  rw [setDevice_eq, setSelector_sel]
  unfold workingMade
  rw [storedOffset_selectorWritten, storedOffset_selectorWritten]
  generalize written : settingsWritten d (restartKeepalive p s) = w
  obtain ⟨sel, ltb, monitor, -⟩ := settingsWritten_restartKeepalive written
  rw [entersSwitching_congr sel (by rw [ltb]) monitor]
  unfold selectorWritten acquiring
  dsimp only
  rw [sel, ltb]

theorem setDevice_restartKeepalive_frame (p : Port) (d : DeviceSettings) (s : State) :
    setDevice d (restartKeepalive p s) =
      { s with
        ltb := (setDevice d (restartKeepalive p s)).ltb, sel := (setDevice d (restartKeepalive p s)).sel
        sessions := (setDevice d (restartKeepalive p s)).sessions
        groups := (setDevice d (restartKeepalive p s)).groups, supply := { s.supply with shed := d.shed } } := by
  refine (setDevice_frame d _).trans ?_
  generalize setDevice d (restartKeepalive p s) = v
  rw [restartKeepalive_frame]

theorem setDevice_restartKeepalive_clock (p : Port) (d : DeviceSettings) (s : State) :
    KeepsClock { s.ltb with limit := d.limit } (setDevice d (restartKeepalive p s)).ltb := by
  have ltb : (restartKeepalive p s).ltb = s.ltb := by rw [restartKeepalive_frame]
  rw [← ltb]
  exact setDevice_clock d (restartKeepalive p s)

theorem setDevice_restartKeepalive_group (p : Port) (d : DeviceSettings) (s : State) (g : GroupId) :
    (setDevice d (restartKeepalive p s)).group g =
      { s.group g with gap := [d.gap1, d.gap2, d.gap3, d.gap4].getD g.val 0 } := by
  rw [setDevice_group, restartKeepalive_frame]
  rfl

variable (settled : s.ltb.lock = .locked → selectionOf d.mode s.sel.selected = s.sel.selected)
include settled

theorem setDevice_restartKeepalive_ltb :
    (setDevice d (restartKeepalive p s)).ltb =
      if entersSwitching d.mode s then switchedLtb { s.ltb with limit := d.limit }
      else if selectionOf d.mode s.sel.selected = s.sel.selected then { s.ltb with limit := d.limit }
      else reselectedLtb { s.ltb with limit := d.limit } := by
  rw [setDevice_eq]
  generalize written : settingsWritten d (restartKeepalive p s) = w
  obtain ⟨sel, ltb, monitor, -⟩ := settingsWritten_restartKeepalive written
  rw [setSelector_ltb _ _ (by rw [sel, ltb]; exact settled), entersSwitching_congr sel (by rw [ltb]) monitor, sel, ltb]

theorem setDevice_restartKeepalive_session (q : Port) :
    (setDevice d (restartKeepalive p s)).session q =
      if entersSwitching d.mode s then
        noticedSwitch (told s.ltb.pos
          (.timebase s.ltb.lock s.ltb.lock .switched (otherRef s.sel.selected) s.ltb.period)
          (if q = p then restarted s.now (s.session q) else s.session q))
      else if q = p then restarted s.now (s.session q) else s.session q := by
  rw [setDevice_eq]
  generalize written : settingsWritten d (restartKeepalive p s) = w
  obtain ⟨sel, ltb, monitor, session⟩ := settingsWritten_restartKeepalive written
  rw [setSelector_session _ _ (by rw [sel, ltb]; exact settled), entersSwitching_congr sel (by rw [ltb]) monitor, sel,
    ltb, session]

end

/-! ## O23 -/

/-- Settles O23: the settings, then the selection that the mode implies, then the switch where it enters AUTO. -/
theorem setDeviceWrites : Obligations.SetDeviceWrites := by
  unfold Obligations.SetDeviceWrites
  intro p seq a d s can good
  refine ⟨deviceOf_fields good, ?_⟩
  obtain ⟨t, sent⟩ : ∃ t, sendRequest p seq (.setDevice a) s = t := ⟨_, rfl⟩
  refine ⟨t, congrArg Host.Outcome.next sent, ?_⟩
  have frame := restartKeepalive_frame p s
  have serves : ∀ u, act p (.setDevice a) u =
      if sharedInUse p u then refuse .sharedInUse u else accept (devicePayload (setDevice d u)) (setDevice d u) := by
    intro u
    show serveSetDevice p a u = _
    unfold serveSetDevice
    rw [good]
  have shared : sharedInUse p (restartKeepalive p s) = true ↔ ∃ c q, ownerOf (s.chan c).claim = some q ∧ q ≠ p := by
    rw [sharedInUse_iff, frame]
    rfl
  split
  · next other => exact request_refused can sent ((serves _).trans (if_pos (shared.mpr other)))
  · next own =>
    have kept := setDevice_restartKeepalive_frame p d s
    have clock := setDevice_restartKeepalive_clock p d s
    have group := setDevice_restartKeepalive_group p d s
    have isSel := setDevice_restartKeepalive_sel p d s
    have isLtb := setDevice_restartKeepalive_ltb (p := p) (d := d) (s := s)
    have isSession := setDevice_restartKeepalive_session (p := p) (d := d) (s := s)
    obtain ⟨same, answered⟩ := request_accepted can sent ((serves _).trans (if_neg (mt shared.mp own)))
      (by rw [kept]) (by rw [kept])
    rw [devicePayload_setDevice good] at answered
    generalize setDevice d (restartKeepalive p s) = v at same kept clock group answered isSel isLtb isSession
    generalize t.fronts = F at same answered
    subst same
    obtain ⟨limit, pos, acc, period⟩ := clock
    have fixed : d.mode ≠ .auto → v.sel.selected = selectionOf d.mode s.sel.selected := fun fixed => by
      rw [isSel]
      exact if_neg fun switches => fixed (auto_of_entersSwitching switches).1
    refine ⟨congrArg (fun x : State => { x with fronts := F }) kept, limit, by rw [isSel], by rw [isSel], by rw [isSel], pos,
      acc, period, group, fun isA => ?_, fun isB => ?_, answered, ?_⟩
    · rw [fixed (by rw [isA]; decide), isA]
      rfl
    · rw [fixed (by rw [isB]; decide), isB]
      rfl
    · intro old other ref offset l cleared acquires switches record settled
      have isStored : ∀ r, offsetSet d r = offset r := fun r => by cases r <;> rfl
      refine ⟨(isLtb settled).trans ?_, isSel.trans ?_, fun q => (isSession settled q).trans ?_⟩
      · show (if switches then switchedLtb l else if ref = s.sel.selected then l else reselectedLtb l) = _
        by_cases on : switches = true
        · rw [switchedLtb_acquiring (l := l) (auto_of_entersSwitching (mode := d.mode) (s := s) on).2]
          simp only [on, Bool.true_and, if_true]
          rfl
        · simp only [Bool.eq_false_iff.mpr on, Bool.false_and, Bool.false_eq_true, if_false]
          rfl
      · rw [isStored, isStored]
        rfl
      · rfl

end Sys2Proof.Machine
end

section
/-! O57: what reaches the part while it is held in reset (R188, log 18). -/

namespace Sys2Proof.Machine

/-- The commands of device reset: a power-on, a low of RESET_N, a release (R162, R188). -/
def ofReset : Instr → Prop
  | .powerOnReset => True
  | .pinReset => True
  | .resetRelease _ _ _ => True
  | _ => False

/-- Every command but those of device reset acts on a running part alone. -/
theorem exec_whileRunning {c : Instr} (other : ¬ofReset c) (s : State) : ∃ f, exec c s = .next (s.whileRunning f) := by
  cases c with
  | powerOnReset | pinReset | resetRelease => exact absurd trivial other
  | _ => exact ⟨_, rfl⟩

/-- A part that runs is not released. -/
theorem releaseResetAt_running {s : State} (running : s.power = .running) (straps : Straps) (fbk : BitVec 12)
    (suplowN : Bool) : releaseResetAt straps fbk suplowN s = s := by
  simp only [releaseResetAt, running]

/-- Settles O57: in reset, a command that acts on a running part alone does nothing. -/
theorem heldInReset : Obligations.HeldInReset := by
  unfold Obligations.HeldInReset
  refine fun c s => ⟨fun reset noPower noPin noRelease => ?_, fun running straps fbk suplowN =>
    congrArg Host.Outcome.next (releaseResetAt_running running straps fbk suplowN)⟩
  have other : ¬ofReset c := by
    cases c with
    | powerOnReset => exact absurd rfl noPower
    | pinReset => exact absurd rfl noPin
    | resetRelease straps fbk suplowN => exact absurd rfl (noRelease straps fbk suplowN)
    | _ => exact id
  obtain ⟨f, acts⟩ := exec_whileRunning other s
  rw [acts, State.whileRunning_reset reset]

end Sys2Proof.Machine
end

section
/-! O12: the CRC (R173), bit by bit and over the frames that it ends. -/

namespace Sys2Proof.Machine

/-- R173: one bit, most significant first, taken into the CRC register. -/
def crcBit (r : Byte) (bit : Bool) : Byte := if r.getLsbD 7 = bit then r <<< 1 else (r <<< 1) ^^^ 0x2F

/-- R173: a shift of the register with the bits still to come in it takes in the first of them. -/
theorem crcShift_xor (r y : Byte) : crcShift (r ^^^ y) = crcBit r (y.getLsbD 7) ^^^ y <<< 1 := by
  have top : (r ^^^ y).msb = (r.getLsbD 7 ^^ y.getLsbD 7) := by
    rw [BitVec.msb_xor, BitVec.msb_eq_getLsbD_last, BitVec.msb_eq_getLsbD_last]
  rw [crcShift, crcBit, top, BitVec.shiftLeft_xor_distrib]
  by_cases same : r.getLsbD 7 = y.getLsbD 7
  · rw [if_pos same, same, Bool.xor_self, if_neg Bool.false_ne_true]
  · rw [if_neg same, if_pos (bne_iff_ne.mpr same), BitVec.xor_assoc, BitVec.xor_assoc, BitVec.xor_comm (y <<< 1)]

/-- The bits of a byte, most significant first. -/
def bitsOf (b : Byte) : List Bool := [7, 6, 5, 4, 3, 2, 1, 0].map fun i => b.getLsbD i

theorem getLsbD_shiftLeft_top (b : Byte) {k : Nat} (within : k ≤ 7) : (b <<< k).getLsbD 7 = b.getLsbD (7 - k) := by
  rw [BitVec.getLsbD_shiftLeft, decide_eq_true (by decide : 7 < 8), decide_eq_false (by omega)]
  rfl

/-- R173: the register with the bits of `b` from its `k`-th on still to come in it. -/
theorem crcShift_rest (r b : Byte) {k : Nat} (within : k ≤ 7) :
    crcShift (r ^^^ b <<< k) = crcBit r (b.getLsbD (7 - k)) ^^^ b <<< (k + 1) := by
  rw [crcShift_xor, getLsbD_shiftLeft_top b within, BitVec.shiftLeft_add]

/-- R173: the bytewise form takes in the byte's bits one by one. -/
theorem crcByte_bits (r b : Byte) : crcByte r b = (bitsOf b).foldl crcBit r := by
  have start : r ^^^ b = r ^^^ b <<< 0 := by rw [BitVec.shiftLeft_zero]
  have spent : b <<< 8 = 0#8 := BitVec.shiftLeft_eq_zero (Nat.le_refl 8)
  rw [crcByte, start]
  iterate 8 rw [crcShift_rest _ _ (by decide)]
  rw [spent, BitVec.xor_zero]
  rfl

theorem foldl_crcByte_bits (bytes : List Byte) (r : Byte) :
    bytes.foldl crcByte r = (bytes.flatMap bitsOf).foldl crcBit r := by
  induction bytes generalizing r with
  | nil => rfl
  | cons b bytes ih => rw [List.flatMap_cons, List.foldl_append, List.foldl_cons, crcByte_bits, ih]

/-- R173: the register's own byte leaves it at 0. -/
theorem crcByte_self (c : Byte) : crcByte c c = 0 := by
  rw [crcByte, BitVec.xor_self]
  rfl

/-- Settles O12: byte by byte the register takes in the bits, and its own byte clears it. -/
theorem crcOfFrames : Obligations.CrcOfFrames := by
  unfold Obligations.CrcOfFrames
  refine ⟨fun bytes => foldl_crcByte_bits bytes 0xFF, fun bytes => ?_, fun seq r => ⟨_, rfl⟩, fun r => ⟨_, rfl⟩⟩
  rw [crc, List.foldl_concat]
  exact crcByte_self _

end Sys2Proof.Machine
end

section
/-! O13: the frame of a request on each port is the request's command (R171, R177, R181, R184). -/

namespace Sys2Proof.Machine

theorem requestFrame_length (seq : Byte) (r : Request) : (requestFrame seq r).length = (requestPayload r).length + 4 := by
  simp [requestFrame]

/-- R171: the request's command is received as its frame is. -/
theorem exec_requestInstr_running (p : Port) (seq : Byte) (r : Request) {s : State} (running : s.power = .running) :
    exec (requestInstr p seq r) s = .next (submit p { seq := seq, body := .good r } s) := by
  rw [exec_requestInstr, sendRequest, State.whileRunning_running running]

/-- Settles O13: each port submits the request that its frame is read back as. -/
theorem framesAreTheirRequests : Obligations.FramesAreTheirRequests := by
  unfold Obligations.FramesAreTheirRequests
  intro seq r s running
  have framed := requestFrameRoundTrip seq r
  refine ⟨?_, ?_, ?_⟩
  · intro n u still idle
    exact ⟨_, exec_hp0RequestFrame framed running still idle,
      exec_requestInstr_running 0 seq r (s := { u with pins := { u.pins with rxd := true } }) still⟩
  · refine ⟨_, exec_hp1Write_frame framed running, ?_⟩
    rw [requestFrame_length]
    exact exec_requestInstr_running 1 seq r running
  · refine ⟨_, exec_hp2Request_frame framed running, ?_⟩
    rw [requestFrame_length]
    exact exec_requestInstr_running 2 seq r running

end Sys2Proof.Machine
end

section
/-! O14: the response buffer (R171, R179, R120). That a held request is taken as if the buffer were EMPTY rests on this: no
request reads the response buffer of its port. -/

namespace Sys2Proof.Machine

/-! ## The state with another response buffer: what is read of it, and what is written to it -/

/-- The state with another response buffer at a port. -/
def State.withBuffer (s : State) (p : Port) (b : Buffer) : State := s.setFront p { s.front p with buffer := b }

section
variable (p : Port) (b : Buffer) (s : State)

@[simp] theorem withBuffer_ltb : (s.withBuffer p b).ltb = s.ltb := rfl
@[simp] theorem withBuffer_now : (s.withBuffer p b).now = s.now := rfl
@[simp] theorem withBuffer_sched : (s.withBuffer p b).sched = s.sched := rfl
@[simp] theorem withBuffer_supply : (s.withBuffer p b).supply = s.supply := rfl
@[simp] theorem withBuffer_chan (c : Chan) : (s.withBuffer p b).chan c = s.chan c := rfl
@[simp] theorem withBuffer_session (q : Port) : (s.withBuffer p b).session q = s.session q := rfl

@[simp] theorem groupOccupied_withBuffer (g : GroupId) : groupOccupied (s.withBuffer p b) g = groupOccupied s g := rfl
@[simp] theorem closeAnswer_withBuffer (c : Chan) : closeAnswer (s.withBuffer p b) c = closeAnswer s c := rfl
@[simp] theorem openAnswer_withBuffer (c : Chan) : openAnswer (s.withBuffer p b) c = openAnswer s c := rfl
@[simp] theorem namesChannel_withBuffer (c : Chan) : (s.withBuffer p b).namesChannel c = s.namesChannel c := rfl
@[simp] theorem fireOf_withBuffer (a : Action) (due : Pos) : fireOf (s.withBuffer p b) a due = fireOf s a due := by
  cases a <;> rfl
@[simp] theorem lastEntryReport_withBuffer (a : Action) :
    lastEntryReport a (s.withBuffer p b) = lastEntryReport a s := rfl
@[simp] theorem reached_withBuffer (x : PendingEntry) : reached (s.withBuffer p b) x = reached s x := rfl

@[simp] theorem setChan_withBuffer (c : Chan) (x : Channel) :
    (s.withBuffer p b).setChan c x = (s.setChan c x).withBuffer p b := rfl
@[simp] theorem vacate_withBuffer (g : GroupId) : vacate g (s.withBuffer p b) = (vacate g s).withBuffer p b := rfl
@[simp] theorem setSession_withBuffer (q : Port) (x : Session) :
    (s.withBuffer p b).setSession q x = (s.setSession q x).withBuffer p b := rfl
@[simp] theorem handToFault_withBuffer (pos : Pos) (body : EventBody) :
    (s.withBuffer p b).handToFault pos body = (s.handToFault pos body).withBuffer p b := rfl
@[simp] theorem removeWhere_withBuffer (f : Entry → Bool) :
    (s.withBuffer p b).removeWhere f = (s.removeWhere f).withBuffer p b := rfl
@[simp] theorem insertPending_withBuffer (e : Entry) (due fire : Pos) :
    (s.withBuffer p b).insertPending e due fire = (s.insertPending e due fire).withBuffer p b := rfl

theorem schedSet_withBuffer (d : Schedule) :
    ({ s.withBuffer p b with sched := d } : State) = ({ s with sched := d } : State).withBuffer p b := rfl

/-- A choice between two operations that do not look at the buffer. -/
theorem ite_withBuffer {c : Prop} [Decidable c] {t u v w : State} (yes : v = t.withBuffer p b)
    (no : w = u.withBuffer p b) : (if c then v else w) = (if c then t else u).withBuffer p b := by
  split
  · exact yes
  · exact no

/-! ## Channels and the work of one handling -/

@[simp] theorem handTo_withBuffer (q : Port) (pos : Pos) (body : EventBody) :
    (s.withBuffer p b).handTo q pos body = (s.handTo q pos body).withBuffer p b :=
  ite_withBuffer p b rfl rfl

@[simp] theorem handToOwner_withBuffer (q : Option Port) (pos : Pos) (body : EventBody) :
    (s.withBuffer p b).handToOwner q pos body = (s.handToOwner q pos body).withBuffer p b := by
  cases q <;> simp [State.handToOwner]

@[simp] theorem updateOccupancy_withBuffer (c : Chan) :
    updateOccupancy c (s.withBuffer p b) = (updateOccupancy c s).withBuffer p b := by
  unfold updateOccupancy
  simp only [withBuffer_chan, setChan_withBuffer, groupOccupied_withBuffer]
  split
  · rfl
  · exact ite_withBuffer p b rfl rfl

@[simp] theorem closeCommand_withBuffer (c : Chan) :
    closeCommand c (s.withBuffer p b) = ((closeCommand c s).1, (closeCommand c s).2.withBuffer p b) := by
  cases answer : closeAnswer s c <;> simp [closeCommand, answer]

@[simp] theorem openCommand_withBuffer (c : Chan) :
    openCommand c (s.withBuffer p b) = ((openCommand c s).1, (openCommand c s).2.withBuffer p b) := by
  cases answer : openAnswer s c <;> simp [openCommand, answer]

@[simp] theorem overrideOpen_withBuffer (c : Chan) :
    overrideOpen c (s.withBuffer p b) = (overrideOpen c s).withBuffer p b :=
  ite_withBuffer p b (updateOccupancy_withBuffer p b (s.setChan c _) c) rfl

@[simp] theorem faultRecord_withBuffer (c : Chan) (cause : FaultCause) :
    faultRecord c cause (s.withBuffer p b) = (faultRecord c cause s).withBuffer p b := by
  cases owner : ownerOf (s.chan c).claim <;> simp [faultRecord, owner]

@[simp] theorem endClaim_withBuffer (c : Chan) (cause : EndedCause) :
    endClaim c cause (s.withBuffer p b) = (endClaim c cause s).withBuffer p b := by
  simp [endClaim]

@[simp] theorem removeChannelEntries_withBuffer (c : Chan) :
    removeChannelEntries c (s.withBuffer p b) = (removeChannelEntries c s).withBuffer p b := rfl

@[simp] theorem reinsertNext_withBuffer (e : Entry) (r : Repeat) (due : Pos) :
    reinsertNext e r due (s.withBuffer p b) = (reinsertNext e r due s).withBuffer p b := by
  simp [reinsertNext]

@[simp] theorem drainTest_withBuffer (c : Chan) :
    drainTest c (s.withBuffer p b) = ((drainTest c s).1.withBuffer p b, (drainTest c s).2) := by
  unfold drainTest completeAtFault
  simp only [withBuffer_chan, namesChannel_withBuffer, setChan_withBuffer, endClaim_withBuffer,
    removeChannelEntries_withBuffer]
  split
  · rfl
  · split
    · rfl
    · split
      · rfl
      · split <;> rfl

@[simp] theorem endFiring_withBuffer (e : Entry) (due : Pos) :
    endFiring e due (s.withBuffer p b) = ((endFiring e due s).1.withBuffer p b, (endFiring e due s).2) := by
  unfold endFiring
  simp only [reinsertNext_withBuffer, lastEntryReport_withBuffer]
  split
  · split <;> rfl
  · rfl

@[simp] theorem resolveDeferred_withBuffer (inLoop : Bool) (tag : Tag) :
    resolveDeferred inLoop tag (s.withBuffer p b) =
      ((resolveDeferred inLoop tag s).1.withBuffer p b, (resolveDeferred inLoop tag s).2) := by
  unfold resolveDeferred
  simp only [withBuffer_sched, schedSet_withBuffer, lastEntryReport_withBuffer, reinsertNext_withBuffer]
  split
  · rfl
  · split
    · split <;> rfl
    · rfl

@[simp] theorem resolveHeld_withBuffer (inLoop : Bool) (c : Chan) (tag : Tag) (body : Nat → EventBody) :
    resolveHeld inLoop c tag body (s.withBuffer p b) =
      ((resolveHeld inLoop c tag body s).1.withBuffer p b, (resolveHeld inLoop c tag body s).2) := by
  simp [resolveHeld]

@[simp] theorem executePendingOpen_withBuffer (inLoop : Bool) (c : Chan) (o : PendingOpen) (already : Bool) :
    executePendingOpen inLoop c o already (s.withBuffer p b) =
      ((executePendingOpen inLoop c o already s).1.withBuffer p b, (executePendingOpen inLoop c o already s).2) := by
  cases o <;> simp [executePendingOpen, clearPendingOpen]

@[simp] theorem examinePendingOpen_withBuffer (inLoop : Bool) (c : Chan) :
    examinePendingOpen inLoop c (s.withBuffer p b) =
      ((examinePendingOpen inLoop c s).1.withBuffer p b, (examinePendingOpen inLoop c s).2) := by
  cases waits : (s.chan c).pendingOpen with
  | none => simp [examinePendingOpen, waits]
  | some o =>
    cases opens : openCommand c s with
    | mk answer t => cases answer <;> simp [examinePendingOpen, waits, opens]

@[simp] theorem issueMissed_withBuffer (x : PendingEntry) (reason : MissReason) :
    issueMissed x reason (s.withBuffer p b) =
      ((issueMissed x reason s).1.withBuffer p b, (issueMissed x reason s).2) := by
  simp [issueMissed, missedRecord]

@[simp] theorem afterDone_withBuffer (x : PendingEntry) :
    afterDone x (s.withBuffer p b) = ((afterDone x s).1.withBuffer p b, (afterDone x s).2) := by
  unfold afterDone
  simp only [insertPending_withBuffer, fireOf_withBuffer, endFiring_withBuffer]
  split <;> rfl

@[simp] theorem issueDone_withBuffer (x : PendingEntry) (already : Bool) :
    issueDone x already (s.withBuffer p b) = ((issueDone x already s).1.withBuffer p b, (issueDone x already s).2) := by
  simp [issueDone, doneRecord]

@[simp] theorem handOff_withBuffer (x : PendingEntry) (c : Chan) :
    handOff x c (s.withBuffer p b) = ((handOff x c s).1.withBuffer p b, (handOff x c s).2) := by
  unfold handOff
  simp only [withBuffer_chan, setChan_withBuffer, withBuffer_sched, schedSet_withBuffer, lastEntryReport_withBuffer]
  split
  · split <;> rfl
  · rfl

@[simp] theorem issueAnswered_withBuffer (x : PendingEntry) (c : Chan) (a : Answer) :
    issueAnswered x c a (s.withBuffer p b) =
      ((issueAnswered x c a s).1.withBuffer p b, (issueAnswered x c a s).2) := by
  cases a with
  | accepted | already => simp [issueAnswered]
  | refused reason =>
    simp only [issueAnswered, withBuffer_chan, handOff_withBuffer, issueMissed_withBuffer]
    split <;> rfl

@[simp] theorem issue_withBuffer (x : PendingEntry) :
    issue x (s.withBuffer p b) = ((issue x s).1.withBuffer p b, (issue x s).2) := by
  unfold issue
  simp only [withBuffer_ltb, withBuffer_supply, issueMissed_withBuffer, issueDone_withBuffer,
    closeCommand_withBuffer, openCommand_withBuffer]
  split
  · rfl
  · split
    · rfl
    · split
      · rfl
      · split <;> simp

@[simp] theorem fireHead_withBuffer :
    fireHead (s.withBuffer p b) = ((fireHead s).1.withBuffer p b, (fireHead s).2) := by
  cases first : s.sched.pending with
  | nil => simp [fireHead, first]
  | cons x l =>
    unfold fireHead
    simp only [withBuffer_sched, first, schedSet_withBuffer, reached_withBuffer, issue_withBuffer]
    split <;> rfl

theorem Task.run_withBuffer (inLoop : Bool) (t : Task) :
    t.run inLoop (s.withBuffer p b) = ((t.run inLoop s).1.withBuffer p b, (t.run inLoop s).2) := by
  cases t <;> simp [Task.run]

theorem runTasks_withBuffer (n : Nat) (tasks : List Task) :
    runTasks n tasks (s.withBuffer p b) = (runTasks n tasks s).withBuffer p b := by
  induction n generalizing tasks s with
  | zero => rfl
  | succ n ih =>
    cases tasks with
    | nil => rfl
    | cons t ts => rw [runTasks_cons, runTasks_cons, Task.run_withBuffer, ih]

@[simp] theorem work_withBuffer (tasks : List Task) : work tasks (s.withBuffer p b) = (work tasks s).withBuffer p b :=
  runTasks_withBuffer p b s workFuel tasks

@[simp] theorem enterFault_withBuffer (c : Chan) (cause : FaultCause) :
    enterFault c cause (s.withBuffer p b) = (enterFault c cause s).withBuffer p b := by
  unfold enterFault
  simp only [withBuffer_chan, withBuffer_ltb, setChan_withBuffer, faultRecord_withBuffer, resolveHeld_withBuffer,
    work_withBuffer]
  split <;> rfl

/-! ## Claims, sessions and groups -/

@[simp] theorem overrideWork_withBuffer (c : Chan) :
    overrideWork c (s.withBuffer p b) = (overrideWork c s).withBuffer p b := by
  refine ite_withBuffer p b ?_ rfl
  rw [overrideOpen_withBuffer, work_withBuffer]

@[simp] theorem gracefulRelease_withBuffer (c : Chan) :
    gracefulRelease c (s.withBuffer p b) = (gracefulRelease c s).withBuffer p b := by
  unfold gracefulRelease
  simp only [withBuffer_chan, withBuffer_sched, setChan_withBuffer, schedSet_withBuffer, work_withBuffer]
  split <;> rfl

@[simp] theorem freeByForce_withBuffer (c : Chan) :
    freeByForce c (s.withBuffer p b) = (freeByForce c s).withBuffer p b := by
  cases safe : (s.chan c).cfg.safe <;> simp [freeByForce, safe]

@[simp] theorem forcedRelease_withBuffer (c : Chan) :
    forcedRelease c (s.withBuffer p b) = (forcedRelease c s).withBuffer p b := by
  simp [forcedRelease]

/-- A fold of turns that do not look at the buffer. -/
theorem foldl_withBuffer {α : Type} (f : State → α → State)
    (turn : ∀ s x, f (s.withBuffer p b) x = (f s x).withBuffer p b) (l : List α) :
    l.foldl f (s.withBuffer p b) = (l.foldl f s).withBuffer p b := by
  induction l generalizing s with
  | nil => rfl
  | cons x l ih => rw [List.foldl_cons, List.foldl_cons, turn, ih]

@[simp] theorem releaseChans_withBuffer (mode : ReleaseMode) (set : List Chan) :
    releaseChans mode set (s.withBuffer p b) = (releaseChans mode set s).withBuffer p b := by
  refine foldl_withBuffer p b s _ (fun s c => ?_) set
  cases mode <;> simp

theorem endHold_withBuffer (q : Port) (c : Chan) :
    endHold q (s.withBuffer p b) c = (endHold q s c).withBuffer p b := by
  refine ite_withBuffer p b ?_ rfl
  simp only [freeByForce_withBuffer, withBuffer_chan, setChan_withBuffer]

@[simp] theorem sessionEnd_withBuffer (q : Port) (cause : EndCause) :
    sessionEnd q cause (s.withBuffer p b) = (sessionEnd q cause s).withBuffer p b := by
  have released : ∀ s : State, releaseForSessionEnd q (s.withBuffer p b) = (releaseForSessionEnd q s).withBuffer p b :=
    fun s => foldl_withBuffer p b s _ (fun s c => endHold_withBuffer p b s q c) allChans
  have disarmed : ∀ s : State, disarmPort q (s.withBuffer p b) = (disarmPort q s).withBuffer p b :=
    fun s => foldl_withBuffer p b s _ (fun _ _ => rfl) allInputs
  simp [sessionEnd, released, disarmed]

@[simp] theorem claimChans_withBuffer (q : Port) (set : List Chan) :
    claimChans q set (s.withBuffer p b) = (claimChans q set s).withBuffer p b :=
  foldl_withBuffer p b s (claimChan q) (fun _ _ => ite_withBuffer p b rfl rfl) set

@[simp] theorem moveGroup_withBuffer (c : Chan) (new : Option GroupId) :
    moveGroup c new (s.withBuffer p b) = (moveGroup c new s).withBuffer p b := by
  by_cases same : new = (s.chan c).cfg.group
  · simp only [moveGroup, withBuffer_chan, same, if_true]
  · simp only [moveGroup, withBuffer_chan, same, if_false, setChan_withBuffer, groupOccupied_withBuffer,
      vacate_withBuffer]
    split
    · exact congrArg (State.setChan · c _) (ite_withBuffer p b rfl rfl)
    · rfl

@[simp] theorem changeFeedbackMode_withBuffer (c : Chan) (was : Bool) :
    changeFeedbackMode c was (s.withBuffer p b) = (changeFeedbackMode c was s).withBuffer p b := by
  unfold changeFeedbackMode
  simp only [withBuffer_chan, setChan_withBuffer, enterFault_withBuffer, work_withBuffer]
  split
  · exact ite_withBuffer p b rfl rfl
  · exact ite_withBuffer p b rfl rfl
  · rfl
  · rfl
  · rfl

@[simp] theorem restartKeepalive_withBuffer (q : Port) :
    restartKeepalive q (s.withBuffer p b) = (restartKeepalive q s).withBuffer p b :=
  ite_withBuffer p b rfl rfl

/-! ## The timebase and the selector -/

@[simp] theorem setNotice_withBuffer (f : Notices → Notices) :
    (s.withBuffer p b).setNotice f = (s.setNotice f).withBuffer p b := rfl
@[simp] theorem restartAcquisition_withBuffer :
    restartAcquisition (s.withBuffer p b) = (restartAcquisition s).withBuffer p b := rfl
@[simp] theorem timebaseRecord_withBuffer (new old : LockState) (cause : TimebaseCause) :
    timebaseRecord new old cause (s.withBuffer p b) = (timebaseRecord new old cause s).withBuffer p b := rfl
theorem ltbSet_withBuffer (l : Ltb) :
    ({ s.withBuffer p b with ltb := l } : State) = ({ s with ltb := l } : State).withBuffer p b := rfl
theorem ltbSelSet_withBuffer (l : Ltb) (v : Selector) :
    ({ s.withBuffer p b with ltb := l, sel := v } : State) = ({ s with ltb := l, sel := v } : State).withBuffer p b := rfl
theorem selSet_withBuffer (v : Selector) :
    ({ s.withBuffer p b with sel := v } : State) = ({ s with sel := v } : State).withBuffer p b := rfl

@[simp] theorem changeLock_withBuffer (new : LockState) (cause : TimebaseCause) :
    changeLock new cause (s.withBuffer p b) = (changeLock new cause s).withBuffer p b := by
  unfold changeLock
  simp only [ltbSet_withBuffer, timebaseRecord_withBuffer, setNotice_withBuffer]
  exact ite_withBuffer p b rfl rfl

theorem autoSwitch_withBuffer : autoSwitch (s.withBuffer p b) = (autoSwitch s).withBuffer p b := by
  have begins : switched (s.withBuffer p b) = (switched s).withBuffer p b := rfl
  rw [autoSwitch_eq, autoSwitch_eq, begins, timebaseRecord_withBuffer, setNotice_withBuffer, withBuffer_ltb]

@[simp] theorem testStanding_withBuffer : testStanding (s.withBuffer p b) = (testStanding s).withBuffer p b :=
  ite_withBuffer p b (autoSwitch_withBuffer p b s) rfl

end

/-- R32: what a change of the selection does to the timebase, once the selection is made and its offset loaded. -/
def reselectionWork (s : State) : State :=
  let s := { s with ltb := { clearWindow s.ltb with baseValid := false } }
  match s.ltb.lock with
  | .locked => enterHoldover .selection { s with ltb := { s.ltb with missCount := 0 } }
  | .holdover => { s with ltb := { s.ltb with relockCount := 0 } }
  | .lost => restartAcquisition s
  | .stopped => restartAcquisition s

theorem changeSelection_eq (r : RefId) (s : State) :
    changeSelection r s = reselectionWork (loadOffset { s with sel := { s.sel with selected := r } }) := rfl

section
variable (p : Port) (b : Buffer) (s : State)

theorem reselectionWork_withBuffer : reselectionWork (s.withBuffer p b) = (reselectionWork s).withBuffer p b := by
  unfold reselectionWork enterHoldover
  simp only [withBuffer_ltb, ltbSet_withBuffer, changeLock_withBuffer, restartAcquisition_withBuffer]
  split <;> rfl

theorem changeSelection_withBuffer (r : RefId) :
    changeSelection r (s.withBuffer p b) = (changeSelection r s).withBuffer p b :=
  reselectionWork_withBuffer p b (loadOffset { s with sel := { s.sel with selected := r } })

@[simp] theorem setSelector_withBuffer (mode : RefMode) (oa ob : LineStep) :
    setSelector mode oa ob (s.withBuffer p b) = (setSelector mode oa ob s).withBuffer p b := by
  have made : ∀ s : State, selectionMade mode (s.withBuffer p b) = (selectionMade mode s).withBuffer p b := fun s =>
    ite_withBuffer p b (changeSelection_withBuffer p b s _) (ite_withBuffer p b rfl rfl)
  rw [setSelector_eq, setSelector_eq, selSet_withBuffer, made, testStanding_withBuffer]
  exact ite_withBuffer p b rfl rfl

@[simp] theorem setDevice_withBuffer (d : DeviceSettings) :
    setDevice d (s.withBuffer p b) = (setDevice d s).withBuffer p b := by
  rw [setDevice, setDevice, ← setSelector_withBuffer]
  rfl

/-! ## The requests -/

/-- The reply with another response buffer in its state. -/
def Reply.withBuffer (r : Reply) (p : Port) (b : Buffer) : Reply := { r with state := r.state.withBuffer p b }

theorem statusPayload_withBuffer (q : Port) : statusPayload q (s.withBuffer p b) = statusPayload q s := by
  have frameErrors : ((s.withBuffer p b).front q).frameErrors = (s.front q).frameErrors := by
    rw [State.withBuffer, State.setFront_front]
    split
    · next own => rw [← own]
    · rfl
  unfold statusPayload
  rw [frameErrors]
  rfl

theorem setFront_setFront_same (q : Port) (x y : FrontEnd) : (s.setFront q x).setFront q y = s.setFront q y := by
  simp only [State.setFront, Vector.set_set]

theorem clearFrameErrors_withBuffer :
    clearFrameErrors p (s.withBuffer p b) = (clearFrameErrors p s).withBuffer p b := by
  simp only [clearFrameErrors, State.withBuffer, setFront_setFront_same, State.setFront_front_same]

theorem drawsSet_withBuffer (k : Nat) :
    ({ s.withBuffer p b with draws := k } : State) = ({ s with draws := k } : State).withBuffer p b := rfl

theorem shuffle_withBuffer {α : Type} (n : Nat) (l : List α) :
    shuffle n l (s.withBuffer p b) = ((shuffle n l s).1, (shuffle n l s).2.withBuffer p b) := by
  induction n generalizing l s with
  | zero => rfl
  | succ n ih =>
    match l with
    | [] => rfl
    | [_] => rfl
    | x :: y :: l => simp only [shuffle, State.draw, drawsSet_withBuffer, ih]; rfl

theorem inFreeOrder_withBuffer {α : Type} (l : List α) :
    (s.withBuffer p b).inFreeOrder l = ((s.inFreeOrder l).1, (s.inFreeOrder l).2.withBuffer p b) :=
  shuffle_withBuffer p b s l.length l

theorem cancelEntries_withBuffer (q : Port) (f : CancelForm) :
    cancelEntries q f (s.withBuffer p b) = (cancelEntries q f s).withBuffer p b := by
  have drained : drainedBy q f (s.withBuffer p b) = drainedBy q f s := rfl
  unfold cancelEntries
  simp only [drained, withBuffer_sched, inFreeOrder_withBuffer, removeWhere_withBuffer, work_withBuffer]
  rfl

theorem admitEntry_withBuffer (q : Port) (x : ScheduleParams) :
    admitEntry q x (s.withBuffer p b) = (admitEntry q x s).withBuffer p b := by
  have tag : nextTag (s.withBuffer p b) = nextTag s := rfl
  unfold admitEntry
  simp only [tag, withBuffer_ltb, withBuffer_sched]
  split <;> rfl

theorem schedulePayload_withBuffer (q : Port) (start : Nat) :
    schedulePayload q start (s.withBuffer p b) = schedulePayload q start s := by
  rw [schedulePayload, schedulePayload, slotBytes_eq, slotBytes_eq]
  rfl

theorem serveAttach_withBuffer (keepalive subs : Byte) :
    serveAttach p keepalive subs (s.withBuffer p b) = (serveAttach p keepalive subs s).withBuffer p b := by
  unfold serveAttach
  split
  · rfl
  · next set _ =>
    have taken :
        (if ((s.withBuffer p b).session p).attached then renewSession p keepalive set (s.withBuffer p b)
          else openSession p keepalive set (s.withBuffer p b)) =
        (if (s.session p).attached then renewSession p keepalive set s else openSession p keepalive set s).withBuffer p b :=
      ite_withBuffer p b rfl (clearFrameErrors_withBuffer p b (s.setSession p _))
    dsimp only
    rw [taken]
    rfl

theorem serveDetach_withBuffer : serveDetach p (s.withBuffer p b) = (serveDetach p s).withBuffer p b := by
  have holds : (s.withBuffer p b).holds p = s.holds p := rfl
  unfold serveDetach
  rw [holds, sessionEnd_withBuffer]
  split <;> rfl

theorem serveResetPort_withBuffer : serveResetPort p (s.withBuffer p b) = (serveResetPort p s).withBuffer p b := by
  have ended :
      (if ((s.withBuffer p b).session p).attached then sessionEnd p .portReset (s.withBuffer p b)
        else s.withBuffer p b) =
      (if (s.session p).attached then sessionEnd p .portReset s else s).withBuffer p b :=
    ite_withBuffer p b (sessionEnd_withBuffer p b s p .portReset) rfl
  unfold serveResetPort
  dsimp only
  rw [ended, clearFrameErrors_withBuffer]
  rfl

theorem serveSetDevice_withBuffer (a : SetDeviceArgs) :
    serveSetDevice p a (s.withBuffer p b) = (serveSetDevice p a s).withBuffer p b := by
  have shared : sharedInUse p (s.withBuffer p b) = sharedInUse p s := rfl
  unfold serveSetDevice
  simp only [shared, setDevice_withBuffer]
  split
  · rfl
  · split <;> rfl

theorem serveClaim_withBuffer (chans : BitVec 16) :
    serveClaim p chans (s.withBuffer p b) = (serveClaim p chans s).withBuffer p b := by
  have refusal : ∀ set, claimRefusal p set (s.withBuffer p b) = claimRefusal p set s := fun _ => rfl
  unfold serveClaim
  simp only [refusal, claimChans_withBuffer]
  split
  · rfl
  · split <;> rfl

theorem serveRelease_withBuffer (chans : BitVec 16) (mode : Byte) :
    serveRelease p chans mode (s.withBuffer p b) = (serveRelease p chans mode s).withBuffer p b := by
  have holds : (s.withBuffer p b).holds p = s.holds p := rfl
  unfold serveRelease
  simp only [holds, releaseChans_withBuffer]
  split
  · split <;> rfl
  · rfl

theorem serveSetChannel_withBuffer (a : SetChannelArgs) :
    serveSetChannel p a (s.withBuffer p b) = (serveSetChannel p a s).withBuffer p b := by
  have refusal : ∀ c cfg, configRefusal p c cfg (s.withBuffer p b) = configRefusal p c cfg s := fun _ _ => rfl
  unfold serveSetChannel configure
  simp only [refusal, withBuffer_chan, moveGroup_withBuffer, setChan_withBuffer, changeFeedbackMode_withBuffer]
  split
  · split <;> rfl
  · rfl

theorem serveClearFault_withBuffer (channel : Byte) :
    serveClearFault p channel (s.withBuffer p b) = (serveClearFault p channel s).withBuffer p b := by
  have refusal : ∀ c, clearFaultRefusal p c (s.withBuffer p b) = clearFaultRefusal p c s := fun _ => rfl
  unfold serveClearFault
  simp only [refusal, withBuffer_chan, setChan_withBuffer, work_withBuffer]
  split
  · rfl
  · split <;> rfl

theorem serveSchedule_withBuffer (a : ScheduleArgs) :
    serveSchedule p a (s.withBuffer p b) = (serveSchedule p a s).withBuffer p b := by
  have params : scheduleParams (s.withBuffer p b) a = scheduleParams s a := rfl
  have refusal : ∀ q, scheduleRefusal p q (s.withBuffer p b) = scheduleRefusal p q s := fun _ => rfl
  unfold serveSchedule
  simp only [params, refusal, admitEntry_withBuffer]
  split
  · rfl
  · split <;> rfl

theorem serveCancel_withBuffer (form : Byte) (tag : BitVec 16) (channel : Byte) :
    serveCancel p form tag channel (s.withBuffer p b) = (serveCancel p form tag channel s).withBuffer p b := by
  unfold serveCancel
  simp only [withBuffer_sched, cancelEntries_withBuffer]
  split
  · rfl
  · split <;> rfl

/-- R171: no request reads the response buffer of its port at its owning block. -/
theorem act_withBuffer (r : Request) : act p r (s.withBuffer p b) = (act p r s).withBuffer p b := by
  cases r with
  | nop | readDevice => rfl
  | attach keepalive subs => exact serveAttach_withBuffer p b s keepalive subs
  | detach => exact serveDetach_withBuffer p b s
  | resetPort => exact serveResetPort_withBuffer p b s
  | readStatus => exact congrArg (accept · (s.withBuffer p b)) (statusPayload_withBuffer p b s p)
  | clearNotices notices =>
    unfold act serveClearNotices
    dsimp only
    split <;> rfl
  | setDevice a => exact serveSetDevice_withBuffer p b s a
  | claim chans => exact serveClaim_withBuffer p b s chans
  | release chans mode => exact serveRelease_withBuffer p b s chans mode
  | setChannel a => exact serveSetChannel_withBuffer p b s a
  | readChannel channel =>
    unfold act serveReadChannel
    dsimp only
    split <;> rfl
  | clearFault channel => exact serveClearFault_withBuffer p b s channel
  | schedule a => exact serveSchedule_withBuffer p b s a
  | cancel form tag channel => exact serveCancel_withBuffer p b s form tag channel
  | readSchedule start =>
    unfold act serveReadSchedule
    simp only [schedulePayload_withBuffer]
    split <;> rfl
  | armCapture input edge count =>
    unfold act serveArmCapture
    dsimp only
    split <;> rfl
  | disarmCapture input =>
    unfold act serveDisarmCapture
    dsimp only
    split <;> rfl
  | takeEvents count =>
    unfold act serveTakeEvents
    dsimp only
    split <;> rfl
  | ackEvents number =>
    unfold act serveAckEvents
    simp only [withBuffer_session]
    split <;> rfl

/-- R171: no request reads the response buffer of its port. -/
theorem replyTo_withBuffer (r : Received) : replyTo p r (s.withBuffer p b) = (replyTo p r s).withBuffer p b := by
  cases r with
  | checkError => rfl
  | badRequest =>
    show refuse _ (restartKeepalive p (s.withBuffer p b)) = _
    rw [restartKeepalive_withBuffer]
    rfl
  | good r =>
    simp only [replyTo, serve, restartKeepalive_withBuffer, withBuffer_session, act_withBuffer]
    split <;> rfl

/-- R152, R171: what was in the buffer before a request is taken is lost. -/
theorem takeRequest_withBuffer (f : Frame) : takeRequest p f (s.withBuffer p b) = takeRequest p f s := by
  rw [takeRequest, replyTo_withBuffer]
  simp only [takeRequest, setPending, Reply.withBuffer, State.withBuffer, setFront_setFront_same, State.setFront_front_same]
  rfl

end


/-! ## The response buffer (R171, R179) -/

/-- R120: an OK response of five bytes that begins with DETACHED, the session state before the request. -/
theorem opensSession_iff (r : Response) :
    opensSession r = true ↔ r.status = .ok ∧ r.payload.length = 5 ∧ r.payload.head? = some 0 := by
  obtain ⟨seq, status, payload⟩ := r
  unfold opensSession
  dsimp only
  split
  · simp
  · next other =>
    refine ⟨nofun, fun opens => ?_⟩
    obtain ⟨ok, length, -⟩ := opens
    match payload, length with
    | [before, _, _, _, _], _ => exact (other _ _ _ _ _ ok rfl).elim

/-- R120: the response as its moment shows it, by the fields of the response. -/
theorem responseNow_eq (p : Port) (r : Response) (n : Nat) (s : State) :
    responseNow p r n s =
      if n = s.now + 800 ∧ r.status = .ok ∧ r.payload.length = 5 ∧ r.payload.head? = some 0 then
        { r with payload := r.payload.take 3 ++ bytes16 (s.session p).nextSeq }
      else r := by
  simp only [responseNow, opensSession_iff, composeCounts, withNextSeq]

/-- R171: the response that has been composed, with no request held. -/
theorem composed_free {p : Port} {r : Response} {n : Nat} {s : State} (pending : (s.front p).buffer = .pending r n)
    (free : (s.front p).held = none) : composed p s = becomeReady p (responseNow p r n s) s := by
  simp only [composed, pending, free]

/-- R171: the response discarded for the held request, which is taken. -/
theorem composed_taken {p : Port} {r : Response} {n : Nat} {f : Frame} {s : State}
    (pending : (s.front p).buffer = .pending r n) (held : (s.front p).held = some f) :
    composed p s = takeRequest p f (s.setFront p { s.front p with held := none }) := by
  simp only [composed, pending, held]

/-- R171: a response becomes READY where it does not begin to be sent. -/
theorem becomeReady_waits {p : Port} {s : State} (waits : p ≠ 0 ∨ s.sending.isSome = true) (r : Response) :
    becomeReady p r s = s.setFront p { s.front p with buffer := .ready r } := by
  unfold becomeReady
  split
  · next zero =>
    obtain ⟨x, sends⟩ := Option.isSome_iff_exists.mp (waits.resolve_left (not_not.mpr zero))
    simp only [beginSending, State.setFront_sending, sends]
  · rfl

/-- R179: the transmitter is IDLE, and the buffer READY. -/
theorem beginSending_ready {r : Response} {s : State} (idle : s.sending = none) (ready : (s.front 0).buffer = .ready r) :
    beginSending s =
      { s.setFront 0 { s.front 0 with buffer := .empty } with
        sending := some { bytes := 0xC3 :: responseFrame r, since := s.now } } := by
  simp only [beginSending, idle, ready]
  rfl

theorem becomeReady_sent {s : State} (idle : s.sending = none) (r : Response) :
    becomeReady 0 r s =
      { s.setFront 0 { s.front 0 with buffer := .empty } with
        sending := some { bytes := 0xC3 :: responseFrame r, since := s.now } } := by
  have ready : ((s.setFront 0 { s.front 0 with buffer := .ready r }).front 0).buffer = .ready r := by
    rw [State.setFront_front_same]
  rw [becomeReady, if_pos rfl, beginSending_ready (s := s.setFront 0 _) idle ready, State.setFront_front_same, setFront_setFront_same]
  rfl

theorem exec_responseComposed (p : Port) {s : State} (running : s.power = .running) :
    exec (.responseComposed p) s = .next (composed p s) :=
  congrArg Host.Outcome.next (State.whileRunning_running running _)

theorem pending_of_not_takes {b : Buffer} (busy : takesRequest b = false) : ∃ r n, b = .pending r n := by
  cases b with
  | pending r n => exact ⟨r, n, rfl⟩
  | empty | ready => cases busy

/-- Settles O14: a request that comes while the buffer is PENDING is held; a response that is composed waits, is sent, or
gives way to the held request, whose taking does not look at the buffer. -/
theorem responseBuffer : Obligations.ResponseBuffer := by
  unfold Obligations.ResponseBuffer
  intro p s running shown
  have isShown : ∀ r n, responseNow p r n s = shown r n := fun r n => responseNow_eq p r n s
  refine ⟨fun seq r busy => ?_, fun r n pending free waits => ?_, fun r n pending free zero idle => ?_,
    fun r n seq q pending held => ?_, fun takes => ?_⟩
  · obtain ⟨r', n, pending⟩ := pending_of_not_takes busy
    rw [exec_requestInstr_running p seq r running, submit_held pending (by simp)]
  · rw [exec_responseComposed p running, composed_free pending free, becomeReady_waits waits, isShown]
  · subst zero
    rw [exec_responseComposed 0 running, composed_free pending free, becomeReady_sent idle, isShown]
  · rw [exec_responseComposed p running, composed_taken pending held]
    let v := s.setFront p { s.front p with buffer := .empty, held := none }
    have emptied : s.setFront p { s.front p with held := none } = v.withBuffer p (.pending r n) := by
      simp only [v, State.withBuffer, setFront_setFront_same, State.setFront_front_same, ← pending]
    have empty : (v.front p).buffer = .empty := by rw [State.setFront_front_same]
    rw [emptied, takeRequest_withBuffer, exec_requestInstr_running p seq q (s := v) running]
    exact congrArg _ (submit_taken (fun r n is => nomatch empty.symm.trans is) (by simp)).symm
  · rw [exec_responseComposed p running, composed_idle (not_pending_of_takes takes)]

end Sys2Proof.Machine
end

section
/-! O58: the line of HP0 (R175 to R179). -/

namespace Sys2Proof.Machine

/-! ## A byte on the line (R176) -/

theorem joined_bits (d : Byte) :
    BitVec.ofBool (d.getLsbD 7) ++ BitVec.ofBool (d.getLsbD 6) ++ BitVec.ofBool (d.getLsbD 5)
      ++ BitVec.ofBool (d.getLsbD 4) ++ BitVec.ofBool (d.getLsbD 3) ++ BitVec.ofBool (d.getLsbD 2)
      ++ BitVec.ofBool (d.getLsbD 1) ++ BitVec.ofBool (d.getLsbD 0) = d := by
  revert d
  decide

/-- R176: the receiver reads back the byte that is sent. -/
theorem readSerial_serialBits (b : RxByte) : readSerial (serialBits b) = some b := by
  obtain ⟨data, parity, stop⟩ := b
  show some (RxByte.mk _ parity stop) = _
  rw [joined_bits]

/-- Exclusive or over bits says whether the number of 1s is odd. -/
theorem foldl_xor_odd (l : List Bool) (acc : Bool) :
    l.foldl xor acc = (acc ^^ decide (l.countP (· = true) % 2 = 1)) := by
  induction l generalizing acc with
  | nil => exact (Bool.xor_false acc).symm
  | cons x l ih =>
    rw [List.foldl_cons, ih]
    cases x with
    | false => rw [Bool.xor_false, List.countP_cons_of_neg (by decide)]
    | true =>
      have flips : ∀ n, decide ((n + 1) % 2 = 1) = !decide (n % 2 = 1) := fun n => by
        rw [← decide_not, decide_eq_decide]
        omega
      rw [List.countP_cons_of_pos rfl, flips, Bool.xor_assoc, Bool.true_xor]

theorem rxError_false_iff (b : RxByte) :
    rxError b = false ↔ b.parityBit = evenParity b.data ∧ b.stopBit = true := by
  rw [rxError, Bool.or_eq_false_iff, bne_eq_false_iff_eq, Bool.not_eq_false']

/-- R176: no error, by the number of 1s from the data bits to the stop bit. -/
theorem rxError_false_iff_odd (b : RxByte) :
    rxError b = false ↔ ((serialBits b).drop 1).countP (· = true) % 2 = 1 ∧ b.stopBit = true := by
  let dataBits := [0, 1, 2, 3, 4, 5, 6, 7].map fun i => b.data.getLsbD i
  have parity : evenParity b.data = decide (dataBits.countP (· = true) % 2 = 1) := by
    rw [← Bool.false_xor (decide _), ← foldl_xor_odd, List.foldl_map]
    rfl
  have count : ((serialBits b).drop 1).countP (· = true) =
      dataBits.countP (· = true) + [b.parityBit, b.stopBit].countP (· = true) :=
    List.countP_append (l₁ := dataBits) (l₂ := [b.parityBit, b.stopBit])
  rw [rxError_false_iff, parity, count]
  refine and_congr_left fun stop => ?_
  rw [stop]
  cases b.parityBit with
  | false =>
    show false = _ ↔ (_ + 1) % 2 = 1
    rw [eq_comm, decide_eq_false_iff_not]
    omega
  | true =>
    show true = _ ↔ (_ + 2) % 2 = 1
    rw [eq_comm, decide_eq_true_iff]
    omega

/-! ## What is sent (R176, R179) -/

theorem txdPin_idle {s : State} (idle : s.sending = none) : txdPin s = true := by
  unfold txdPin
  split
  · next sends => exact nomatch idle.symm.trans sends
  · rfl

theorem txdPin_sending {x : Sending} {s : State} (running : s.power = .running) (sends : s.sending = some x) :
    txdPin s = (sentBits x.bytes)[bitsPassed s x]?.getD true := by
  simp only [txdPin, running, sends]

/-- R179: a response that has been READY meanwhile follows at once. -/
theorem transmissionComplete_ready {r : Response} {s : State} (sends : s.sending.isSome = true)
    (ready : (s.front 0).buffer = .ready r) :
    transmissionComplete s =
      { s.setFront 0 { s.front 0 with buffer := .empty } with
        sending := some { bytes := 0xC3 :: responseFrame r, since := s.now } } := by
  obtain ⟨x, sends⟩ := Option.isSome_iff_exists.mp sends
  simp only [transmissionComplete, sends]
  exact beginSending_ready (s := { s with sending := none }) rfl ready

theorem transmissionComplete_other {s : State} (sends : s.sending.isSome = true)
    (other : ∀ r, (s.front 0).buffer ≠ .ready r) : transmissionComplete s = { s with sending := none } := by
  obtain ⟨x, sends⟩ := Option.isSome_iff_exists.mp sends
  simp only [transmissionComplete, sends]
  unfold beginSending
  split
  · next r _ ready => exact absurd ready (other r)
  · rfl

/-! ## Bytes by the state of the receiver (R177) -/

theorem takeByte_stray {b : RxByte} {s : State} (idle : s.receiver = .idle)
    (stray : ¬(b.data = startOfFrame ∧ rxError b = false)) : takeByte b s = frameError 0 s := by
  simp only [takeByte, idle, if_neg stray]

theorem takeByte_start {b : RxByte} {s : State} (idle : s.receiver = .idle) (start : b.data = startOfFrame)
    (good : rxError b = false) : takeByte b s = { s with receiver := .receiving [] s.now } := by
  simp only [takeByte, idle, if_pos (And.intro start good)]

theorem takeByte_discarding {k : Nat} (b : RxByte) {s : State} (discards : s.receiver = .discarding k) :
    takeByte b s = { s with receiver := .discarding s.now } := by
  simp only [takeByte, discards]

theorem takeByte_error {got : List Byte} {k : Nat} {b : RxByte} {s : State} (receives : s.receiver = .receiving got k)
    (error : rxError b = true) : takeByte b s = discardFrame s := by
  simp only [takeByte, receives, error, if_true]

theorem takeByte_good {got : List Byte} {k : Nat} {b : RxByte} {s : State} (receives : s.receiver = .receiving got k)
    (good : rxError b = false) : takeByte b s = receiveInFrame (got ++ [b.data]) s := by
  simp only [takeByte, receives, good, Bool.false_eq_true, if_false]

/-- A byte without error leaves RXD high. -/
theorem stopBit_good {b : RxByte} (good : rxError b = false) : b.stopBit = true :=
  ((rxError_false_iff b).mp good).2

/-- R177: LEN is out of range, whether the byte has an error or not. -/
theorem takeByte_badLen {k : Nat} {b : RxByte} {s : State} (receives : s.receiver = .receiving [] k)
    (out : lenInRange b.data = false) : takeByte b s = discardFrame s := by
  cases error : rxError b with
  | true => exact takeByte_error receives error
  | false =>
    rw [takeByte_good receives error]
    simp only [List.nil_append, receiveInFrame, out, Bool.not_false, if_true]

/-- R177: a byte of a frame that is not whole with it, LEN being in range. -/
theorem takeByte_more {got : List Byte} {k : Nat} {b : RxByte} {s : State} (receives : s.receiver = .receiving got k)
    (good : rxError b = false)
    (more : ∀ len ∈ (got ++ [b.data]).head?, lenInRange len = true ∧ got.length + 1 < len.toNat + 2) :
    takeByte b s = { s with receiver := .receiving (got ++ [b.data]) s.now } := by
  rw [takeByte_good receives good]
  cases whole : got ++ [b.data] with
  | nil => exact absurd whole (List.concat_ne_nil _ _)
  | cons len tail =>
    obtain ⟨inRange, short⟩ := more len (by rw [whole]; rfl)
    have length : got.length + 1 = (len :: tail).length := by rw [← whole, List.length_append]; rfl
    exact receiveInFrame_short inRange (length ▸ short)

/-! ## Bytes one after another -/

/-- The level that bytes leave RXD at, of which the first is `b`: that of the last stop bit. -/
def lastLevel (b : RxByte) (rest : List RxByte) : Bool := ((b :: rest).getLast?.map (·.stopBit)).getD true

theorem lastLevel_cons (b c : RxByte) (rest : List RxByte) : lastLevel b (c :: rest) = lastLevel c rest := by
  rw [lastLevel, List.getLast?_cons_cons, lastLevel]

theorem lastLevel_good (b : Byte) (rest : List Byte) : lastLevel (rxGood b) (rest.map rxGood) = true := by
  rw [lastLevel, ← List.map_cons, List.getLast?_map, Option.map_map]
  cases (b :: rest).getLast? <;> rfl

/-- RXD follows its wire. -/
theorem foldl_setRxd (b : RxByte) (rest : List RxByte) (s : State) :
    (b :: rest).foldl (fun s b => setRxd b.stopBit s) s = setRxd (lastLevel b rest) s := by
  induction rest generalizing b s with
  | nil => rfl
  | cons c rest ih =>
    rw [List.foldl_cons, ih, lastLevel_cons]
    rfl

theorem receiveBytes_cons (b : RxByte) (rest : List RxByte) (s : State) :
    receiveBytes (b :: rest) s = receiveBytes rest (takeByte b (setRxd b.stopBit s)) := rfl

theorem receiveBytes_append (bytes rest : List RxByte) (s : State) :
    receiveBytes (bytes ++ rest) s = receiveBytes rest (receiveBytes bytes s) := List.foldl_append

/-- R177: in DISCARDING bytes do nothing but keep the quiet from beginning. -/
theorem receiveBytes_discarding (rest : List RxByte) {s : State} (discards : s.receiver = .discarding s.now) :
    receiveBytes rest s = rest.foldl (fun s b => setRxd b.stopBit s) s := by
  induction rest generalizing s with
  | nil => rfl
  | cons b rest ih =>
    have still : (setRxd b.stopBit s).receiver = .discarding (setRxd b.stopBit s).now := discards
    have stays : takeByte b (setRxd b.stopBit s) = setRxd b.stopBit s := by rw [takeByte_discarding b still, ← still]
    rw [receiveBytes_cons, stays, List.foldl_cons, ih still]

/-- R177: a frame is discarded at a byte of it, with the bytes behind. -/
theorem receiveBytes_discardFrame {b : RxByte} {s : State}
    (discards : takeByte b (setRxd b.stopBit s) = discardFrame (setRxd b.stopBit s)) (rest : List RxByte) :
    receiveBytes (b :: rest) s = { setRxd (lastLevel b rest) (frameError 0 s) with receiver := .discarding s.now } := by
  rw [receiveBytes_cons, discards, receiveBytes_discarding rest rfl]
  exact foldl_setRxd b rest (discardFrame s)

/-- R177: the start of frame at an IDLE receiver. -/
theorem receiveBytes_start {s : State} (idle : s.receiver = .idle) (rest : List RxByte) :
    receiveBytes (rxGood startOfFrame :: rest) s =
      receiveBytes rest { setRxd true s with receiver := .receiving [] (setRxd true s).now } :=
  congrArg (receiveBytes rest) (takeByte_start (s := setRxd true s) idle rfl (rxError_good _))

/-- R177: error-free bytes of a frame that is not whole with them. -/
theorem receiveBytes_more (pre : List Byte) {got : List Byte} {s : State} (high : s.pins.rxd = true)
    (more : ∀ len ∈ (got ++ pre).head?, lenInRange len = true ∧ (got ++ pre).length < len.toNat + 2) :
    receiveBytes (pre.map rxGood) { s with receiver := .receiving got s.now } =
      { s with receiver := .receiving (got ++ pre) s.now } := by
  induction pre generalizing got with
  | nil => rw [List.append_nil]; rfl
  | cons b pre ih =>
    have joined : got ++ b :: pre = (got ++ [b]) ++ pre := List.append_cons got b pre
    rw [joined] at more ⊢
    have byte : takeByte (rxGood b) (setRxd true { s with receiver := .receiving got s.now }) =
        { s with receiver := .receiving (got ++ [b]) s.now } := by
      have left : setRxd true { s with receiver := .receiving got s.now } = { s with receiver := .receiving got s.now } := by
        rw [setRxd, ← high]
      rw [left]
      refine takeByte_more (b := rxGood b) rfl (rxError_good b) fun len first => ?_
      obtain ⟨inRange, short⟩ := more len (List.mem_head?_append_of_mem_head? first)
      rw [List.length_append, List.length_append] at short
      exact ⟨inRange, Nat.lt_of_le_of_lt (Nat.le_add_right _ _) short⟩
    rw [List.map_cons, receiveBytes_cons]
    exact (congrArg (receiveBytes _) byte).trans (ih more)

/-! ## Bytes as commands (log 28) -/

theorem bytesOnWire_running {n : Nat} {s : State} (still : (wireCounts n s).power = .running) (bytes : List RxByte) :
    bytesOnWire n bytes s = receiveBytes bytes (wireCounts n s) := by
  simp only [bytesOnWire, still]

section
variable {s : State} (running : s.power = .running) (n : Nat)
include running

theorem exec_hp0StrayByte (b : RxByte) : exec (.hp0StrayByte ⟨b, n⟩) s = .next (bytesOnWire n [b] s) :=
  congrArg Host.Outcome.next (State.whileRunning_running running _)

theorem exec_hp0RequestFrame_bytes (bytes : List Byte) :
    exec (.hp0RequestFrame ⟨bytes, n⟩) s = .next (bytesOnWire n (rxGood startOfFrame :: bytes.map rxGood) s) :=
  congrArg Host.Outcome.next (State.whileRunning_running running _)

theorem exec_hp0DamagedFrame (bytes : List RxByte) :
    exec (.hp0DamagedFrame ⟨bytes, n⟩) s = .next (bytesOnWire n (rxGood startOfFrame :: bytes) s) :=
  congrArg Host.Outcome.next (State.whileRunning_running running _)

end

/-- One count of the bytes of a command, on a part that goes on running. -/
theorem exec_onWire_running {s : State} (running : s.power = .running) (still : (tick (setRxd false s)).power = .running)
    (b : RxByte) (pre : List Byte) (bytes : List RxByte) (n : Nat) :
    exec (.hp0StrayByte ⟨b, n + 1⟩) s = exec (.hp0StrayByte ⟨b, n⟩) (tick (setRxd false s))
      ∧ exec (.hp0RequestFrame ⟨pre, n + 1⟩) s = exec (.hp0RequestFrame ⟨pre, n⟩) (tick (setRxd false s))
      ∧ exec (.hp0DamagedFrame ⟨bytes, n + 1⟩) s = exec (.hp0DamagedFrame ⟨bytes, n⟩) (tick (setRxd false s)) := by
  simp only [exec_hp0StrayByte running, exec_hp0StrayByte still, exec_hp0RequestFrame_bytes running,
    exec_hp0RequestFrame_bytes still, exec_hp0DamagedFrame running, exec_hp0DamagedFrame still,
    bytesOnWire_succ _ _ still, and_self]

/-- A device reset that begins in a count of the bytes ends the command. -/
theorem exec_onWire_reset {s : State} (running : s.power = .running) (ends : (tick (setRxd false s)).power ≠ .running)
    (b : RxByte) (pre : List Byte) (rest : List RxByte) (n : Nat) :
    exec (.hp0StrayByte ⟨b, n + 1⟩) s = .next (setRxd b.stopBit (tick (setRxd false s)))
      ∧ exec (.hp0RequestFrame ⟨pre, n + 1⟩) s = .next (setRxd true (tick (setRxd false s)))
      ∧ exec (.hp0DamagedFrame ⟨b :: rest, n + 1⟩) s = .next (setRxd (lastLevel b rest) (tick (setRxd false s))) := by
  obtain ⟨hold, reset⟩ : ∃ hold, (tick (setRxd false s)).power = .inReset hold := by
    cases power : (tick (setRxd false s)).power with
    | running => exact absurd power ends
    | inReset hold => exact ⟨hold, rfl⟩
  refine ⟨?_, ?_, ?_⟩
  · rw [exec_hp0StrayByte running, bytesOnWire_reset _ _ reset]
    rfl
  · rw [exec_hp0RequestFrame_bytes running, bytesOnWire_reset _ _ reset, foldl_setRxd, lastLevel_good]
  · rw [exec_hp0DamagedFrame running, bytesOnWire_reset _ _ reset, foldl_setRxd, lastLevel_cons]

/-- R178: the gap ends a frame that is being received. -/
theorem byteGapTimeout_receiving {got : List Byte} {k : Nat} {s : State} (receives : s.receiver = .receiving got k) :
    byteGapTimeout s = { frameError 0 s with receiver := .idle } := by
  simp only [byteGapTimeout, receives]

/-- R177: the quiet ends the discarding. -/
theorem quietEnd_discarding {k : Nat} {s : State} (discards : s.receiver = .discarding k) :
    quietEnd s = { setRxd true s with receiver := .idle } := by
  simp only [quietEnd, discards]

/-- Settles O58: the bytes of a command are received, after their counts, one by one by the state of the receiver. -/
theorem hp0Line : Obligations.Hp0Line := by
  unfold Obligations.Hp0Line
  intro b pre rest n s running rxd bits last u
  have act : ∀ {f : State → State} , s.whileRunning f = f s := State.whileRunning_running running _
  refine ⟨⟨rfl, readSerial_serialBits b, rxError_false_iff_odd b⟩, txdPin_idle, fun x sends => txdPin_sending running sends,
    fun zero => ?_, ?_, fun still => ?_, fun got k receives => ?_, fun k discards => ?_, fun sends r ready => ?_,
    fun sends other => ?_⟩
  · subst zero
    rfl
  · intro t
    split
    · next still => exact exec_onWire_running running still b pre (b :: rest) n
    · next ends => exact exec_onWire_reset running ends b pre rest n
  · have stray : exec (.hp0StrayByte ⟨b, n⟩) s = .next (takeByte b (setRxd b.stopBit u)) := by
      rw [exec_hp0StrayByte running, bytesOnWire_running still]
      rfl
    have damaged : ∀ bytes, exec (.hp0DamagedFrame ⟨bytes, n⟩) s =
        .next (receiveBytes (rxGood startOfFrame :: bytes) u) := fun bytes => by
      rw [exec_hp0DamagedFrame running, bytesOnWire_running still]
    have byte : ∀ {t : State}, takeByte b (setRxd b.stopBit u) = t → exec (.hp0StrayByte ⟨b, n⟩) s = .next t :=
      fun takes => stray.trans (congrArg _ takes)
    refine ⟨fun idle other => byte (takeByte_stray (s := setRxd _ u) idle other), fun idle start good => byte ?_,
      fun k discards => byte (takeByte_discarding (s := setRxd _ u) b discards),
      fun got k receives error => byte (takeByte_error (s := setRxd _ u) receives error),
      fun got k receives good more => byte ?_,
      fun k receives out => byte (takeByte_badLen (s := setRxd _ u) receives out), fun idle error more => ?_,
      fun idle _ out => ?_⟩
    · rw [stopBit_good good]
      exact takeByte_start (s := setRxd true u) idle start good
    · rw [stopBit_good good]
      exact takeByte_more (s := setRxd true u) receives good more
    · rw [damaged, receiveBytes_start idle, receiveBytes_append,
        receiveBytes_more pre (got := []) (s := setRxd true u) rfl more,
        receiveBytes_discardFrame (takeByte_error rfl error)]
      rfl
    · rw [damaged, receiveBytes_start idle, receiveBytes_discardFrame (takeByte_badLen rfl out)]
      rfl
  · exact congrArg Host.Outcome.next (act.trans (byteGapTimeout_receiving receives))
  · exact congrArg Host.Outcome.next (act.trans (quietEnd_discarding discards))
  · exact congrArg Host.Outcome.next (act.trans (transmissionComplete_ready sends ready))
  · exact congrArg Host.Outcome.next (act.trans (transmissionComplete_other sends other))

end Sys2Proof.Machine
end
